-- ==== Sys2Proof/Word.lean ====
section
/-! DEFINITION. The word types of the part: a byte, a 32-bit word (00_scope.md, Conventions) and a 24-bit RGB value. -/

namespace Sys2Proof

/-- One byte of memory, a byte of the camera, an 8-bit level. -/
abbrev Byte := BitVec 8

/-- A 32-bit word, stored little-endian (00_scope.md, Conventions). -/
abbrev Word := BitVec 32

/-- A 24-bit colour: blue 7:0, green 15:8, red 23:16 (the FILL arrangement of 11_memory_resident_formats). -/
abbrev Rgb := BitVec 24

end Sys2Proof
end

