-- ==== Sys2Proof/Syntax.lean ====
section
/-! DEFINITION. The commands of the part: one constructor of `Instr` for each row of spec/opcode_table.json, with the operands
that come from outside. -/

namespace Sys2Proof

/-- The three display outputs (00_scope). -/
inductive Output where
  | ctr
  | rl
  | rr
deriving DecidableEq, Repr

/-- The two rear outputs (00_scope). -/
inductive Rear where
  | rl
  | rr
deriving DecidableEq, Repr

/-- One word of a processor write burst: the data and its four byte enables, bit i for byte i (R121). -/
structure WriteWord where
  data : Word
  enables : BitVec 4
deriving DecidableEq, Repr

/-- A request at the processor port (R121): the word address, the direction, the burst length in words, and for a write one
data word with its byte enables for each word of the burst. The port carries lengths 1 to 8. -/
structure Request where
  write : Bool
  wordAddr : BitVec 30
  len : Nat
  data : List WriteWord
deriving DecidableEq, Repr

/-- What a command record carries beside its kind (R154): the notify flag, the target field and the five operand words. -/
structure Rec where
  notify : Bool
  target : Byte
  op1 : Word
  op2 : Word
  op3 : Word
  op4 : Word
  op5 : Word
deriving DecidableEq, Repr

/-- The commands: one constructor for each row of spec/opcode_table.json, in its order. -/
inductive Instr where
  /-- Power-on reset; the levels of MEMSZ and CA_SEL at its end (R134, R135). -/
  | por (memsz : Bool) (caSel : BitVec 4)
  | sdramInitComplete
  | resetNAssert
  /-- Release of RESET_N; the levels of MEMSZ and CA_SEL (R134, R136). -/
  | resetNRelease (memsz : Bool) (caSel : BitVec 4)
  | selfRefreshExit
  | partTimeTick
  /-- The processor presents a request (R122). -/
  | take (q : Request)
  | procReadCompletion
  | procWriteCompletion
  /-- A full write to the watched word, with its value (R132). -/
  | cmdPost (v : Word)
  | evtAck (v : Word)
  /-- `second` says which of the two words: PEND_CLR_0 or PEND_CLR_1. -/
  | pendClr (second : Bool) (v : Word)
  | occClr (second : Bool) (v : Word)
  | steer (v : Word)
  | obstacle (v : Word)
  | vehicle (v : Word)
  | sampleClr (v : Word)
  | grantEnd
  | statusWriteEnd
  | eventRecordWritten
  | consumption
  /-- A record has arrived with a kind code that names no command (R157). -/
  | badKind (kind : Byte) (r : Rec)
  /-- A record of the kind has arrived at the CMU (R157). The same for the 26 that follow. -/
  | outputTiming (r : Rec)
  | outputStart (r : Rec)
  | outputStop (r : Rec)
  | planeSet (r : Rec)
  | paletteLoad (r : Rec)
  | paletteLoadReadEnd
  | rampLoad (r : Rec)
  | rampLoadReadEnd
  | menuFade (r : Rec)
  | paceSet (r : Rec)
  | filmBuffers (r : Rec)
  | filmBuffersReadEnd
  | filmPost (r : Rec)
  | filmFlush (r : Rec)
  | filmRoute (r : Rec)
  | filmClock (r : Rec)
  | cameraSetup (r : Rec)
  | cameraSetupReadEnd
  | gammaLoad (r : Rec)
  | gammaLoadReadEnd
  | cameraEnable (r : Rec)
  | reverseSetup (r : Rec)
  | guideSetup (r : Rec)
  | guideSetupReadEnd
  | chimeTable (r : Rec)
  | chimeTableReadEnd
  | chimePlay (r : Rec)
  | chimeCancel (r : Rec)
  | proximitySetup (r : Rec)
  | proximitySetupReadEnd
  | guardSetup (r : Rec)
  | guardSetupReadEnd
  | arbProfile (r : Rec)
  | sampleSetup (r : Rec)
  | softRestart (r : Rec)
  | eventSetup (r : Rec)
  | frameStart (o : Output)
  | lineStart (o : Output)
  | lineComplete
  | frameEnd (o : Output)
  /-- The level of RLP or RRP now (R23). -/
  | linkChange (o : Rear) (level : Bool)
  | linkTimerExpiry (o : Rear)
  /-- An asserting HS edge; the camera pixel clocks since the last camera command (R40). -/
  | hsEdge (clocks : Nat)
  /-- A byte pair of the line: the chroma byte and the Y byte (R40, R48). -/
  | cameraSample (chroma y : Byte)
  | vsEdge (clocks : Nat)
  | camPresenceTimerExpiry
  | trailerWriteComplete
  /-- The level of REV now (R60). -/
  | revChange (level : Bool)
  | revTimerExpiry
  | engageTimerExpiry
  | staleTimerExpiry
  | lingerTimerExpiry
  | steeringStaleTimerExpiry
  | obstacleStaleTimerExpiry
  | recomputeCompletion
  | refreshTimerExpiry
  | lineSample
  | noteEnd
  | gapEnd
  | chimeFinish
  | cancelReleaseEnd
  | beepEnd
  | proximityGapEnd
  | toneReleaseEnd
deriving DecidableEq, Repr

end Sys2Proof
end

