-- ==== Sys2Proof/Decode.lean ====
section
/-! DEFINITION. No row of spec/opcode_table.json has bits: the commands are steps of the part, not words. The fields of the
command records in memory are read in Machine/Operands.lean (R179). -/

namespace Sys2Proof

/-- The command a word spells by the table's bits: no row gives bits, so none. -/
def decodeTableWord (_nbits _w : Nat) : Option Instr := none

end Sys2Proof
end

