-- ==== Sys2Proof/Config.lean ====
section
/-! DEFINITION. What the part fixes (sizes, places in the control area, times of the spec) and the free values:
opaque constants that nothing in Lean can evaluate. -/

namespace Sys2Proof.Config

/-- Part code in the status block (R163). -/
def partCode : Nat := 0x3140

/-- Revision in the status block (R163). -/
def revision : Nat := 1

/-- Offsets inside the control area (11_memory_resident_formats, Control area and watched words). -/
def statusOffset : Nat := 0x0100
def eventRingOffset : Nat := 0x0400
def commandRingOffset : Nat := 0x0800

/-- Bytes of one MiB, and of the 64 KiB unit of the guard table and the control area (00_scope, Conventions). -/
def mib : Nat := 1048576
def unit64k : Nat := 65536

/-- Stability times in milliseconds: presence inputs (R23), REV (R60), camera presence (R42). -/
def linkMs : Nat := 100
def revMs : Nat := 20
def presenceMs : Nat := 200

/-- The stale limit while no setup is installed (R81), and the hysteresis then (R87). -/
def defaultStaleMs : Nat := 500
def defaultHysteresis : Nat := 20

/-- Bytes the capture buffer holds, bytes from which it requests, bytes from which it is URGENT (R52). -/
def captureBytes : Nat := 4096
def captureRequest : Nat := 32
def captureUrgent : Nat := 2048

/-- Audio samples in a millisecond (R108). -/
def samplesPerMs : Nat := 48

/-- FREE VALUE (log entry 11). The wait of a sampled transaction that was not granted at its take, in 10 ns units (R151):
no step of the part counts 10 ns. -/
opaque sampleWait : Nat → BitVec 16

/-- FREE VALUE (log entry 12). Which of several clients that start to request together at an IDLE memory is taken first
(R141: either may be taken first). -/
opaque firstTaken : Nat → Nat

/-- FREE VALUE (log entry 13). The envelope held at a release where the last sample made has no envelope (R111, R119 name the
envelope of that sample; R113 gives none to a rest, a gap or a silent voice). -/
opaque heldEnvelope : Nat → Fin 257

/-- FREE VALUE (log entry 29). Where raises of different blocks come together, how many of the other blocks' raises go before the
next one (R167: they are taken in either order). -/
opaque raisePlace : Nat → Nat

/-- FREE VALUE (log entry 9). Which of several expiries that are due in one millisecond comes next. -/
opaque expiryNext : Nat → Nat

end Sys2Proof.Config
end

