-- ==== Sys2Proof/Machine/State.lean ====
section
/-! DEFINITION. The state of the part, block by block as 00_scope.md lists them, the reasons a step can stop, and the state
after reset. Plain data throughout. -/

namespace Sys2Proof.Machine

/-- One value per data client (R138). -/
structure PerClient (α : Type) where
  proc : α
  scanC : α
  scanL : α
  scanR : α
  capt : α
  serv : α
deriving DecidableEq, Repr

/-- One value per display output. -/
structure PerOutput (α : Type) where
  ctr : α
  rl : α
  rr : α
deriving DecidableEq, Repr

/-- One value per rear output. -/
structure PerRear (α : Type) where
  rl : α
  rr : α
deriving DecidableEq, Repr

/-- Where the part stands with respect to its resets (R121, R135, R136). -/
inductive Phase where
  /-- After POR, while the SDRAM is being initialised. -/
  | init
  /-- RESET_N is asserted. -/
  | held
  /-- After RESET_N, while the SDRAM leaves self-refresh. -/
  | exit
  /-- The memory is ready. -/
  | run
deriving DecidableEq, Repr

/-- The straps as sampled at the end of the last reset (R134). -/
structure Straps where
  memsz : Bool
  caSel : BitVec 4
deriving DecidableEq, Repr

/-! ### Processor Port and Write Watch (07_the_memory_path.md) -/

/-- R121. -/
inductive PortState where
  | notReady
  | free
  | pending
deriving DecidableEq, Repr

/-- The activity condition of a guard range (R126). -/
inductive Condition where
  | off
  | always
  | reverse
deriving DecidableEq, Repr

/-- One explicit guard range as stored (R126); an entry with condition OFF keeps its fields unchecked (R128). -/
structure GuardRange where
  base : Word
  length : BitVec 16
  response : Byte
  cond : Condition
deriving DecidableEq, Repr

/-- The value of each watched word as last taken (R133). -/
structure Taken where
  cmdPost : Word
  evtAck : Word
  pendClr0 : Word
  pendClr1 : Word
  occClr0 : Word
  occClr1 : Word
  steer : Word
  obstacle : Word
  vehicle : Word
  sampleClr : Word
deriving DecidableEq, Repr

/-- What the port last returned to the processor: OK or ERR, and the data words of a read (R121). -/
structure Response where
  ok : Bool
  data : List Word
deriving DecidableEq, Repr

structure Ppw where
  port : PortState
  tx : Option Request
  waiting : Option Request
  response : Option Response
  guard : List GuardRange
  taken : Taken
deriving DecidableEq, Repr

/-! ### Frame Memory Arbiter (08_frame_memory_arbitration.md) -/

/-- The six data clients (R138). -/
inductive Client where
  | proc
  | scanC
  | scanL
  | scanR
  | capt
  | serv
deriving DecidableEq, Repr

/-- A fetching plane of an output: the UI, film, menu or camera plane (R10). -/
inductive PlaneId where
  | ui
  | film
  | menu
  | camera
deriving DecidableEq, Repr

/-- What a burst carries (R138, R140). Words of a read are those the SDRAM held at the grant. -/
inductive Burst where
  /-- The transaction in progress, a read. -/
  | procRead (words : List Word)
  /-- The transaction in progress, a write. -/
  | procWrite
  /-- Words of a line of a plane; `last` if they end the line; `dropped` if the line was abandoned (R11, R13). -/
  | line (o : Output) (p : PlaneId) (num : Nat) (words : List Word) (last dropped : Bool)
  /-- Pixel bytes of a capture slot with their addresses (R52). -/
  | pixels (cells : List Host.Cell)
  /-- One half of a slot's trailer (R52). -/
  | trailer (second : Bool) (words : List Word)
  /-- An event record (R169). -/
  | event (words : List Word)
  /-- The command record at C (R157). -/
  | record (words : List Word)
  /-- A burst of the read of the command in execution (R158). -/
  | table (words : List Word) (last : Bool)
  /-- The two result words (R160). -/
  | result (words : List Word)
  /-- Block `k` of the status block (R165). -/
  | status (k : Nat) (words : List Word)
deriving DecidableEq, Repr

/-- A burst in progress: its client, its first byte address and length in bytes, what it carries, and whether what its end
brings about has been made already by the row that names it (log entry 7). -/
structure Grant where
  client : Client
  addr : Nat
  bytes : Nat
  burst : Burst
  ended : Bool
deriving DecidableEq, Repr

/-- R138. -/
inductive MemState where
  | notReady
  | idle
  | refresh
  | data (g : Grant)
deriving DecidableEq, Repr

/-- R144. -/
structure Profile where
  order : List Client
  ceil : PerClient Nat
deriving DecidableEq, Repr

/-- R148. -/
inductive MonState where
  | off
  | counting
  | armed
  | tagged
  | held
deriving DecidableEq, Repr

/-- The measurements of the tagged transaction (R150). -/
structure Tag where
  holder : Nat
  others : Nat
  urgent : Bool
  wait : BitVec 16
  reverse : Bool
deriving DecidableEq, Repr

/-- The sample record (R151). -/
structure Sample where
  addr : Word
  write : Bool
  len : Nat
  wait : BitVec 16
  holder : Nat
  others : Nat
  urgent : Bool
  reverse : Bool
deriving DecidableEq, Repr

structure Monitor where
  st : MonState
  period : Nat
  count : Nat
  tag : Tag
  valid : Bool
  sample : Sample
deriving DecidableEq, Repr

structure Fma where
  memory : MemState
  waits : PerClient Nat
  normal : Profile
  reverse : Profile
  refreshOn : Bool
  owed : Nat
  lateRun : Nat
  mon : Monitor
deriving DecidableEq, Repr

/-! ### Command Unit (09_control_area_and_commands.md) -/

/-- R157. -/
inductive CmuState where
  | idle
  | reading
  | executing
  | writing
deriving DecidableEq, Repr

/-- The command in execution: the record as read (R157). -/
structure Command where
  kind : Byte
  fields : Rec
deriving DecidableEq, Repr

/-- `plan` holds the bursts of the command's read not yet arrived, as byte address and words; `data` the words that have
arrived (R158). -/
structure Cmu where
  p : BitVec 8
  c : BitVec 8
  st : CmuState
  cmd : Command
  code : Word
  detail : Word
  plan : List (Nat × Nat)
  data : List Word
deriving DecidableEq, Repr

/-! ### Status and Event Unit (10_events_and_attention_lines.md) -/

/-- The 36 event kinds in the order of their codes (R166). -/
inductive EvKind where
  | underrunC | underrunL | underrunR
  | paceC | paceL | paceR
  | linkL | linkR
  | filmLateA | filmLateB | filmStarvedA | filmStarvedB | filmFreeA | filmFreeB
  | camDropped | camBad | camGlitch | camOverrun | camPresence
  | revEngaged | revReleased | revDegraded | revNoOutput
  | guideOverflow | guideStale
  | chimeDone | chimeDropped
  | guardHit | procRange | watchPartial
  | refreshLate
  | cmdDone | cmdError | cmdPostBad
  | eventRingFull
  | sampleReady
deriving DecidableEq, Repr

/-- A record placed and not yet in memory: the entry it was given and its four words (R168, R169). -/
structure QueuedRecord where
  entry : BitVec 6
  words : List Word
deriving DecidableEq, Repr

structure Seu where
  pending : BitVec 36
  occurred : BitVec 36
  recMask : BitVec 36
  attnMask : BitVec 36
  attnOn : Bool
  alertOn : Bool
  tag : Byte
  w : BitVec 6
  a : BitVec 6
  queue : List QueuedRecord
  /-- The levels of the two lines: true is high, not asserted (R174, R175). -/
  attnN : Bool
  alertN : Bool
  dirty : Bool
  generation : Word
  /-- The snapshot of the status write in progress and the next block of it, if one is in progress (R165). -/
  writing : Option (List Word × Nat)
deriving DecidableEq, Repr

/-! ### Scanout units (01_display_outputs_and_composition.md) -/

/-- R1. -/
structure Timing where
  wa : Nat
  ha : Nat
  hb : Nat
  vb : Nat
  f : Nat
  hsHigh : Bool
  vsHigh : Bool
deriving DecidableEq, Repr

/-- R3. -/
inductive OutState where
  | stopped
  | running
  | stopping
deriving DecidableEq, Repr

/-- R6, with the format and scale codes as stored: a descriptor that is off keeps fields no check has seen (R7). -/
structure Descriptor where
  enabled : Bool
  format : Nat
  scale : Nat
  alpha : Nat
  base : Nat
  pitch : Nat
  width : Nat
  height : Nat
  x : Nat
  y : Nat
deriving DecidableEq, Repr

/-- One copy of an output's descriptors. CTR uses `fill` and `ui`; a rear output uses `fill`, `film` and `menu` (R6). -/
structure Planes where
  fill : Rgb
  ui : Descriptor
  film : Descriptor
  menu : Descriptor
deriving DecidableEq, Repr

/-- R22. -/
structure Pacing where
  on : Bool
  bit : Nat
deriving DecidableEq, Repr

/-- How the bytes of a plane are turned into colours (R16, R17). -/
inductive PixelFormat where
  | argb8888
  | rgb565
  | ycbcr422
  | index8
deriving DecidableEq, Repr

/-- A fetching plane of the frame in progress (R11). Its place and source are fixed at the frame start: it shows source lines
`first` to `stop` - 1, of `words` words and `pixels` visible pixels each, from `base` at `pitch`; row r from `top` on shows
line (r - y) div scale. `next` is the line in fetch and `got` its words so far; `lines` are the complete lines in the
buffer, `latest` the line most recently completed, `shown` what the row in progress shows, `missed` whether the plane underran
on it. -/
structure Fetch where
  plane : PlaneId
  format : PixelFormat
  base : Nat
  pitch : Nat
  first : Nat
  stop : Nat
  words : Nat
  pixels : Nat
  x : Nat
  y : Nat
  top : Nat
  scale : Nat
  alpha : Nat
  next : Nat
  got : List Word
  lines : List (Nat × List Word)
  latest : Option (List Word)
  shown : Option (List Word)
  missed : Bool
deriving DecidableEq, Repr

structure Scan where
  timing : Option Timing
  st : OutState
  frames : Word
  asSet : Planes
  inUse : Planes
  pacing : Pacing
  underruns : Nat
  frameOpen : Bool
  row : Nat
  /-- The fetching planes of the frame, bottom to top (R10, R15). -/
  fetch : List Fetch
  /-- The RGB values of the row in progress (R15). -/
  pixels : List Rgb
deriving DecidableEq, Repr

/-- R20. -/
inductive FadeMotion where
  | inRest
  | outRest
  | fadingIn
  | fadingOut
deriving DecidableEq, Repr

/-- The palette and fade of a rear output (R18 to R21); `level` is the fade level of the frame. -/
structure Menu where
  palette : List Word
  pendingPalette : Option (List Word)
  ramp : List Byte
  pos : Nat
  motion : FadeMotion
  level : Option Nat
deriving DecidableEq, Repr

/-- R23: the input level, the debounced state, and the milliseconds the stability timer has left. -/
structure Link where
  level : Bool
  present : Bool
  timer : Option Nat
deriving DecidableEq, Repr

/-- R72. -/
inductive DisplayMode where
  | camera
  | fill
  | unavailable
deriving DecidableEq, Repr

/-- The reverse layout latched for the frame (R72). -/
structure Layout where
  strip : Nat
  x : Nat
  y : Nat
  scale : Nat
  fill : Rgb
  unavailable : Rgb
  slot : Option Nat
  mode : DisplayMode
deriving DecidableEq, Repr

/-! ### Film Queue Unit (02_film_presentation.md) -/

/-- The two film sources (R24). -/
inductive FilmSource where
  | a
  | b
deriving DecidableEq, Repr

/-- R30. -/
structure FilmEntry where
  buf : Nat
  due : Word
  tag : BitVec 16
deriving DecidableEq, Repr

/-- R24: the buffer table is the bases (its count is their number) with the common width, height and pitch; `current` is
the current buffer with the tag of the entry that made it current (R39). -/
structure Film where
  bases : List Nat
  width : Nat
  height : Nat
  pitch : Nat
  queue : List FilmEntry
  current : Option (Nat × BitVec 16)
  clock : Word
  playing : Bool
  armed : Bool
deriving DecidableEq, Repr

/-- R24, R34: the latched buffer is a source and an index. -/
structure RearFilm where
  route : Option FilmSource
  pending : Option FilmSource
  latched : Option (FilmSource × Nat)
deriving DecidableEq, Repr

structure Fqu where
  a : Film
  b : Film
  rear : PerRear RearFilm
deriving DecidableEq, Repr

/-! ### Camera Capture Unit (03_camera_capture.md) -/

/-- R43. -/
inductive PedestalMode where
  | none
  | fixed
  | tracking
deriving DecidableEq, Repr

/-- The camera setup record as installed (R43, R44). -/
structure CamSetup where
  wl : Nat
  lc : Nat
  hc : Nat
  pc : Nat
  wc : Nat
  lr : Nat
  nLines : Nat
  nSamples : Nat
  mode : PedestalMode
  fixedPedestal : Nat
  targetBlack : Nat
  slots : Nat
  fault : Bool
  base : Nat
deriving DecidableEq, Repr

/-- R57. -/
inductive SlotState where
  | free
  | writing
  | closing
  | ready
  | shown
deriving DecidableEq, Repr

structure Slot where
  st : SlotState
  frame : Word
deriving DecidableEq, Repr

/-- R47: why a frame was marked bad. -/
inductive Mark where
  | short
  | glitch
  | overrun
deriving DecidableEq, Repr

/-- The open frame (R47). `overran` says that a crop byte of it met a full buffer (R53). -/
structure OpenFrame where
  slot : Option Nat
  number : Word
  mark : Option Mark
  cropLines : Nat
  refSum : Nat
  refLines : Nat
  refBad : Bool
  pedestal : Nat
  overran : Bool
deriving DecidableEq, Repr

/-- The sync checker (R40, R41): pixel clocks counted, the count at the last accepted HS, whether a VS was accepted, the lines
accepted since, whether a line is in progress and its samples so far. -/
structure Sync where
  clock : Nat
  lastHs : Option Nat
  vsSeen : Bool
  lines : Nat
  inLine : Bool
  samples : Nat
deriving DecidableEq, Repr

/-- What waits in the capture buffer, in order of arrival (R52): a pixel byte of a slot with its address, or a slot's trailer
and whether its first half has been written. -/
inductive CaptureItem where
  | pixel (slot : Nat) (addr : Nat) (b : Byte)
  | trailer (slot : Nat) (words : List Word) (half : Bool)
deriving DecidableEq, Repr

structure Ccu where
  setup : Option CamSetup
  enable : Bool
  sync : Sync
  present : Bool
  presenceTimer : Option Nat
  frame : Option OpenFrame
  buffer : List CaptureItem
  slots : List Slot
  lastOpened : Nat
  seen : Word
  accepted : Word
  vpd : Nat
  gamma : List Byte
  pendingGamma : Option (List Byte)
deriving DecidableEq, Repr

/-! ### Reverse Controller (04_reverse_view.md) -/

/-- R64, R67 to R70. -/
inductive RevState where
  | normal
  | engaging
  | live
  | blanked
  | linger
deriving DecidableEq, Repr

/-- R61. -/
inductive RequestSource where
  | pin
  | vehicle
  | either
deriving DecidableEq, Repr

/-- R62. -/
structure RevSetup where
  source : RequestSource
  engage : Nat
  stale : Nat
  linger : Nat
  strip : Nat
  x : Nat
  y : Nat
  scale : Nat
  fill : Rgb
  unavailable : Rgb
  chime : Option Nat
  filmHold : Bool
deriving DecidableEq, Repr

structure Rvc where
  /-- The REV input level. -/
  rev : Bool
  debounced : Bool
  revTimer : Option Nat
  request : Bool
  setup : RevSetup
  st : RevState
  engageTimer : Option Nat
  staleTimer : Option Nat
  lingerTimer : Option Nat
  heldBlanked : Bool
  /-- CTR was STOPPING at the entry to NORMAL, so its stop releases the SHOWN slot (R74). -/
  releaseAtStop : Bool
deriving DecidableEq, Repr

/-! ### Guide Engine (05_guide_lines.md) -/

/-- R79, R81: `limit` is the stale limit with which the timer was last started. -/
structure Steering where
  angle : Int
  valid : Bool
  fresh : Bool
  timer : Option Nat
  limit : Nat
deriving DecidableEq, Repr

/-- R80, R81. -/
structure Obstacle where
  dist : Nat
  valid : Bool
  fresh : Bool
  timer : Option Nat
  limit : Nat
deriving DecidableEq, Repr

/-- R83. -/
structure VehicleRec where
  wheelbase : Nat
  overhang : Nat
  half : Nat
  staticHalf : Nat
  hysteresis : Nat
  stale : Nat
deriving DecidableEq, Repr

/-- R84. -/
structure CalibRec where
  h11 : Int
  h12 : Int
  h13 : Int
  h21 : Int
  h22 : Int
  h23 : Int
  h31 : Int
  h32 : Int
  h33 : Int
deriving DecidableEq, Repr

/-- R85. -/
structure StyleRec where
  lmax : Nat
  delta : Nat
  d1 : Nat
  d2 : Nat
  d3 : Nat
  width : Nat
  near : Word
  mid : Word
  far : Word
  static : Word
  mark : Word
  obstacle : Word
deriving DecidableEq, Repr

structure GuideSetup where
  vehicle : VehicleRec
  calib : CalibRec
  style : StyleRec
deriving DecidableEq, Repr

/-- The inputs a recompute captures (R88): `area` is Wa and Ha of the CTR timing record. -/
structure Captured where
  angle : Int
  steerOk : Bool
  dist : Nat
  obstacleOk : Bool
  setup : Option GuideSetup
  area : Option (Nat × Nat)
  strip : Nat
deriving DecidableEq, Repr

/-- A span of a bank (R98), with its row. -/
structure Span where
  row : Int
  first : Int
  last : Int
  colour : Word
deriving DecidableEq, Repr

/-- R88. -/
inductive Recompute where
  | idle
  | running
  | waiting
deriving DecidableEq, Repr

/-- R99. -/
inductive IdleBank where
  | clear
  | drawing
  | complete
deriving DecidableEq, Repr

/-- The banks are the spans of all rows in the order they were filed (R98); a row's list is its spans in that order. -/
structure Gde where
  steering : Steering
  obstacle : Obstacle
  setup : Option GuideSetup
  pendingSetup : Option GuideSetup
  recompute : Recompute
  pendingFlag : Bool
  captured : Captured
  bank0 : List Span
  bank1 : List Span
  /-- Bank 1 is the shown bank (otherwise bank 0). -/
  shown1 : Bool
  idle : IdleBank
  outdated : Bool
deriving DecidableEq, Repr

/-! ### Chime Unit (06_chimes.md) -/

/-- R101. -/
structure Note where
  freq : Nat
  dur : Nat
  level : Nat
  attack : Nat
  release : Nat
  square : Bool
deriving DecidableEq, Repr

/-- R101. -/
structure ChimeDef where
  priority : Nat
  drop : Bool
  notify : Bool
  repeats : Nat
  gap : Nat
  notes : List Note
deriving DecidableEq, Repr

/-- R104; `engage` is the source ENGAGE, otherwise COMMAND. -/
structure ChimeEntry where
  id : Nat
  engage : Bool
deriving DecidableEq, Repr

inductive VoiceQState where
  | idle
  | playing
  | releasing
deriving DecidableEq, Repr

/-- Voice Q (R108): the id and source on it, the note index, the sequences played so far, whether the part in progress is a
gap, its samples made (`n`) out of `total`, the phase, the envelope of the last sample made if it had one (whatever was on the
voice then), and the envelope held at a cancel (R111). -/
structure VoiceQ where
  st : VoiceQState
  id : Nat
  engage : Bool
  note : Nat
  played : Nat
  inGap : Bool
  n : Nat
  total : Nat
  phase : Word
  env : Option Nat
  held : Nat
deriving DecidableEq, Repr

/-- R116. -/
structure Proximity where
  freq : Nat
  level : Nat
  square : Bool
  beep : Nat
  stop : Nat
  d1 : Nat
  d2 : Nat
  d3 : Nat
  d4 : Nat
  g1 : Nat
  g2 : Nat
  g3 : Nat
  g4 : Nat
  enable : Bool
deriving DecidableEq, Repr

/-- R118. -/
inductive VoicePState where
  | off
  | quiet
  | beep
  | gap
  | tone
  | release
deriving DecidableEq, Repr

/-- Voice P (R118, R119): the samples made (`n`) out of `total` of the part in progress, the phase, the envelope of the last
tone sample, and the envelope held at a release. -/
structure VoiceP where
  st : VoicePState
  n : Nat
  total : Nat
  phase : Word
  env : Option Nat
  held : Nat
deriving DecidableEq, Repr

structure Chu where
  master : Nat
  wave : List (BitVec 16)
  defs : List (Option ChimeDef)
  queue : List ChimeEntry
  q : VoiceQ
  prox : Proximity
  p : VoiceP
  /-- The line sample of the present 48 kHz frame and of the one before (R115). -/
  line : Int
  lineBefore : Int
deriving DecidableEq, Repr

/-! ### The whole part -/

structure State where
  phase : Phase
  /-- The SDRAM has not been initialised since the last POR (R135). -/
  initDue : Bool
  straps : Straps
  time : Word
  /-- The SDRAM: addresses rising, no entry 0; an unlisted byte reads 0 (log entry 2). -/
  mem : List Host.Cell
  ppw : Ppw
  fma : Fma
  cmu : Cmu
  seu : Seu
  scn : PerOutput Scan
  menu : PerRear Menu
  links : PerRear Link
  layout : Option Layout
  fqu : Fqu
  ccu : Ccu
  rvc : Rvc
  gde : Gde
  chu : Chu
  /-- The model's counter of free values used (log entry 11). -/
  free : Nat
  /-- The commands that wait, first in, first out. -/
  pending : List Instr
deriving DecidableEq, Repr

/-- Why the part's model stops. -/
inductive Fault where
  /-- The burst in progress lies outside fitted memory, where no address exists (R123, R134). Raised where a burst ends
  (GRANT_END and the rows that name a burst's end, RESET_N_ASSERT). Safe: the model stops; the commands' own checks keep every
  reachable state from it. -/
  | beyondMemory (addr : Nat)
deriving DecidableEq, Repr

/-- Why the model gives a command no meaning. -/
inductive Refusal where
  /-- The command has no meaning yet. Raised by an arm of `exec` only. Safe: the model stops. -/
  | notModelled (mnemonic : String)
deriving DecidableEq, Repr

/-! ### The reset state (each value stated where the state is specified, see INVENTORY.md) -/

namespace Reset

def allClients {α : Type} (v : α) : PerClient α := ⟨v, v, v, v, v, v⟩

/-- R126. -/
def guardRange : GuardRange := ⟨0, 1, 0, .off⟩

/-- R133. -/
def taken : Taken := ⟨0, 0, 0, 0, 0, 0, 0, 0, 0, 0⟩

/-- R121, R126, R133. -/
def ppw (waiting : Option Request) : Ppw :=
  ⟨.notReady, none, waiting, none, List.replicate 8 guardRange, taken⟩

/-- R144. -/
def profileNormal : Profile :=
  ⟨[.scanC, .scanL, .scanR, .capt, .proc, .serv], { allClients 0 with proc := 4, serv := 8 }⟩

/-- R144. -/
def profileReverse : Profile :=
  ⟨[.capt, .scanC, .proc, .serv, .scanL, .scanR], { allClients 0 with proc := 6, serv := 8 }⟩

/-- No measurement (R150); log entry 31. -/
def tag : Tag := ⟨7, 0, false, 0, false⟩

/-- R148. -/
def monitor : Monitor := ⟨.off, 1, 0, tag, false, ⟨0, false, 0, 0, 7, 0, false, false⟩⟩

/-- R138, R143, R144, R146, R148. -/
def fma : Fma := ⟨.notReady, allClients 0, profileNormal, profileReverse, false, 0, 0, monitor⟩

/-- No command read yet; log entry 31. -/
def command : Command := ⟨0, ⟨false, 0, 0, 0, 0, 0, 0⟩⟩

/-- R154. -/
def cmu : Cmu := ⟨0, 0, .idle, command, 0, 0, [], []⟩

/-- R164, R167, R168, R174, R175, R176. -/
def seu : Seu :=
  { pending := 0, occurred := 0, recMask := BitVec.allOnes 36, attnMask := 0, attnOn := true, alertOn := false, tag := 0,
    w := 0, a := 0, queue := [], attnN := true, alertN := true, dirty := true, generation := 0, writing := none }

/-- R6. -/
def descriptor : Descriptor := ⟨false, 0, 1, 0, 0, 0, 0, 0, 0, 0⟩

/-- R6. -/
def planes : Planes := ⟨0, descriptor, descriptor, descriptor⟩

/-- R1, R3, R6, R11, R14, R22. -/
def scan : Scan :=
  { timing := none, st := .stopped, frames := 0, asSet := planes, inUse := planes, pacing := ⟨false, 0⟩, underruns := 0,
    frameOpen := false, row := 0, fetch := [], pixels := [] }

/-- R18, R19, R20. -/
def menu : Menu := ⟨List.replicate 256 0, none, [0, 255], 1, .inRest, none⟩

/-- R23: the level is the pin's. -/
def link (level : Bool) : Link := ⟨level, false, some Config.linkMs⟩

/-- R24. -/
def film : Film := ⟨[], 0, 0, 0, [], none, 0, false, true⟩

/-- R24. -/
def rearFilm : RearFilm := ⟨none, none, none⟩

/-- R24. -/
def fqu : Fqu := ⟨film, film, ⟨rearFilm, rearFilm⟩⟩

/-- R40, R41, R42, R44, R45, R51, R52. -/
def ccu : Ccu :=
  { setup := none, enable := false, sync := ⟨0, none, false, 0, false, 0⟩, present := false, presenceTimer := none,
    frame := none, buffer := [], slots := [], lastOpened := 0, seen := 0, accepted := 0, vpd := 256,
    gamma := (List.range 256).map (BitVec.ofNat 8), pendingGamma := none }

/-- The table of R62. -/
def revSetup : RevSetup :=
  { source := .pin, engage := 1000, stale := 300, linger := 0, strip := 0, x := 0, y := 0, scale := 1, fill := 0,
    unavailable := 0x808080, chime := none, filmHold := false }

/-- R60, R61, R64, R69: the level is the pin's. -/
def rvc (rev : Bool) : Rvc :=
  { rev := rev, debounced := false, revTimer := some Config.revMs, request := false, setup := revSetup, st := .normal,
    engageTimer := none, staleTimer := none, lingerTimer := none, heldBlanked := false, releaseAtStop := false }

/-- R79, R80, R81, R82, R87, R88, R99. -/
def gde : Gde :=
  { steering := ⟨0, false, false, none, Config.defaultStaleMs⟩, obstacle := ⟨0, false, false, none, Config.defaultStaleMs⟩,
    setup := none, pendingSetup := none, recompute := .idle, pendingFlag := false,
    captured := ⟨0, false, 0, false, none, none, 0⟩, bank0 := [], bank1 := [], shown1 := false, idle := .clear,
    outdated := false }

/-- R108: IDLE, no id. -/
def voiceQ : VoiceQ := ⟨.idle, 0, false, 0, 0, false, 0, 0, 0, none, 0⟩

/-- R118: OFF. -/
def voiceP : VoiceP := ⟨.off, 0, 0, 0, none, 0⟩

/-- R101, R104, R115, R116. -/
def chu : Chu :=
  { master := 255, wave := List.replicate 256 0, defs := List.replicate 32 none, queue := [], q := voiceQ,
    prox := ⟨0, 0, false, 0, 0, 0, 0, 0, 0, 0, 0, 0, 0, false⟩, p := voiceP, line := 0, lineBefore := 0 }

end Reset

/-- Every block in its reset state, with the straps, the memory, the levels on the pins REV, RLP and RRP, the request the
processor keeps presented, and what no reset of the part touches: the queue of commands and the free-value counter. -/
def State.blocksReset (phase : Phase) (straps : Straps) (mem : List Host.Cell) (rev rlp rrp : Bool)
    (waiting : Option Request) (free : Nat) (pending : List Instr) : State :=
  { phase := phase, initDue := decide (phase = .init), straps := straps, time := 0, mem := mem, ppw := Reset.ppw waiting, fma := Reset.fma, cmu := Reset.cmu,
    seu := Reset.seu, scn := ⟨Reset.scan, Reset.scan, Reset.scan⟩, menu := ⟨Reset.menu, Reset.menu⟩,
    links := ⟨Reset.link rlp, Reset.link rrp⟩, layout := none, fqu := Reset.fqu, ccu := Reset.ccu, rvc := Reset.rvc rev,
    gde := Reset.gde, chu := Reset.chu, free := free, pending := pending }

/-- The part right after power-on reset: SDRAM initialisation has begun (R135). The straps and the pins read low (log entry 1). -/
def State.reset : State :=
  State.blocksReset .init ⟨false, 0⟩ [] false false false none 0 []

end Sys2Proof.Machine
end

