-- ==== Sys2Proof/Machine/Flags.lean ====
section
/-! DEFINITION. The event kinds' codes, classes and safety marks (R166), the pending and occurrence flags (R167, R172, R173) and
the two lines computed from them (R174, R175). -/

namespace Sys2Proof.Machine

/-- The code of a kind: its bit in the flag words and masks (R166). -/
def EvKind.code : EvKind → Nat
  | .underrunC => 0
  | .underrunL => 1
  | .underrunR => 2
  | .paceC => 3
  | .paceL => 4
  | .paceR => 5
  | .linkL => 6
  | .linkR => 7
  | .filmLateA => 8
  | .filmLateB => 9
  | .filmStarvedA => 10
  | .filmStarvedB => 11
  | .filmFreeA => 12
  | .filmFreeB => 13
  | .camDropped => 14
  | .camBad => 15
  | .camGlitch => 16
  | .camOverrun => 17
  | .camPresence => 18
  | .revEngaged => 19
  | .revReleased => 20
  | .revDegraded => 21
  | .revNoOutput => 22
  | .guideOverflow => 23
  | .guideStale => 24
  | .chimeDone => 25
  | .chimeDropped => 26
  | .guardHit => 27
  | .procRange => 28
  | .watchPartial => 29
  | .refreshLate => 30
  | .cmdDone => 31
  | .cmdError => 32
  | .cmdPostBad => 33
  | .eventRingFull => 34
  | .sampleReady => 35

/-- Class E of R166 (written as 1). -/
def EvKind.isError : EvKind → Bool
  | .underrunC | .underrunL | .underrunR | .linkL | .linkR | .camBad | .camGlitch | .camOverrun | .camPresence
  | .revDegraded | .revNoOutput | .guideStale | .guardHit | .procRange | .refreshLate | .cmdError | .cmdPostBad => true
  | .paceC | .paceL | .paceR | .filmLateA | .filmLateB | .filmStarvedA | .filmStarvedB | .filmFreeA | .filmFreeB
  | .camDropped | .revEngaged | .revReleased | .guideOverflow | .chimeDone | .chimeDropped | .watchPartial | .cmdDone
  | .eventRingFull | .sampleReady => false

/-- The three safety kinds (R166). -/
def EvKind.isSafety : EvKind → Bool
  | .revDegraded | .revNoOutput | .guideStale => true
  | _ => false

/-- The kind's bit in a 36-bit set. -/
def EvKind.bit (k : EvKind) : BitVec 36 := BitVec.twoPow 36 k.code

/-- The bits of the three safety kinds. -/
def safetyBits : BitVec 36 := EvKind.revDegraded.bit ||| EvKind.revNoOutput.bit ||| EvKind.guideStale.bit

/-- ATTN_N is asserted: the global ATTN enable is on and a kind with its ATTN bit set is pending (R174). -/
def Seu.attnAsserted (e : Seu) : Bool := e.attnOn && decide (e.pending &&& e.attnMask ≠ 0)

/-- ALERT_N is asserted: the ALERT enable is on and a safety kind is pending (R175). -/
def Seu.alertAsserted (e : Seu) : Bool := e.alertOn && decide (e.pending &&& safetyBits ≠ 0)

/-- The two lines evaluated again (R174, R175). -/
def Seu.evalLines (e : Seu) : Seu := { e with attnN := !e.attnAsserted, alertN := !e.alertAsserted }

/-- The pending and occurrence flags of a kind set (R167). -/
def Seu.setKind (k : EvKind) (e : Seu) : Seu := { e with pending := e.pending ||| k.bit, occurred := e.occurred ||| k.bit }

/-- The bits a clear word names: kinds 0 to 31, or kinds 32 to 35 from bits 0 to 3 (R172, R173). -/
def clearBits (second : Bool) (v : Word) : BitVec 36 :=
  if second then (v.setWidth 4 : BitVec 4) ++ (0 : BitVec 32) else v.setWidth 36

/-- The mask of two operand words: kinds 0 to 31, and kinds 32 to 35 in bits 0 to 3 of the second (R176). -/
def maskOf (lo hi : Word) : BitVec 36 := (hi.setWidth 4 : BitVec 4) ++ lo

end Sys2Proof.Machine
end

