-- ==== Sys2Proof/Machine/Operands.lean ====
section
/-! DEFINITION. How the part reads fields from words and packs words from fields (R179, R180), how words are made of bytes, how
one element of a per-output, per-rear or per-client value is read and written, and the tables and records that commands
read from memory with the checks of their rules. -/

namespace Sys2Proof.Machine

/-! ### Fields of words -/

/-- Bits `lo` to `lo + len - 1` of a word, as a number (R179). -/
def field (w : Word) (lo len : Nat) : Nat := w.toNat / 2 ^ lo % 2 ^ len

/-- A single-bit flag (R179). -/
def flag (w : Word) (i : Nat) : Bool := w.getLsbD i

/-- A word packed from values at bit places; every other bit is 0 (R180). -/
def pack (fs : List (Nat × Nat)) : Word := BitVec.ofNat 32 ((fs.map fun f => f.1 * 2 ^ f.2).sum)

/-- A Boolean as the value of a one-bit field. -/
def ofBool (b : Bool) : Nat := if b then 1 else 0

/-- Byte `i` of a word, byte 0 at the lowest address (00_scope.md, Conventions). -/
def byteOf (w : Word) (i : Nat) : Byte := (w >>> (8 * i)).setWidth 8

/-- The word of four bytes, the first at the lowest address. -/
def wordOf (b0 b1 b2 b3 : Byte) : Word := b3 ++ b2 ++ b1 ++ b0

/-- The bytes of words in rising address order. -/
def bytesOf (ws : List Word) : List Byte := ws.flatMap fun w => [byteOf w 0, byteOf w 1, byteOf w 2, byteOf w 3]

/-- Word `i` of a table. -/
def wordAt (ws : List Word) (i : Nat) : Word := ws.getD i 0

/-- Byte `k` of a table. -/
def byteAt (ws : List Word) (k : Nat) : Nat := (byteOf (wordAt ws (k / 4)) (k % 4)).toNat

/-- Halfword at byte `k` (even) of a table. -/
def halfAt (ws : List Word) (k : Nat) : Nat := byteAt ws k + 256 * byteAt ws (k + 1)

/-- The part's exact arithmetic limited to a range (00_scope.md, Conventions). -/
def clampInt (lo hi x : Int) : Int := max lo (min hi x)

/-- Rounding up to a multiple of 64. -/
def roundUp64 (n : Nat) : Nat := (n + 63) / 64 * 64

/-! ### One element of several -/

def PerOutput.get {α : Type} (p : PerOutput α) : Output → α
  | .ctr => p.ctr
  | .rl => p.rl
  | .rr => p.rr

def PerOutput.set {α : Type} (p : PerOutput α) (o : Output) (v : α) : PerOutput α :=
  match o with
  | .ctr => { p with ctr := v }
  | .rl => { p with rl := v }
  | .rr => { p with rr := v }

def PerRear.get {α : Type} (p : PerRear α) : Rear → α
  | .rl => p.rl
  | .rr => p.rr

def PerRear.set {α : Type} (p : PerRear α) (o : Rear) (v : α) : PerRear α :=
  match o with
  | .rl => { p with rl := v }
  | .rr => { p with rr := v }

def PerClient.get {α : Type} (p : PerClient α) : Client → α
  | .proc => p.proc
  | .scanC => p.scanC
  | .scanL => p.scanL
  | .scanR => p.scanR
  | .capt => p.capt
  | .serv => p.serv

/-- One value for each data client from a function of the client. -/
def PerClient.build {α : Type} (f : Client → α) : PerClient α :=
  ⟨f .proc, f .scanC, f .scanL, f .scanR, f .capt, f .serv⟩

/-- The output of a rear output. -/
def rearOutput : Rear → Output
  | .rl => .rl
  | .rr => .rr

/-- The rear output an output is, if it is one. -/
def outputRear : Output → Option Rear
  | .ctr => none
  | .rl => some .rl
  | .rr => some .rr

/-! ### Codes of targets and clients (11_memory_resident_formats, Command record; R138) -/

def outputOf (target : Byte) : Option Output :=
  match target.toNat with
  | 0 => some .ctr
  | 1 => some .rl
  | 2 => some .rr
  | _ => none

def rearOf (target : Byte) : Option Rear :=
  match target.toNat with
  | 1 => some .rl
  | 2 => some .rr
  | _ => none

def filmOf (target : Byte) : Option FilmSource :=
  match target.toNat with
  | 0 => some .a
  | 1 => some .b
  | _ => none

def Client.code : Client → Nat
  | .proc => 0
  | .scanC => 1
  | .scanL => 2
  | .scanR => 3
  | .capt => 4
  | .serv => 5

def clientOf : Nat → Option Client
  | 0 => some .proc
  | 1 => some .scanC
  | 2 => some .scanL
  | 3 => some .scanR
  | 4 => some .capt
  | 5 => some .serv
  | _ => none

/-! ### Command records (R154, R179) -/

/-- The command in a record's eight words. -/
def commandOf (ws : List Word) : Command :=
  let w0 := wordAt ws 0
  { kind := BitVec.ofNat 8 (field w0 0 8),
    fields :=
      { notify := flag w0 8, target := BitVec.ofNat 8 (field w0 16 8), op1 := wordAt ws 1, op2 := wordAt ws 2,
        op3 := wordAt ws 3, op4 := wordAt ws 4, op5 := wordAt ws 5 } }

/-- The timing record of OUTPUT_TIMING (R1). -/
def timingOf (r : Rec) : Timing :=
  { wa := field r.op1 0 16, ha := field r.op1 16 16, hb := field r.op2 0 16, vb := field r.op2 16 16, f := r.op3.toNat,
    hsHigh := flag r.op4 0, vsHigh := flag r.op4 1 }

/-- The range checks of R1 on a timing record. -/
def timingOk (t : Timing) : Bool :=
  decide (320 ≤ t.wa ∧ t.wa ≤ 1920 ∧ t.wa % 8 = 0) && decide (240 ≤ t.ha ∧ t.ha ≤ 1080) && decide (64 ≤ t.hb) &&
    decide (4 ≤ t.vb) && decide (10000 ≤ t.f ∧ t.f ≤ 148500)

/-- The descriptor of PLANE_SET (R7). -/
def descriptorOf (r : Rec) : Descriptor :=
  { enabled := flag r.op1 4, format := field r.op1 8 4, scale := field r.op1 12 4, alpha := field r.op1 16 16,
    base := r.op2.toNat, pitch := r.op3.toNat, width := field r.op4 0 16, height := field r.op4 16 16,
    x := field r.op5 0 16, y := field r.op5 16 16 }

/-- The reverse setup of REVERSE_SETUP, if its fields pass the checks of R62. -/
def revSetupOf (r : Rec) : Option RevSetup :=
  let source := match field r.op4 28 2 with
    | 0 => some RequestSource.pin
    | 1 => some .vehicle
    | 2 => some .either
    | _ => none
  let chimeByte := field r.op3 24 8
  let s : RequestSource → RevSetup := fun src =>
    { source := src, engage := field r.op1 0 16, stale := field r.op1 16 16, linger := field r.op2 0 16,
      strip := field r.op2 16 16, x := field r.op3 0 12, y := field r.op3 12 12, scale := field r.op4 24 4,
      fill := r.op4.setWidth 24, unavailable := r.op5.setWidth 24,
      chime := if chimeByte = 255 then none else some chimeByte, filmHold := flag r.op4 31 }
  source.bind fun src =>
    let t := s src
    if 100 ≤ t.engage ∧ t.engage ≤ 2000 ∧ 100 ≤ t.stale ∧ t.stale ≤ 1000 ∧ t.linger ≤ 10000 ∧ t.strip ≤ 540 ∧
        t.x ≤ 1919 ∧ t.y ≤ 1079 ∧ (t.scale = 1 ∨ t.scale = 2) ∧ (chimeByte ≤ 31 ∨ chimeByte = 255)
    then some t else none

/-- The six bytes of an ARB_PROFILE list: four from the first word, two from the second (11_memory_resident_formats). -/
def sixBytes (lo hi : Word) : List Nat :=
  [field lo 0 8, field lo 8 8, field lo 16 8, field lo 24 8, field hi 0 8, field hi 8 8]

/-! ### Tables read by commands -/

/-- Addresses of a table: 64-aligned, and its end not above the memory size (R161, SOURCE_ERR). -/
def sourceOk (memSize addr bytes : Nat) : Bool := decide (addr % 64 = 0) && decide (addr + bytes ≤ memSize)

/-- The bursts of a read of `words` words from `addr`, at most eight words each, in rising address order (R158). -/
def burstsOf (addr words : Nat) : List (Nat × Nat) :=
  (List.range ((words + 7) / 8)).map fun i => (addr + 32 * i, min 8 (words - 8 * i))

/-- A film buffer table, if its fields pass the checks of R26: bases, width, height, pitch. -/
def filmTableOf (memSize : Nat) (ws : List Word) : Option (List Nat × Nat × Nat × Nat) :=
  let n := (wordAt ws 0).toNat
  let width := (wordAt ws 1).toNat
  let height := (wordAt ws 2).toNat
  let pitch := (wordAt ws 3).toNat
  if 1 ≤ n ∧ n ≤ 8 ∧ 64 ≤ width ∧ width ≤ 1920 ∧ width % 2 = 0 ∧ 64 ≤ height ∧ height ≤ 1080 ∧ pitch % 64 = 0 ∧
      2 * width ≤ pitch then
    let bases := (List.range n).map fun i => (wordAt ws (4 + i)).toNat
    if bases.all fun b => decide (b % 64 = 0) && decide (b + pitch * height ≤ memSize)
    then some (bases, width, height, pitch) else none
  else none

/-- The slot pitch: 2 x Wc rounded up to a multiple of 64 (R44). -/
def CamSetup.pitch (c : CamSetup) : Nat := roundUp64 (2 * c.wc)

/-- The first byte of slot `i` (R44). -/
def CamSetup.slotBase (c : CamSetup) (i : Nat) : Nat := c.base + i * Config.mib

/-- Whether the capture area holds the byte address (R44). -/
def CamSetup.inArea (c : CamSetup) (a : Nat) : Bool := decide (c.base ≤ a) && decide (a < c.base + c.slots * Config.mib)

/-- The camera setup record, if its fields pass the checks of R43. -/
def camSetupOf (memSize caBase : Nat) (ws : List Word) : Option CamSetup :=
  let mode := match field (wordAt ws 4) 0 8 with
    | 0 => some PedestalMode.none
    | 1 => some .fixed
    | 2 => some .tracking
    | _ => none
  let response := field (wordAt ws 5) 8 8
  mode.bind fun m =>
    let c : CamSetup :=
      { wl := field (wordAt ws 0) 0 16, lc := field (wordAt ws 1) 0 16, hc := field (wordAt ws 1) 16 16,
        pc := field (wordAt ws 2) 0 16, wc := field (wordAt ws 2) 16 16, lr := field (wordAt ws 3) 0 16,
        nLines := field (wordAt ws 3) 16 8, nSamples := field (wordAt ws 3) 24 8, mode := m,
        fixedPedestal := field (wordAt ws 4) 8 8, targetBlack := field (wordAt ws 4) 16 8,
        slots := field (wordAt ws 5) 0 8, fault := decide (response = 1), base := (wordAt ws 6).toNat }
    if (64 ≤ c.wl ∧ c.wl ≤ 1280 ∧ c.wl % 2 = 0) ∧ (1 ≤ c.lc ∧ c.lc ≤ 1023 ∧ 48 ≤ c.hc ∧ c.hc ≤ 720) ∧
        (c.pc % 2 = 0 ∧ 64 ≤ c.wc ∧ c.wc ≤ 1280 ∧ c.wc % 2 = 0 ∧ c.pc + c.wc ≤ c.wl) ∧
        ((c.nLines = 1 ∨ c.nLines = 2 ∨ c.nLines = 4) ∧ c.lr + c.nLines ≤ c.lc) ∧
        ((c.nSamples = 16 ∨ c.nSamples = 32 ∨ c.nSamples = 64) ∧ c.pc + c.nSamples ≤ c.wl) ∧ c.targetBlack ≤ 64 ∧
        (c.slots = 4 ∨ c.slots = 8) ∧ c.pitch * c.hc ≤ 1048512 ∧
        (c.base % Config.mib = 0 ∧ c.base + c.slots * Config.mib ≤ memSize ∧
          (caBase + Config.unit64k ≤ c.base ∨ c.base + c.slots * Config.mib ≤ caBase)) ∧ response ≤ 1
    then some c else none

/-- The vehicle record, if its fields pass the checks of R83. -/
def vehicleOf (ws : List Word) : Option VehicleRec :=
  let n := fun i => (wordAt ws i).toNat
  let v : VehicleRec := ⟨n 0, n 1, n 2, n 3, n 4, n 5⟩
  if (1500 ≤ v.wheelbase ∧ v.wheelbase ≤ 4000) ∧ (300 ≤ v.overhang ∧ v.overhang ≤ 1500) ∧ (400 ≤ v.half ∧ v.half ≤ 1200) ∧
      (400 ≤ v.staticHalf ∧ v.staticHalf ≤ 1200) ∧ (1 ≤ v.hysteresis ∧ v.hysteresis ≤ 100) ∧ (100 ≤ v.stale ∧ v.stale ≤ 2000)
  then some v else none

/-- The calibration record (R84: any value is accepted). -/
def calibOf (ws : List Word) : CalibRec :=
  let n := fun i => (wordAt ws i).toInt
  ⟨n 0, n 1, n 2, n 3, n 4, n 5, n 6, n 7, n 8⟩

/-- The marks of a style record: each 0 or 1 to Lmax, the non-zero ones rising, none after a zero one (R85). -/
def marksOk (lmax d1 d2 d3 : Nat) : Bool :=
  decide (d1 ≤ lmax ∧ d2 ≤ lmax ∧ d3 ≤ lmax) && decide (d2 = 0 ∨ (d1 ≠ 0 ∧ d1 < d2)) && decide (d3 = 0 ∨ (d2 ≠ 0 ∧ d2 < d3))

/-- The style record, if its fields pass the checks of R85. -/
def styleOf (ws : List Word) : Option StyleRec :=
  let n := fun i => (wordAt ws i).toNat
  let v : StyleRec :=
    ⟨n 0, n 1, n 2, n 3, n 4, n 5, wordAt ws 6, wordAt ws 7, wordAt ws 8, wordAt ws 9, wordAt ws 10, wordAt ws 11⟩
  if (1000 ≤ v.lmax ∧ v.lmax ≤ 10000) ∧ (100 ≤ v.delta ∧ v.delta ≤ 1000 ∧ v.lmax / v.delta ≤ 64) ∧
      marksOk v.lmax v.d1 v.d2 v.d3 = true ∧ (1 ≤ v.width ∧ v.width ≤ 15)
  then some v else none

/-- The three guide records, sixteen words each in the order vehicle, calibration, style (R82). -/
def guideSetupOf (ws : List Word) : Option GuideSetup :=
  (vehicleOf (ws.take 16)).bind fun v =>
    (styleOf (ws.drop 32)).map fun st => ⟨v, calibOf ((ws.drop 16).take 16), st⟩

/-- Note `j` of the definition slot that begins at byte `k`, if it passes the checks of R103. -/
def noteOf (ws : List Word) (k j : Nat) : Option Note :=
  let b := k + 16 + 8 * j
  let f := halfAt ws b
  let d := halfAt ws (b + 2)
  let wave := byteAt ws (b + 7)
  if (f = 0 ∨ (100 ≤ f ∧ f ≤ 4000)) ∧ (10 ≤ d ∧ d ≤ 2000) ∧ wave ≤ 1 then
    some ⟨f, d, byteAt ws (b + 4), byteAt ws (b + 5), byteAt ws (b + 6), decide (wave = 1)⟩
  else none

/-- The first byte of definition slot `i` in a chime table image (11_memory_resident_formats). -/
def chimeSlotAt (i : Nat) : Nat := 0x240 + 80 * i

/-- Definition slot `i` of a chime table image: undefined, defined, or failing a check of R103. -/
def chimeSlotOf (ws : List Word) (i : Nat) : Option (Option ChimeDef) :=
  let k := chimeSlotAt i
  if byteAt ws k % 2 = 0 then some none
  else
    let count := byteAt ws (k + 5)
    let notes := (List.range count).map (noteOf ws k)
    if byteAt ws (k + 1) ≤ 7 ∧ byteAt ws (k + 2) ≤ 1 ∧ byteAt ws (k + 4) ≤ 15 ∧ halfAt ws (k + 6) ≤ 2000 ∧
        (1 ≤ count ∧ count ≤ 8) ∧ notes.all Option.isSome = true then
      some (some
        { priority := byteAt ws (k + 1), drop := decide (byteAt ws (k + 2) = 1), notify := decide (byteAt ws (k + 3) % 2 = 1),
          repeats := byteAt ws (k + 4), gap := halfAt ws (k + 6), notes := notes.filterMap id })
    else none

/-- The 32 definition slots of a chime table image, each undefined, defined or failing (R103). -/
def chimeSlotsOf (ws : List Word) : List (Option (Option ChimeDef)) := (List.range 32).map (chimeSlotOf ws)

/-- The waveform of a chime table image (R101). -/
def waveOf (ws : List Word) : List (BitVec 16) := (List.range 256).map fun i => BitVec.ofNat 16 (halfAt ws (0x40 + 2 * i))

/-- The proximity record, if its fields pass the checks of R116. The enable is read as the whole word 0x2C, of which the record's
table lists the codes 0 and 1 (DESIGN CHOICE, log entry 38). -/
def proximityOf (ws : List Word) : Option Proximity :=
  let n := fun i => (wordAt ws i).toNat
  let wave := field (wordAt ws 0) 24 8
  let enable := n 11
  let p : Proximity :=
    { freq := field (wordAt ws 0) 0 16, level := field (wordAt ws 0) 16 8, square := decide (wave = 1), beep := n 1,
      stop := n 2, d1 := n 3, d2 := n 4, d3 := n 5, d4 := n 6, g1 := n 7, g2 := n 8, g3 := n 9, g4 := n 10,
      enable := decide (enable = 1) }
  if (100 ≤ p.freq ∧ p.freq ≤ 4000) ∧ wave ≤ 1 ∧ (20 ≤ p.beep ∧ p.beep ≤ 500) ∧
      (p.stop < p.d1 ∧ p.d1 < p.d2 ∧ p.d2 < p.d3 ∧ p.d3 < p.d4 ∧ p.d4 ≤ 10000) ∧
      (p.g1 ≤ p.g2 ∧ p.g2 ≤ p.g3 ∧ p.g3 ≤ p.g4 ∧ p.g4 ≤ 2000) ∧ enable ≤ 1
  then some p else none

/-- The bytes a guard range covers: from its base, `length` x 64 KiB (R126). -/
def GuardRange.covers (g : GuardRange) (a : Nat) : Bool :=
  decide (g.base.toNat ≤ a) && decide (a < g.base.toNat + g.length.toNat * Config.unit64k)

/-- Entry `i` of a guard table image, if it passes the checks of R128. -/
def guardEntryOf (memSize caBase : Nat) (ws : List Word) (i : Nat) : Option GuardRange :=
  let w := wordAt ws (2 * i + 1)
  let g : Condition → GuardRange := fun c =>
    ⟨wordAt ws (2 * i), BitVec.ofNat 16 (field w 0 16), BitVec.ofNat 8 (field w 16 8), c⟩
  let checked : Condition → Option GuardRange := fun c =>
    let r := g c
    let size := r.length.toNat * Config.unit64k
    if r.base.toNat % Config.unit64k = 0 ∧ (1 ≤ r.length.toNat ∧ r.length.toNat ≤ 2048) ∧
        r.base.toNat + size ≤ memSize ∧ (caBase + Config.unit64k ≤ r.base.toNat ∨ r.base.toNat + size ≤ caBase) ∧
        r.response.toNat ≤ 1
    then some r else none
  match field w 24 8 with
  | 0 => some (g .off)
  | 1 => checked .always
  | 2 => checked .reverse
  | _ => none

/-- The eight entries of a guard table image (R127). -/
def guardEntriesOf (memSize caBase : Nat) (ws : List Word) : List (Option GuardRange) :=
  (List.range 8).map (guardEntryOf memSize caBase ws)

end Sys2Proof.Machine
end

