-- ==== Sys2Proof/Machine/Ops.lean ====
section
/-! DEFINITION. The named operations that blocks share: the SDRAM's bytes, the levels one block sees of another, raising an event,
deciding a command's result. -/

namespace Sys2Proof.Machine

/-! ### The SDRAM (00_scope.md, Conventions): bytes in one canonical list -/

/-- What an unlisted address reads as. DESIGN CHOICE (log entry 2), unsafe: the spec calls the SDRAM's contents after POR
undefined (R135). -/
def unlistedByte : Byte := 0

/-- The byte at an address. -/
def readByte : List Host.Cell → Nat → Byte
  | [], _ => unlistedByte
  | (k, v) :: rest, a => if k = a then v else readByte rest a

/-- The memory with one byte written, in canonical form. -/
def writeByte : List Host.Cell → Nat → Byte → List Host.Cell
  | [], a, v => if v = unlistedByte then [] else [(a, v)]
  | (k, w) :: rest, a, v =>
    if a < k then (if v = unlistedByte then (k, w) :: rest else (a, v) :: (k, w) :: rest)
    else if a = k then (if v = unlistedByte then rest else (a, v) :: rest)
    else (k, w) :: writeByte rest a v

/-- Every listed address is above `lo`, addresses rise, and no entry is what an unlisted address reads as. -/
def memWfFrom : Option Nat → List Host.Cell → Bool
  | _, [] => true
  | lo, (k, v) :: rest =>
    (match lo with
      | none => true
      | some l => decide (l < k)) && decide (v ≠ unlistedByte) && memWfFrom (some k) rest

/-- The canonical form of the memory. -/
def Memory.wf (m : List Host.Cell) : Bool := memWfFrom none m

/-- The little-endian word at a byte address. -/
def readWord (m : List Host.Cell) (a : Nat) : Word :=
  wordOf (readByte m a) (readByte m (a + 1)) (readByte m (a + 2)) (readByte m (a + 3))

/-- `n` words from a byte address. -/
def readWords (m : List Host.Cell) (a : Nat) : Nat → List Word
  | 0 => []
  | n + 1 => readWord m a :: readWords m (a + 4) n

/-- Bytes written one after another. -/
def writeBytes (m : List Host.Cell) (a : Nat) : List Byte → List Host.Cell
  | [] => m
  | b :: bs => writeBytes (writeByte m a b) (a + 1) bs

/-- Words written from a byte address. -/
def writeWords (m : List Host.Cell) (a : Nat) (ws : List Word) : List Host.Cell := writeBytes m a (bytesOf ws)

/-- Cells written, each at its own address. -/
def writeCells (m : List Host.Cell) : List Host.Cell → List Host.Cell
  | [] => m
  | (a, b) :: cs => writeCells (writeByte m a b) cs

/-- The bytes of a word whose byte enables are set (R125). -/
def enabledCells (a : Nat) (w : WriteWord) : List Host.Cell :=
  ((List.range 4).filter fun i => w.enables.getLsbD i).map fun i => (a + i, byteOf w.data i)

/-- The bytes a processor write stores (R125): those with their enables set. -/
def requestCells : Nat → List WriteWord → List Host.Cell
  | _, [] => []
  | a, w :: ws => enabledCells a w ++ requestCells (a + 4) ws

/-! ### Placement (R134) -/

def State.memSize (s : State) : Nat := if s.straps.memsz then 128 * Config.mib else 64 * Config.mib

def State.caBase (s : State) : Nat :=
  (if s.straps.memsz then s.straps.caSel.toNat else s.straps.caSel.toNat % 8) * (8 * Config.mib)

/-- The byte address of a request's first word (R123). -/
def requestAddr (q : Request) : Nat := q.wordAddr.toNat * 4

/-! ### Levels that one block sees of another -/

/-- The reverse state is not NORMAL: the couplings of R75 are held. -/
def State.reversing (s : State) : Bool := decide (s.rvc.st ≠ .normal)

/-- Capture runs (R45). -/
def State.capturing (s : State) : Bool := s.ccu.setup.isSome && (s.ccu.enable || s.reversing)

/-- The film clocks are held (R29). -/
def State.filmHeld (s : State) : Bool := s.rvc.setup.filmHold && s.reversing

/-- The voice P enable (R75). -/
def State.voicePEnabled (s : State) : Bool :=
  match s.rvc.st with
  | .engaging | .live | .blanked => true
  | .normal | .linger => false

/-- The profile in force (R144). -/
def State.profile (s : State) : Profile := if s.reversing then s.fma.reverse else s.fma.normal

/-- Steering is usable (R79). -/
def Steering.usable (i : Steering) : Bool := i.valid && i.fresh

/-- The obstacle is usable (R80). -/
def Obstacle.usable (i : Obstacle) : Bool := i.valid && i.fresh

/-- The vehicle request flag: bit 0 of VEHICLE as last taken (R61). -/
def State.vehicleFlag (s : State) : Bool := flag s.ppw.taken.vehicle 0

/-- An explicit guard range is active (R126). -/
def State.rangeActive (s : State) (g : GuardRange) : Bool :=
  match g.cond with
  | .off => false
  | .always => true
  | .reverse => s.reversing

/-- The SHOWN slot, if any (R57, R78). -/
def shownSlot (slots : List Slot) : Option Nat := slots.findIdx? fun x => decide (x.st = .shown)

def State.scan (s : State) (o : Output) : Scan := s.scn.get o

def State.setScan (s : State) (o : Output) (v : Scan) : State := { s with scn := s.scn.set o v }

def State.modScan (s : State) (o : Output) (f : Scan → Scan) : State := s.setScan o (f (s.scan o))

def Fqu.film (q : Fqu) : FilmSource → Film
  | .a => q.a
  | .b => q.b

def Fqu.setFilm (q : Fqu) (src : FilmSource) (v : Film) : Fqu :=
  match src with
  | .a => { q with a := v }
  | .b => { q with b := v }

def Fqu.setRear (q : Fqu) (o : Rear) (v : RearFilm) : Fqu := { q with rear := q.rear.set o v }

/-- A rear output has the buffer latched. -/
def RearFilm.latches (r : RearFilm) (src : FilmSource) (i : Nat) : Bool := decide (r.latched = some (src, i))

/-- The buffer is FREE: none of queued, current and latched (R25). -/
def Fqu.bufFree (q : Fqu) (src : FilmSource) (i : Nat) : Bool :=
  let f := q.film src
  !(f.queue.any fun e => decide (e.buf = i)) && decide (f.current.map Prod.fst ≠ some i) &&
    !(q.rear.rl.latches src i) && !(q.rear.rr.latches src i)

/-- The FREE buffers of a source, bit i for buffer i (R39). -/
def Fqu.freeMask (q : Fqu) (src : FilmSource) : Nat :=
  (((List.range (q.film src).bases.length).filter fun i => q.bufFree src i).map fun i => 2 ^ i).sum

/-- The buffers that are FREE in `q'` and were not in `q`, bit i for buffer i (R35). -/
def freedMask (q q' : Fqu) (src : FilmSource) : Nat :=
  (((List.range (q'.film src).bases.length).filter fun i => q'.bufFree src i && !q.bufFree src i).map fun i => 2 ^ i).sum

/-- A source is IDLE (R24). -/
def Fqu.idle (q : Fqu) (src : FilmSource) : Bool :=
  let named : Option FilmSource → Bool := fun r => decide (r = some src)
  (q.film src).queue.isEmpty && (q.film src).current.isNone && !(named q.rear.rl.route || named q.rear.rl.pending) &&
    !(named q.rear.rr.route || named q.rear.rr.pending)

/-! ### Status-dirty and events -/

/-- Status-dirty set (R164). -/
def State.markDirty (s : State) : State := { s with seu := { s.seu with dirty := true } }

/-- Status-dirty set where something the rules name has changed. -/
def State.dirtyIf (b : Bool) (s : State) : State := if b then s.markDirty else s

/-- The four words of an event record (R168; 11_memory_resident_formats, Event record). -/
def eventWords (k : EvKind) (detail aux time : Word) (tag : Byte) : List Word :=
  [pack [(k.code, 0), (ofBool k.isError, 8), (ofBool k.isSafety, 9), (tag.toNat, 24)], detail, aux &&& 0xFFFF, time]

/-- The event ring is full for the next record (R168). -/
def Seu.ringFull (e : Seu) : Bool := decide (e.w + 1 = e.a) || e.queue.any fun r => decide (r.entry = e.w)

/-- The record step of a raise (R168, R170). -/
def Seu.placeRecord (k : EvKind) (words : List Word) (e : Seu) : Seu :=
  if e.recMask &&& k.bit ≠ 0 ∧ k ≠ .eventRingFull then
    if e.ringFull then e.setKind .eventRingFull
    else { e with w := e.w + 1, queue := e.queue ++ [⟨e.w, words⟩] }
  else e

/-- A block raises an event (R167): flags, record step, lines, status-dirty. -/
def raise (k : EvKind) (detail aux : Word) (s : State) : State :=
  { s with
    seu := { ((s.seu.setKind k).placeRecord k (eventWords k detail aux s.time s.seu.tag)).evalLines with dirty := true } }

/-- An event raised where a condition holds. -/
def raiseIf (b : Bool) (k : EvKind) (detail aux : Word) (s : State) : State := if b then raise k detail aux s else s

/-- One raise of a block: its kind, detail and aux. -/
structure Raise where
  kind : EvKind
  detail : Word
  aux : Word
deriving DecidableEq, Repr

/-- What one event does to the part, with the raises it makes in the order its rule names (R167). -/
abbrev WithRaises := State × List Raise

/-- Raises in their order. -/
def raiseAll : List Raise → State → State
  | [], s => s
  | r :: rs, s => raiseAll rs (raise r.kind r.detail r.aux s)

/-- An event of one block alone: its effect and its raises. -/
def raised (r : WithRaises) : State := raiseAll r.2 r.1

/-- The raises of two blocks, each in its own order, the order between them free (R167, log entry 29). -/
def interleave : Nat → List Raise → List Raise → List Raise
  | _, [], ys => ys
  | _, xs, [] => xs
  | k, x :: xs, y :: ys =>
    let n := Config.raisePlace k % (ys.length + 2)
    (y :: ys).take n ++ x :: interleave (k + 1) xs ((y :: ys).drop n)

/-- The raises of several blocks, one list for each. -/
def interleaveAll : Nat → List (List Raise) → List Raise
  | _, [] => []
  | k, rs :: rss => interleave k rs (interleaveAll (k + rs.length) rss)

/-- Raises of different blocks that come together, one list for each block (R167). -/
def raiseTogether (rss : List (List Raise)) (s : State) : State :=
  raiseAll (interleaveAll s.free rss) { s with free := s.free + rss.flatten.length }

/-! ### Results of commands (R157, R161) -/

def resDone : Word := 1
def resMerged : Word := 2
def resBadKind : Word := 3
def resBadParam : Word := 4
def resWrongState : Word := 5
def resBusy : Word := 6
def resFull : Word := 7
def resSourceErr : Word := 8

/-- The command's result is decided: the CMU becomes WRITING (R157, R158). -/
def finish (code detail : Word) (s : State) : State :=
  { s with cmu := { s.cmu with st := .writing, code := code, detail := detail, plan := [], data := [] } }.markDirty

/-- The checks at take passed: the CMU becomes EXECUTING and reads the bursts (R157, R158). -/
def beginRead (plan : List (Nat × Nat)) (s : State) : State :=
  { s with cmu := { s.cmu with st := .executing, plan := plan, data := [] } }.markDirty

/-- Records between C and P (R154). -/
def Cmu.pendingCount (m : Cmu) : BitVec 8 := m.p - m.c

/-- An IDLE CMU with a pending record takes it and becomes READING (R157). -/
def takeRecord (s : State) : State :=
  if s.cmu.pendingCount ≠ 0 then { s with cmu := { s.cmu with st := .reading } }.markDirty
  else { s with cmu := { s.cmu with st := .idle } }.markDirty

end Sys2Proof.Machine
end

