-- ==== Sys2Proof/Machine/Status.lean ====
section
/-! DEFINITION. The contents of the status block as they stand at a snapshot (R163; 11_memory_resident_formats, Status block).
Offsets are from CA offset 0x0100. -/

namespace Sys2Proof.Machine

def CmuState.code : CmuState → Nat
  | .idle => 0
  | .reading => 1
  | .executing => 2
  | .writing => 3

def OutState.code : OutState → Nat
  | .stopped => 0
  | .running => 1
  | .stopping => 2

def SlotState.code : SlotState → Nat
  | .free => 0
  | .writing => 1
  | .closing => 2
  | .ready => 3
  | .shown => 4

def RevState.code : RevState → Nat
  | .normal => 0
  | .engaging => 1
  | .live => 2
  | .blanked => 3
  | .linger => 4

def RequestSource.code : RequestSource → Nat
  | .pin => 0
  | .vehicle => 1
  | .either => 2

def Recompute.code : Recompute → Nat
  | .idle => 0
  | .running => 1
  | .waiting => 2

def IdleBank.code : IdleBank → Nat
  | .clear => 0
  | .drawing => 1
  | .complete => 2

def VoiceQState.code : VoiceQState → Nat
  | .idle => 0
  | .playing => 1
  | .releasing => 2

def VoicePState.code : VoicePState → Nat
  | .off => 0
  | .quiet => 1
  | .beep => 2
  | .gap => 3
  | .tone => 4
  | .release => 5

def Condition.code : Condition → Nat
  | .off => 0
  | .always => 1
  | .reverse => 2

def MonState.code : MonState → Nat
  | .off => 0
  | .counting => 1
  | .armed => 2
  | .tagged => 3
  | .held => 4

/-- A film source in a status word; 2 is none. -/
def filmCode : Option FilmSource → Nat
  | some .a => 0
  | some .b => 1
  | none => 2

/-- Film words of a source (R39). Without a current buffer the tag is written as 0 (DESIGN CHOICE, log entry 42). -/
def filmFields (s : State) (src : FilmSource) (off : Nat) : List (Nat × Word) :=
  let f := s.fqu.film src
  [(off, pack [(ofBool !(s.fqu.idle src), 0), (ofBool f.playing, 1), (ofBool s.filmHeld, 2), (f.queue.length, 8),
      (f.bases.length, 16), (s.fqu.freeMask src, 24)]),
   (off + 4, f.clock),
   (off + 8, match f.current with
      | some (i, tag) => pack [(i, 0), (tag.toNat, 16)]
      | none => pack [(255, 0)])]

/-- Route and latched buffer of a rear output (R39). -/
def rearFilmWord (r : RearFilm) : Word :=
  pack [(filmCode r.route, 0), (filmCode (r.latched.map Prod.fst), 8), ((r.latched.map Prod.snd).getD 255, 16)]

/-- The words of each slot (R59). -/
def slotFields (s : State) : List (Nat × Word) :=
  (List.range s.ccu.slots.length).flatMap fun i =>
    let x := s.ccu.slots.getD i ⟨.free, 0⟩
    [(0x0E0 + 8 * i, pack [(x.st.code, 0)]), (0x0E4 + 8 * i, x.frame)]

/-- The word of the explicit ranges and range 9 (R137). -/
def guardWord (s : State) : Word :=
  pack (((List.range 8).flatMap fun i =>
      let g := s.ppw.guard.getD i Reset.guardRange
      [(g.cond.code, 2 * i), (ofBool (s.rangeActive g), 16 + i)]) ++ [(ofBool s.capturing, 24)])

/-- The words of the block that have a field, with their offsets; `gen` is the generation of the write (R163, R165). -/
def statusFields (s : State) (gen : Word) : List (Nat × Word) :=
  let g := s.gde
  let r := s.rvc
  let v := s.chu.q
  let m := s.fma.mon
  let executing := decide (s.cmu.st = .executing) || decide (s.cmu.st = .writing)
  [(0x000, gen),
   (0x004, pack [(Config.partCode, 0), (Config.revision, 16), (s.straps.caSel.toNat, 24), (ofBool s.straps.memsz, 28)]),
   (0x008, s.time),
   (0x00C, pack [(s.cmu.p.toNat, 0), (s.cmu.c.toNat, 8), (s.cmu.st.code, 16),
      (if executing then s.cmu.cmd.kind.toNat else 0, 24)]),
   (0x010, pack [(s.seu.w.toNat, 0), (s.seu.a.toNat, 8)]),
   (0x014, s.seu.pending.setWidth 32), (0x018, (s.seu.pending >>> 32).setWidth 32),
   (0x01C, s.seu.occurred.setWidth 32), (0x020, (s.seu.occurred >>> 32).setWidth 32),
   (0x030, pack [(s.scn.ctr.st.code, 0)]), (0x034, s.scn.ctr.frames),
   (0x038, pack [(s.scn.rl.st.code, 0)]), (0x03C, s.scn.rl.frames),
   (0x040, pack [(s.scn.rr.st.code, 0)]), (0x044, s.scn.rr.frames)] ++
  filmFields s .a 0x060 ++ filmFields s .b 0x080 ++
  [(0x0A0, rearFilmWord s.fqu.rear.rl), (0x0A4, rearFilmWord s.fqu.rear.rr),
   (0x0C0, pack [(ofBool s.ccu.setup.isSome, 0), (ofBool s.ccu.enable, 1), (ofBool s.reversing, 2), (ofBool s.capturing, 3),
      (ofBool s.ccu.present, 4), (s.ccu.slots.length, 8)]),
   (0x0C4, s.ccu.seen), (0x0C8, s.ccu.accepted), (0x0CC, BitVec.ofNat 32 s.ccu.vpd)] ++
  slotFields s ++
  [(0x120, pack [(r.st.code, 0), (ofBool r.request, 4), (ofBool r.debounced, 5), (ofBool s.vehicleFlag, 6),
      (r.setup.source.code, 8), (ofBool r.heldBlanked, 12), ((shownSlot s.ccu.slots).getD 15, 16),
      (ofBool r.engageTimer.isSome, 24), (ofBool r.staleTimer.isSome, 25), (ofBool r.lingerTimer.isSome, 26)]),
   (0x130, pack [(ofBool g.setup.isSome, 0), (ofBool g.pendingSetup.isSome, 1), (ofBool s.reversing, 2),
      (g.recompute.code, 4), (ofBool g.pendingFlag, 6), (ofBool g.shown1, 8), (g.idle.code, 12),
      (ofBool g.steering.usable, 16), (ofBool g.obstacle.usable, 17)]),
   (0x134, BitVec.ofInt 32 g.captured.angle),
   (0x140, pack [(v.st.code, 0), (if v.st = .idle then 255 else v.id, 8), (s.chu.queue.length, 16),
      (s.chu.p.st.code, 24), (ofBool s.chu.prox.enable, 28)]),
   (0x144, pack [(s.chu.master, 0)]),
   (0x150, guardWord s),
   (0x160, pack [(ofBool s.reversing, 0), (m.st.code, 8), (ofBool m.valid, 12), (s.fma.owed, 16)]),
   (0x164, BitVec.ofNat 32 m.period),
   (0x168, m.sample.addr),
   (0x16C, pack [(ofBool m.sample.write, 0), (m.sample.len, 8), (m.sample.holder, 16), (ofBool m.sample.urgent, 20),
      (ofBool m.sample.reverse, 21), (m.sample.others, 24)]),
   (0x170, pack [(m.sample.wait.toNat, 0)]),
   (0x2FC, gen)]

/-- The field at an offset, 0 where the block gives none (R163, R180). -/
def lookupField (fs : List (Nat × Word)) (off : Nat) : Word := ((fs.find? fun f => decide (f.1 = off)).map Prod.snd).getD 0

/-- The 192 words of the block (R163). -/
def statusWords (s : State) (gen : Word) : List Word :=
  let fs := statusFields s gen
  (List.range 192).map fun i => lookupField fs (4 * i)

end Sys2Proof.Machine
end

