-- ==== Sys2Proof/Machine/Arbiter.lean ====
section
/-! DEFINITION. The Frame Memory Arbiter: who requests and who is URGENT (R139), the burst each client carries (R12, R52, R140), the
decision (R142), grants and wait counts (R143), the measurements of the sampling monitor at grants (R150), and `settle`, which
ends every step: withdrawn requests lose their wait counts and an IDLE memory is granted at once (R141). -/

namespace Sys2Proof.Machine

/-! ### Requests -/

/-- A fetching plane requests: fewer than 4 complete lines, and a burst of the frame's lines still to come (R11). -/
def Fetch.requests (p : Fetch) : Bool :=
  decide (p.lines.length < 4) && decide (p.next < p.stop) && decide (p.got.length < p.words)

/-- A requesting plane is URGENT with fewer than 2 complete lines (R11). -/
def Fetch.urgent (p : Fetch) : Bool := p.requests && decide (p.lines.length < 2)

/-- The output a scanout client fetches for. -/
def Client.output : Client → Option Output
  | .scanC => some .ctr
  | .scanL => some .rl
  | .scanR => some .rr
  | .proc | .capt | .serv => none

def CaptureItem.isPixel : CaptureItem → Bool
  | .pixel _ _ _ => true
  | .trailer _ _ _ => false

/-- Pixel bytes in the capture buffer (R52). -/
def pixelCount (b : List CaptureItem) : Nat := b.countP CaptureItem.isPixel

/-- The CMU has a burst waiting (R140). -/
def Cmu.requests (m : Cmu) : Bool :=
  match m.st with
  | .idle => false
  | .reading | .executing | .writing => true

/-- The burst in progress whose end is still to be made. -/
def State.burst (s : State) : Option Burst :=
  match s.fma.memory with
  | .data g => if g.ended then none else some g.burst
  | .notReady | .idle | .refresh => none

/-- The burst of the transaction in progress has been granted and has not ended (R130, R139). -/
def State.procGranted (s : State) : Bool :=
  match s.burst with
  | some (.procRead _) | some .procWrite => true
  | _ => false

/-- A data client requests (R139): PROC while a transaction is PENDING and not yet granted. -/
def State.requests (s : State) (c : Client) : Bool :=
  match c with
  | .proc => decide (s.ppw.port = .pending) && !s.procGranted
  | .scanC => s.scn.ctr.fetch.any Fetch.requests
  | .scanL => s.scn.rl.fetch.any Fetch.requests
  | .scanR => s.scn.rr.fetch.any Fetch.requests
  | .capt => decide (Config.captureRequest ≤ pixelCount s.ccu.buffer) || s.ccu.buffer.any fun x => !x.isPixel
  | .serv => !s.seu.queue.isEmpty || s.cmu.requests || s.seu.writing.isSome || s.seu.dirty

/-- A data client is URGENT by level (R139). -/
def State.urgentByLevel (s : State) (c : Client) : Bool :=
  match c with
  | .proc | .serv => false
  | .scanC => s.scn.ctr.fetch.any Fetch.urgent
  | .scanL => s.scn.rl.fetch.any Fetch.urgent
  | .scanR => s.scn.rr.fetch.any Fetch.urgent
  | .capt => decide (Config.captureUrgent ≤ pixelCount s.ccu.buffer)

/-- A data client is URGENT by count in the profile in force (R143). -/
def State.urgentByCount (s : State) (c : Client) : Bool :=
  decide (1 ≤ s.profile.ceil.get c) && decide (s.profile.ceil.get c ≤ s.fma.waits.get c)

def State.urgent (s : State) (c : Client) : Bool := s.urgentByLevel c || s.urgentByCount c

/-! ### The bursts -/

/-- The requesting plane with the fewest complete lines, the lowest in the stack among equals (R12). -/
def choosePlane : List Fetch → Option Fetch
  | [] => none
  | p :: ps =>
    match choosePlane ps with
    | none => if p.requests then some p else none
    | some q => if p.requests && decide (p.lines.length ≤ q.lines.length) then some p else some q

/-- The next burst of a plane's line in fetch (R11). -/
def lineGrant (s : State) (c : Client) (o : Output) (p : Fetch) : Grant :=
  let n := min 8 (p.words - p.got.length)
  let a := p.base + p.next * p.pitch + 4 * p.got.length
  ⟨c, a, 4 * n, .line o p.plane p.next (readWords s.mem a n) (decide (p.got.length + n = p.words)) false, false⟩

/-- The pixel bytes that follow the byte at `a - 1` in the same 32-byte block of the same crop line, and the rest (R52). -/
def takeRun (slot a : Nat) : List CaptureItem → List Host.Cell × List CaptureItem
  | .pixel sl ad b :: rest =>
    if sl = slot ∧ ad = a ∧ a % 32 ≠ 0 then
      let r := takeRun slot (a + 1) rest
      ((ad, b) :: r.1, r.2)
    else ([], .pixel sl ad b :: rest)
  | l => ([], l)

/-- CAPT's burst: the oldest item of the capture buffer; pixel bytes leave the buffer at the grant (R52). -/
def captGrant (s : State) : Option (Grant × List CaptureItem) :=
  match s.ccu.buffer with
  | [] => none
  | .pixel slot a b :: rest =>
    let r := takeRun slot (a + 1) rest
    some (⟨.capt, a, r.1.length + 1, .pixels ((a, b) :: r.1), false⟩, r.2)
  | .trailer slot ws half :: rest =>
    let a := (s.ccu.setup.map fun c => c.slotBase slot).getD 0 + Config.mib - 64
    let h := if half then ⟨.capt, a + 32, 32, .trailer true (ws.drop 8), false⟩ else ⟨.capt, a, 32, .trailer false (ws.take 8), false⟩
    some (h, .trailer slot ws half :: rest)

/-- Place of record `i` of the command ring, and of entry `i` of the event ring (R154, R168). -/
def State.recordAddr (s : State) (i : BitVec 8) : Nat := s.caBase + Config.commandRingOffset + 32 * i.toNat

def State.entryAddr (s : State) (i : BitVec 6) : Nat := s.caBase + Config.eventRingOffset + 16 * i.toNat

/-- Block `k` of a status write (R165). -/
def statusGrant (s : State) (snap : List Word) (k : Nat) : Grant :=
  ⟨.serv, s.caBase + Config.statusOffset + 32 * k, 32, .status k ((snap.drop (8 * k)).take 8), false⟩

/-- The CMU's burst: the record at C, the next burst of the command's read, or the two result words (R157, R158, R160). -/
def commandGrant (s : State) : Option Grant :=
  match s.cmu.st with
  | .idle => none
  | .reading => some ⟨.serv, s.recordAddr s.cmu.c, 32, .record (readWords s.mem (s.recordAddr s.cmu.c) 8), false⟩
  | .executing =>
    match s.cmu.plan with
    | [] => none
    | (a, n) :: rest => some ⟨.serv, a, 4 * n, .table (readWords s.mem a n) rest.isEmpty, false⟩
  | .writing => some ⟨.serv, s.recordAddr s.cmu.c + 0x18, 8, .result [s.cmu.code, s.cmu.detail], false⟩

/-- The grant's memory state given to a burst. -/
def State.carry (s : State) (g : Grant) : State := { s with fma := { s.fma with memory := .data g } }

/-- SERV's burst: an event record, then command work, then a status block write, whose first burst takes the snapshot
(R140, R165). -/
def grantServ (s : State) : State :=
  match s.seu.queue with
  | r :: _ => s.carry ⟨.serv, s.entryAddr r.entry, 16, .event r.words, false⟩
  | [] =>
    match commandGrant s with
    | some g => s.carry g
    | none =>
      match s.seu.writing with
      | some (snap, k) => s.carry (statusGrant s snap k)
      | none =>
        let gen := s.seu.generation + 1
        let snap := statusWords s gen
        { s with seu := { s.seu with dirty := false, generation := gen, writing := some (snap, 0) } }.carry
          (statusGrant s snap 0)

/-- The granted client takes up its burst (R138). -/
def carryBurst (c : Client) (s : State) : State :=
  match c with
  | .proc =>
    match s.ppw.tx with
    | none => s
    | some q =>
      s.carry ⟨.proc, (requestAddr q), 4 * q.len, if q.write then .procWrite else .procRead (readWords s.mem (requestAddr q) q.len), false⟩
  | .scanC | .scanL | .scanR =>
    match c.output with
    | none => s
    | some o =>
      match choosePlane (s.scan o).fetch with
      | none => s
      | some p => s.carry (lineGrant s c o p)
  | .capt =>
    match captGrant s with
    | none => s
    | some (g, rest) => { s with ccu := { s.ccu with buffer := rest } }.carry g
  | .serv => grantServ s

/-! ### The decision -/

/-- What a decision grants: a refresh or a data client's burst. -/
inductive Target where
  | refresh
  | client (c : Client)
deriving DecidableEq, Repr

/-- The steps of R142, over the clients that `asking` says request. -/
def decisionTarget (asking : Client → Bool) (s : State) : Option Target :=
  if s.fma.owed = 8 then some .refresh
  else
    match s.profile.order.find? fun c => asking c && s.urgent c with
    | some c => some (.client c)
    | none =>
      if asking .proc then some (.client .proc)
      else
        match s.profile.order.find? asking with
        | some c => some (.client c)
        | none => if 1 ≤ s.fma.owed then some .refresh else none

/-- What the sampling monitor notes at a decision that gives a grant (R150, R151). `waited` is clear where the grant is given at
the take itself. -/
def noteGrant (t : Target) (waited : Bool) (s : State) : State :=
  let m := s.fma.mon
  if m.st = .tagged ∧ s.requests .proc = true then
    let urgent := m.tag.urgent || s.urgentByCount .proc
    if t = .client .proc then
      let tag := { m.tag with urgent := urgent, reverse := s.reversing, wait := if waited then Config.sampleWait s.free else 0 }
      { s with fma := { s.fma with mon := { m with tag := tag } }, free := s.free + 1 }
    else
      { s with fma := { s.fma with mon := { m with tag := { m.tag with urgent := urgent, others := min 255 (m.tag.others + 1) } } } }
  else s

/-- The wait counts after a grant (R143). -/
def waitsAfter (asking : Client → Bool) (t : Target) (w : PerClient Nat) : PerClient Nat :=
  PerClient.build fun c => if t = .client c then 0 else if asking c then min 31 (w.get c + 1) else 0

/-- A grant is given (R142, R143, R146). -/
def giveGrant (asking : Client → Bool) (t : Target) (waited : Bool) (s : State) : State :=
  let s := noteGrant t waited s
  let s := { s with fma := { s.fma with waits := waitsAfter asking t s.fma.waits } }
  match t with
  | .refresh => { s with fma := { s.fma with memory := .refresh, owed := s.fma.owed - 1, lateRun := if s.fma.owed - 1 < 8 then 0 else s.fma.lateRun } }
  | .client c => carryBurst c s

/-- The decision at the end of a grant (R141, R142). -/
def decideAtEnd (s : State) : State :=
  let s := { s with fma := { s.fma with memory := .idle } }
  match decisionTarget s.requests s with
  | none => s
  | some t => giveGrant s.requests t true s

/-- The data clients that request, by code. -/
def State.requesters (s : State) : List Client :=
  [Client.proc, .scanC, .scanL, .scanR, .capt, .serv].filter s.requests

/-- The decision of an IDLE memory when `c` starts to request (R141): the others have not started yet. -/
def decideFor (c : Client) (s : State) : State :=
  let asking : Client → Bool := fun d => decide (d = c)
  match decisionTarget asking s with
  | none => s
  | some t => giveGrant asking t false s

/-- A client that has ceased to request has wait count 0 (R143). -/
def withdrawWaits (s : State) : State :=
  { s with fma := { s.fma with waits := PerClient.build fun c => if s.requests c then s.fma.waits.get c else 0 } }

/-- The end of every step: wait counts of withdrawn requests, and the decision of an IDLE memory that something now requests
(R141, R143). Where several clients start to request together, which is taken first is a free value (log entry 12). -/
def settle (s : State) : State :=
  let s := withdrawWaits s
  match s.fma.memory with
  | .idle =>
    match s.requesters with
    | [] => if 1 ≤ s.fma.owed then giveGrant s.requests .refresh false s else s
    | [c] => decideFor c s
    | c :: cs =>
      decideFor ((c :: cs).getD (Config.firstTaken s.free % (c :: cs).length) c) { s with free := s.free + 1 }
  | .notReady | .refresh | .data _ => s

/-- A step of the part outside reset: its effect, and then `settle`. While RESET_N is asserted the part is held in its reset
state and nothing comes about (R136, log entry 4). -/
def live (f : State → State) (s : State) : Host.Outcome State Fault Refusal :=
  if s.phase = .held then .next s else .next (settle (f s))

/-! ### Bursts in progress -/

/-- What the end of the burst brings about has been made (log entry 7). -/
def markEnded (s : State) : State :=
  match s.fma.memory with
  | .data g => s.carry { g with ended := true }
  | .notReady | .idle | .refresh => s

/-- The burst in progress lies inside fitted memory (R123, R134). -/
def State.burstInside (s : State) : Bool :=
  match s.fma.memory with
  | .data g => decide (g.addr + g.bytes ≤ s.memSize)
  | .notReady | .idle | .refresh => true

/-- The first byte address of the burst in progress. -/
def State.burstAddr (s : State) : Nat :=
  match s.fma.memory with
  | .data g => g.addr
  | .notReady | .idle | .refresh => 0

/-- A step that ends a burst: `live`, and a fault where the burst lies outside fitted memory. -/
def liveBurst (f : State → State) (s : State) : Host.Outcome State Fault Refusal :=
  if s.phase ≠ .held ∧ s.burstInside = false then .fault (.beyondMemory s.burstAddr) else live f s

/-- The record read at C is in progress: its words arrive at its end (R157). -/
def State.recordInFlight (s : State) : Bool :=
  decide (s.cmu.st = .reading) &&
    match s.burst with
    | some (.record _) => true
    | _ => false

/-- The code of the client holding the memory (R146, R150): 6 for RFSH, 7 for none. -/
def State.holderCode (s : State) : Nat :=
  match s.fma.memory with
  | .notReady | .idle => 7
  | .refresh => 6
  | .data g => g.client.code

end Sys2Proof.Machine
end

