-- ==== Sys2Proof/WellFormed.lean ====
section
/-! DEFINITION. Which commands the outside world can send: the processor port carries bursts of 1 to 8 words, with one data word
per word of a write (R121); BAD_KIND is the arrival of a record whose kind is none of 1 to 27 (R157). -/

namespace Sys2Proof

/-- A request the port can carry (R121). -/
def Request.wf (q : Request) : Bool :=
  decide (1 ≤ q.len) && decide (q.len ≤ 8) && decide (q.data.length = if q.write then q.len else 0)

/-- The kind codes of the 27 commands (11_memory_resident_formats, Command record). -/
def kindNamed (k : Byte) : Bool :=
  decide (1 ≤ k.toNat) && decide (k.toNat ≤ 27)

/-- A command the outside world can send. -/
def Instr.wf : Instr → Bool
  | .take q => q.wf
  | .badKind k _ => !kindNamed k
  | _ => true

end Sys2Proof
end

