-- ==== Sys2Proof/Machine/Port.lean ====
section
/-! DEFINITION. The Processor Port (07_the_memory_path.md): range check, guard, take, completion, the guard table, and the sampling
monitor's part in them (08, R148 to R152). -/

namespace Sys2Proof.Machine

/-! ### Checks -/

/-- The byte addresses of a request's words. -/
def requestWords (q : Request) : List Nat := (List.range q.len).map fun i => requestAddr q + 4 * i

/-- The range check of R123 fails. -/
def State.outOfRange (s : State) (q : Request) : Bool :=
  ((requestWords q).any fun a => decide (s.memSize ≤ a)) || decide (8 < q.wordAddr.toNat % 8 + q.len)

/-- Range 8: the status block and the event ring (R129). -/
def State.inRange8 (s : State) (a : Nat) : Bool := decide (s.caBase + 0x100 ≤ a) && decide (a < s.caBase + 0x800)

/-- The capture area holds the address (R44). -/
def State.inCaptureArea (s : State) (a : Nat) : Bool := (s.ccu.setup.map fun c => c.inArea a).getD false

/-- The ranges that are active and cover an address, by index, each with whether its response is FAULT (R125, R126, R129). -/
def State.coveringRanges (s : State) (a : Nat) : List (Nat × Bool) :=
  ((List.range 8).filterMap fun i =>
      let g := s.ppw.guard.getD i Reset.guardRange
      if s.rangeActive g && g.covers a then some (i, decide (g.response = 1)) else none) ++
    (if s.inRange8 a then [(8, false)] else []) ++
    (if s.capturing && s.inCaptureArea a then [(9, (s.ccu.setup.map CamSetup.fault).getD false)] else [])

/-- The lowest guarded word of a burst and its guarding range (R125). -/
def State.guardHit (s : State) (q : Request) : Option (Nat × Nat × Bool) :=
  (requestWords q).findSome? fun a =>
    match s.coveringRanges a with
    | [] => none
    | (i, fault) :: _ => some (a, i, fault)

/-! ### The monitor (R148 to R152) -/

def State.setMon (m : Monitor) (s : State) : State := { s with fma := { s.fma with mon := m } }

/-- A completion is counted in COUNTING (R148). -/
def countCompletion (s : State) : State :=
  let m := s.fma.mon
  if m.st = .counting then
    s.setMon { m with count := m.count + 1, st := if m.period ≤ m.count + 1 then .armed else .counting }
  else s

/-- An ARMED monitor tags the transaction taken (R150). -/
def tagTake (s : State) : State :=
  let m := s.fma.mon
  if m.st = .armed then s.setMon { m with st := .tagged, tag := { Reset.tag with holder := s.holderCode } } else s

/-- A tagged write dropped before its grant loses its tag (R150). -/
def dropTag (s : State) : State :=
  let m := s.fma.mon
  if m.st = .tagged then s.setMon { m with st := .armed, tag := Reset.tag } else s

/-- The completion of the tagged transaction takes the sample record (R151). -/
def takeSample (q : Request) (s : State) : State :=
  let m := s.fma.mon
  if m.st = .tagged then
    let sample : Sample :=
      { addr := BitVec.ofNat 32 (requestAddr q), write := q.write, len := q.len, wait := m.tag.wait, holder := m.tag.holder,
        others := m.tag.others, urgent := m.tag.urgent, reverse := m.tag.reverse }
    raise .sampleReady sample.addr (sample.wait.setWidth 32) (s.setMon { m with st := .held, valid := true, sample := sample })
  else s

/-- A take of SAMPLE_CLR (R152). -/
def takeSampleClr (s : State) : State :=
  let m := s.fma.mon
  (s.setMon { m with valid := false, tag := Reset.tag, count := 0, st := if m.st = .off then .off else .counting }).markDirty

/-- SAMPLE_SETUP (R149). Operand 1 is read whole, and a value above 1 is neither off nor on (DESIGN CHOICE, log entry 43). -/
def doSampleSetup (r : Rec) (s : State) : State :=
  let m := s.fma.mon
  let on := r.op1.toNat
  let period := r.op2.toNat
  if 1 < on ∨ (on = 1 ∧ (period < 1 ∨ 65535 < period)) then finish resBadParam 0 s
  else
    finish resDone 0 ((s.setMon
      { m with tag := Reset.tag, count := 0, period := if on = 1 then period else m.period,
               st := if on = 1 then (if m.valid then .held else .counting) else .off }).markDirty)

/-! ### Completion and take -/

/-- A transaction completes: the port is FREE again and the processor has its answer (R121). -/
def respond (ok : Bool) (data : List Word) (s : State) : State :=
  { s with ppw := { s.ppw with port := .free, tx := none, response := some ⟨ok, data⟩ } }

/-- A presented request is taken at a FREE port (R122). -/
def takeNow (q : Request) (s : State) : State :=
  let s := { s with ppw := { s.ppw with port := .pending, tx := some q, waiting := none } }
  if s.outOfRange q then
    countCompletion (respond false (if q.write then [] else List.replicate q.len 0)
      (raise .procRange (BitVec.ofNat 32 (requestAddr q)) (BitVec.ofNat 32 (q.len + if q.write then 16 else 0)) s))
  else if q.write then
    match s.guardHit q with
    | some (a, i, fault) =>
      countCompletion (respond (!fault) [] (raise .guardHit (BitVec.ofNat 32 a) (BitVec.ofNat 32 i) s))
    | none => tagTake s
  else tagTake s

/-- The processor presents a request (R121, R122). At a port that is NOT_READY it waits; while a transaction is PENDING none is
presented, and a request the port cannot carry is none (log entry 3). -/
def doTake (q : Request) (s : State) : State :=
  if !q.wf then s
  else
    match s.ppw.port with
    | .free => takeNow q s
    | .notReady => if s.ppw.waiting.isSome then s else { s with ppw := { s.ppw with waiting := some q } }
    | .pending => s

/-- The lowest word in the capture area of the write that a capture start drops: the transaction in progress, if its grant has
not been made (R130). -/
def State.captureHit (s : State) : Option Nat :=
  match s.ppw.port, s.ppw.tx with
  | .pending, some q => if !q.write || s.procGranted then none else (requestWords q).find? s.inCaptureArea
  | _, _ => none

/-- A write whose grant was made before capture starts has written its bytes before capture runs (R130). -/
def landGrantedWrite (s : State) : State :=
  match s.burst, s.ppw.tx with
  | some .procWrite, some q => { s with mem := writeCells s.mem (requestCells (requestAddr q) q.data) }
  | _, _ => s

/-- The port's part of a capture start: a write granted is written, an ungranted one into the capture area is dropped (R130). -/
def dropAtCaptureStart (s : State) : WithRaises :=
  match s.captureHit with
  | none => (landGrantedWrite s, [])
  | some a =>
    let fault := (s.ccu.setup.map CamSetup.fault).getD false
    let t := respond (!fault) [] (dropTag s)
    (if s.fma.mon.st = .tagged then t else countCompletion t, [⟨.guardHit, BitVec.ofNat 32 a, 9⟩])

/-- The transaction in progress completes after its grant; `counted` is clear where it carried a full write to SAMPLE_CLR
(R148, R151, R152). -/
def completeTx (q : Request) (data : List Word) (counted : Bool) (s : State) : State :=
  let tagged := decide (s.fma.mon.st = .tagged)
  let s := respond true data (takeSample q s)
  if counted && !tagged then countCompletion s else s

/-- A processor read's last word has arrived (R121, R124). -/
def readOver (s : State) : State :=
  match s.burst, s.ppw.tx with
  | some (.procRead ws), some q => completeTx q ws true (markEnded s)
  | _, _ => s

/-! ### The guard table -/

/-- GUARD_SETUP at take (R127). -/
def doGuardSetup (r : Rec) (s : State) : State :=
  if !sourceOk s.memSize r.op1.toNat 64 then finish resSourceErr 0 s else beginRead (burstsOf r.op1.toNat 16) s

/-- GUARD_SETUP when its read has completed (R128). -/
def guardRead (ws : List Word) (s : State) : State :=
  let entries := guardEntriesOf s.memSize s.caBase ws
  match entries.findIdx? Option.isNone with
  | some i => finish resBadParam (BitVec.ofNat 32 i) s
  | none =>
    let table := entries.filterMap id
    finish resDone (BitVec.ofNat 32 (table.countP fun g => decide (g.cond ≠ .off)))
      { s with ppw := { s.ppw with guard := table } }.markDirty

/-! ### Profiles -/

/-- ARB_PROFILE (R145). -/
def doArbProfile (r : Rec) (s : State) : State :=
  let codes := sixBytes r.op2 r.op3
  let ceils := sixBytes r.op4 r.op5
  let order := codes.filterMap clientOf
  let c := fun i => ceils.getD i 0
  let profile : Profile := ⟨order, ⟨c 0, c 1, c 2, c 3, c 4, c 5⟩⟩
  if 1 < r.op1.toNat then finish resBadParam 1 s
  else if order.length ≠ 6 ∨ ¬ order.Nodup then finish resBadParam 2 s
  else if (ceils.all fun x => decide (x ≤ 31)) = false then finish resBadParam 3 s
  else if r.op1.toNat = 1 ∧ ¬ (Client.capt ∈ order.take 3 ∧ Client.scanC ∈ order.take 3) then finish resBadParam 4 s
  else
    finish resDone 0 (if r.op1.toNat = 1 then { s with fma := { s.fma with reverse := profile } }
      else { s with fma := { s.fma with normal := profile } }).markDirty

/-- The refresh timer expires (R146). -/
def refreshTick (s : State) : State :=
  if !s.fma.refreshOn then s
  else if s.fma.owed < 8 then { s with fma := { s.fma with owed := s.fma.owed + 1 } }
  else
    let n := min 65535 (s.fma.lateRun + 1)
    raise .refreshLate (BitVec.ofNat 32 n) (BitVec.ofNat 32 s.holderCode) { s with fma := { s.fma with lateRun := n } }

end Sys2Proof.Machine
end

