-- ==== Sys2Proof/Machine/Camera.lean ====
section
/-! DEFINITION. The Camera Capture Unit (03_camera_capture.md): sync checks, samples, black level, the slot ring, capture start and
stop. -/

namespace Sys2Proof.Machine

def State.setCcu (c : Ccu) (s : State) : State := { s with ccu := c }

def slotAt (slots : List Slot) (i : Nat) : Slot := slots.getD i ⟨.free, 0⟩

/-- A slot's state changed, its frame number kept. -/
def setSlotState (slots : List Slot) (i : Nat) (st : SlotState) : List Slot := slots.modify i fun x => { x with st := st }

/-- The pixel bytes of a slot leave the capture buffer (R46, R54). -/
def discardPixels (slot : Nat) (b : List CaptureItem) : List CaptureItem :=
  b.filter fun x =>
    match x with
    | .pixel sl _ _ => decide (sl ≠ slot)
    | .trailer _ _ _ => true

/-- A fault mark: the first one stays (R47). A frame without a slot takes none. -/
def OpenFrame.addMark (m : Mark) (f : OpenFrame) : OpenFrame :=
  if f.slot.isSome ∧ f.mark.isNone then { f with mark := some m } else f

def markFrame (m : Mark) (s : State) : State := s.setCcu { s.ccu with frame := s.ccu.frame.map (OpenFrame.addMark m) }

/-! ### Capture start and stop (R46, R58, R130) -/

/-- Capture stops: the WRITING slot is freed and its waiting bytes are discarded. -/
def stopCapture (s : State) : State :=
  let c := s.ccu
  match c.frame with
  | none => s.markDirty
  | some f =>
    match f.slot with
    | none => (s.setCcu { c with frame := none }).markDirty
    | some i =>
      (s.setCcu { c with frame := none, slots := setSlotState c.slots i .free, buffer := discardPixels i c.buffer }).markDirty

/-- Capture starts with no open frame. -/
def startCapture (s : State) : WithRaises := dropAtCaptureStart (s.setCcu { s.ccu with frame := none }).markDirty

/-- Capture follows its running condition, which was `was` (R45, R46). -/
def syncCapture (was : Bool) (s : State) : WithRaises :=
  if s.capturing && !was then startCapture s else if !s.capturing && was then (stopCapture s, []) else (s, [])

/-- CAMERA_ENABLE (R45). -/
def doCameraEnable (r : Rec) (s : State) : State :=
  let on := flag r.op1 0
  if on && s.ccu.setup.isNone then finish resWrongState 0 s
  else if !on && s.reversing then finish resWrongState 0 s
  else finish resDone 0 (raised (syncCapture s.capturing (s.setCcu { s.ccu with enable := on }).markDirty))

/-! ### Setup (R43, R44) -/

/-- Check 1 of R43. -/
def captureQuiet (s : State) : Bool :=
  !s.capturing && (shownSlot s.ccu.slots).isNone && s.ccu.buffer.isEmpty

/-- CAMERA_SETUP at take. -/
def doCameraSetup (r : Rec) (s : State) : State :=
  if !captureQuiet s then finish resWrongState 0 s
  else if !sourceOk s.memSize r.op1.toNat 64 then finish resSourceErr 0 s
  else beginRead (burstsOf r.op1.toNat 16) s

/-- CAMERA_SETUP when its read has completed. -/
def cameraRead (ws : List Word) (s : State) : State :=
  if !captureQuiet s then finish resWrongState 0 s
  else
    match camSetupOf s.memSize s.caBase ws with
    | none => finish resBadParam 0 s
    | some c =>
      let ccu := { s.ccu with setup := some c, slots := List.replicate c.slots ⟨.free, 0⟩, lastOpened := c.slots - 1, vpd := 256, seen := 0, accepted := 0 }
      finish resDone (BitVec.ofNat 32 c.pitch) (raised (syncCapture s.capturing (s.setCcu ccu).markDirty))

/-- GAMMA_LOAD at take (R51). -/
def doGammaLoad (r : Rec) (s : State) : State :=
  if !sourceOk s.memSize r.op1.toNat 256 then finish resSourceErr 0 s else beginRead (burstsOf r.op1.toNat 64) s

/-- GAMMA_LOAD when its read has completed (R51). -/
def gammaRead (ws : List Word) (s : State) : State :=
  finish resDone 0 (s.setCcu { s.ccu with pendingGamma := some (bytesOf ws) })

/-! ### Lines -/

/-- Whether a line is in the crop window, and whether it is a reference line (R48, R49). -/
def CamSetup.cropLine (c : CamSetup) (n : Nat) : Bool := decide (c.lc ≤ n) && decide (n < c.lc + c.hc)

def CamSetup.refLine (c : CamSetup) (n : Nat) : Bool := decide (c.lr ≤ n) && decide (n < c.lr + c.nLines)

/-- The open frame after line `n` has ended with `count` samples (R47, R48, R49). The lines of a frame without a slot are counted
as any others (DEDUCED for its reference lines, log entry 44); `addMark` keeps it without a mark. -/
def OpenFrame.lineEnd (c : CamSetup) (n count : Nat) (f : OpenFrame) : OpenFrame :=
  let f := if c.refLine n then
      (if count < c.pc + c.nSamples then { f with refBad := true } else { f with refLines := f.refLines + 1 })
    else f
  if c.cropLine n then
    (if count < c.pc + c.wc then f.addMark .short else { f with cropLines := f.cropLines + 1 })
  else f

/-- The line in progress ends (R40, R41, R48). -/
def endLine (s : State) : State :=
  let y := s.ccu.sync
  if y.inLine then
    let frame := match s.ccu.setup with
      | none => s.ccu.frame
      | some c => if s.capturing then s.ccu.frame.map (OpenFrame.lineEnd c (y.lines - 1) y.samples) else s.ccu.frame
    s.setCcu { s.ccu with frame := frame, sync := { y with inLine := false } }
  else s

/-- Camera pixel clocks pass. -/
def Sync.advance (n : Nat) (y : Sync) : Sync := { y with clock := y.clock + n }

/-- frames-seen mod 65536. -/
def State.seenAux (s : State) : Word := s.ccu.seen &&& 0xFFFF

/-- An asserting HS edge (R40). -/
def doHsEdge (clocks : Nat) (s : State) : State :=
  let s := s.setCcu { s.ccu with sync := s.ccu.sync.advance clocks }
  let y := s.ccu.sync
  let early := match y.lastHs with
    | none => false
    | some t => decide (y.clock < t + 16)
  if early then raise .camGlitch 0 s.seenAux (markFrame .glitch s)
  else
    let s := endLine s
    s.setCcu { s.ccu with sync := { s.ccu.sync with lastHs := some y.clock, lines := y.lines + 1, inLine := true, samples := 0 } }

/-! ### Samples (R48, R49, R50, R53) -/

/-- The corrected Y byte (R50). -/
def correctLuma (gamma : List Byte) (pedestal targetBlack : Nat) (y : Byte) : Byte :=
  gamma.getD (clampInt 0 255 ((y.toNat : Int) - pedestal + targetBlack)).toNat 0

/-- A crop byte enters the capture buffer, or overruns it (R52, R53). -/
def pushCropByte (slot addr : Nat) (b : Byte) (s : State) : State :=
  match s.ccu.frame with
  | none => s
  | some f =>
    if f.overran then s
    else if pixelCount s.ccu.buffer < Config.captureBytes then
      s.setCcu { s.ccu with buffer := s.ccu.buffer ++ [.pixel slot addr b] }
    else
      raise .camOverrun f.number (BitVec.ofNat 32 slot)
        (s.setCcu { s.ccu with frame := some { f.addMark .overrun with overran := true } })

/-- Sample `j` of line `n` of an open frame with a slot. -/
def takeSampleOf (c : CamSetup) (f : OpenFrame) (slot n j : Nat) (chroma y : Byte) (s : State) : State :=
  let s := if c.refLine n && decide (c.pc ≤ j ∧ j < c.pc + c.nSamples)
    then s.setCcu { s.ccu with frame := some { f with refSum := f.refSum + y.toNat } } else s
  if c.cropLine n && decide (c.pc ≤ j ∧ j < c.pc + c.wc) then
    let a := c.slotBase slot + (n - c.lc) * c.pitch + 2 * (j - c.pc)
    pushCropByte slot (a + 1) (correctLuma s.ccu.gamma f.pedestal c.targetBlack y) (pushCropByte slot a chroma s)
  else s

/-- A byte pair of the line in progress (R40, R48). -/
def doCameraSample (chroma y : Byte) (s : State) : State :=
  let s := s.setCcu { s.ccu with sync := s.ccu.sync.advance 2 }
  let q := s.ccu.sync
  let j := q.samples
  let beyond := match s.ccu.setup with
    | none => false
    | some c => decide (c.wl ≤ j)
  if !q.inLine || beyond then s
  else
    let s := s.setCcu { s.ccu with sync := { q with samples := j + 1 } }
    match s.ccu.setup, s.ccu.frame with
    | some c, some f =>
      match f.slot with
      | none => s
      | some i => if s.capturing then takeSampleOf c f i (q.lines - 1) j chroma y s else s
    | _, _ => s

/-! ### Closing and opening frames -/

/-- The reference mean (R49). -/
def refMean (c : CamSetup) (sum : Nat) : Nat := (sum + c.nLines * c.nSamples / 2) / (c.nLines * c.nSamples)

/-- vpd after a mean (R49). -/
def vpdAfter (vpd m : Nat) : Nat := (clampInt 0 4080 ((vpd : Int) + ((16 * m : Int) - vpd) / 8)).toNat

/-- The reference region is complete (R49). -/
def OpenFrame.refComplete (c : CamSetup) (f : OpenFrame) : Bool := !f.refBad && decide (f.refLines = c.nLines)

/-- The 16 words of a slot's trailer (R56). -/
def trailerWords (c : CamSetup) (f : OpenFrame) (slot : Nat) (s : State) : List Word :=
  let done := f.refComplete c
  [f.number, BitVec.ofNat 32 slot, pack [(c.wc, 0), (c.hc, 16)], BitVec.ofNat 32 c.pitch, BitVec.ofNat 32 f.pedestal,
    pack [(if done then refMean c f.refSum else 0, 0), (ofBool done, 31)], BitVec.ofNat 32 s.ccu.vpd, s.time,
    pack [(ofBool s.ccu.present, 0)]] ++ List.replicate 7 0

/-- The code of an invalid close (R54). -/
def badReason : Option Mark → Word
  | none => 1
  | some .short => 2
  | some .glitch => 3
  | some .overrun => 4

/-- The frame is valid (R54). -/
def OpenFrame.valid (c : CamSetup) (f : OpenFrame) : Bool := decide (f.cropLines = c.hc) && f.mark.isNone

/-- The open frame is closed (R54, R49, R56). -/
def closeFrame (c : CamSetup) (s : State) : State :=
  match s.ccu.frame with
  | none => s
  | some f =>
    match f.slot with
    | none => s.setCcu { s.ccu with frame := none }
    | some i =>
      let s := (s.setCcu { s.ccu with frame := none }).markDirty
      if f.valid c then
        let vpd := if f.refComplete c then vpdAfter s.ccu.vpd (refMean c f.refSum) else s.ccu.vpd
        let s := s.setCcu { s.ccu with vpd := vpd, slots := setSlotState s.ccu.slots i .closing }
        s.setCcu { s.ccu with buffer := s.ccu.buffer ++ [.trailer i (trailerWords c f i s) false] }
      else
        raise .camBad (badReason f.mark) (f.number &&& 0xFFFF)
          (s.setCcu { s.ccu with slots := setSlotState s.ccu.slots i .free, buffer := discardPixels i s.ccu.buffer })

/-- How many frames ago a slot's frame was opened (R55: the oldest was opened earliest). -/
def slotAge (seen : Word) (x : Slot) : Nat := (seen - x.frame).toNat

/-- The READY slot that `better` prefers, as index and age. -/
def pickReady (better : Nat → Nat → Bool) (seen : Word) (slots : List Slot) : Option Nat :=
  ((List.range slots.length).foldl (fun best i =>
      let x := slotAt slots i
      if x.st = .ready then
        match best with
        | none => some (i, slotAge seen x)
        | some (j, age) => if better (slotAge seen x) age then some (i, slotAge seen x) else some (j, age)
      else best) none).map Prod.fst

/-- The slot a frame is opened into: the first FREE one in ring order after the last opened, else the oldest READY one (R55). -/
def chooseSlot (c : Ccu) : Option Nat :=
  let n := c.slots.length
  match ((List.range n).map fun k => (c.lastOpened + 1 + k) % n).find? fun i => decide ((slotAt c.slots i).st = .free) with
  | some i => some i
  | none => pickReady (fun a b => decide (b < a)) c.seen c.slots

/-- The pedestal fixed at a frame's open (R50). -/
def pedestalOf (c : CamSetup) (vpd : Nat) : Nat :=
  match c.mode with
  | .none => 0
  | .fixed => c.fixedPedestal
  | .tracking => (vpd + 8) / 16

/-- The next frame is opened (R55). -/
def openFrame (c : CamSetup) (s : State) : State :=
  let number := s.ccu.seen + 1
  let s := (s.setCcu { s.ccu with seen := number, gamma := s.ccu.pendingGamma.getD s.ccu.gamma, pendingGamma := none }).markDirty
  let frame := fun slot => (⟨slot, number, none, 0, 0, 0, false, pedestalOf c s.ccu.vpd, false⟩ : OpenFrame)
  match chooseSlot s.ccu with
  | none => raise .camDropped number 0 (s.setCcu { s.ccu with frame := some (frame none) })
  | some i =>
    s.setCcu { s.ccu with frame := some (frame (some i)), slots := s.ccu.slots.set i ⟨.writing, number⟩, lastOpened := i }

/-- The accepted VS restarts the presence timer (R42). -/
def cameraSeen (s : State) : State :=
  let was := s.ccu.present
  let s := s.setCcu { s.ccu with present := true, presenceTimer := some Config.presenceMs }
  if was then s else raise .camPresence 1 0 s

/-- An asserting VS edge (R41, R42, R54, R55). -/
def doVsEdge (clocks : Nat) (s : State) : State :=
  let s := s.setCcu { s.ccu with sync := s.ccu.sync.advance clocks }
  if s.ccu.sync.vsSeen && decide (s.ccu.sync.lines < 16) then raise .camGlitch 1 s.seenAux (markFrame .glitch s)
  else
    let s := cameraSeen (endLine s)
    let s := s.setCcu { s.ccu with sync := { s.ccu.sync with vsSeen := true, lines := 0, inLine := false, samples := 0 } }
    match s.ccu.setup with
    | none => s
    | some c => if s.capturing then openFrame c (closeFrame c s) else s

/-- The presence timer expires, where it is due (R42). -/
def presenceExpiry (s : State) : State :=
  if s.ccu.presenceTimer = some 0 then
    raise .camPresence 0 0 (s.setCcu { s.ccu with present := false, presenceTimer := none })
  else s

/-! ### Bursts of CAPT that have been written -/

/-- A slot's trailer is in memory: the slot becomes READY (R56). -/
def trailerOver (s : State) : State :=
  match s.burst, s.ccu.buffer with
  | some (.trailer true ws), .trailer slot _ _ :: rest =>
    let s := markEnded { s with mem := writeWords s.mem s.burstAddr ws }
    (s.setCcu { s.ccu with buffer := rest, slots := setSlotState s.ccu.slots slot .ready, accepted := s.ccu.accepted + 1 }).markDirty
  | _, _ => s

/-- The first half of a trailer is in memory (R52). -/
def trailerHalfOver (s : State) : State :=
  match s.burst, s.ccu.buffer with
  | some (.trailer false ws), .trailer slot all _ :: rest =>
    let s := markEnded { s with mem := writeWords s.mem s.burstAddr ws }
    s.setCcu { s.ccu with buffer := .trailer slot all true :: rest }
  | _, _ => s

/-- A burst of pixel bytes is in memory (R52). -/
def pixelsOver (s : State) : State :=
  match s.burst with
  | some (.pixels cells) => markEnded { s with mem := writeCells s.mem cells }
  | _ => s

end Sys2Proof.Machine
end

