-- ==== Sys2Proof/Machine/Chime.lean ====
section
/-! DEFINITION. The Chime Unit (06_chimes.md): the queue, voice Q, synthesis, voice P. -/

namespace Sys2Proof.Machine

/-! ### The table and the queue -/

/-- The definition of an id, if it is defined (R101). -/
def State.chimeDef (s : State) (id : Nat) : Option ChimeDef := s.chu.defs.getD id none

/-- The priority of an id (R104). -/
def State.chimePriority (s : State) (id : Nat) : Nat := ((s.chimeDef id).map ChimeDef.priority).getD 0

/-- An entry put into queue order: behind every entry of its priority or higher (R104). -/
def insertEntry (prio : Nat → Nat) (e : ChimeEntry) : List ChimeEntry → List ChimeEntry
  | [] => [e]
  | x :: xs => if prio e.id ≤ prio x.id then x :: insertEntry prio e xs else e :: x :: xs

/-- An entry put ahead of every entry of its priority (R107). -/
def reinsertEntry (prio : Nat → Nat) (e : ChimeEntry) : List ChimeEntry → List ChimeEntry
  | [] => [e]
  | x :: xs => if prio e.id < prio x.id then x :: reinsertEntry prio e xs else e :: x :: xs

def State.setQueue (q : List ChimeEntry) (s : State) : State := { s with chu := { s.chu with queue := q } }.markDirty

/-! ### Voice Q -/

/-- Note `k` of a definition. -/
def ChimeDef.noteAt (d : ChimeDef) (k : Nat) : Note := d.notes.getD k ⟨0, 0, 0, 0, 0, false⟩

/-- The note voice Q is at. -/
def State.noteOnVoice (s : State) : Note :=
  match s.chimeDef s.chu.q.id with
  | some d => d.noteAt s.chu.q.note
  | none => ⟨0, 0, 0, 0, 0, false⟩

/-- Voice Q at the first sample of note `k` (R108). -/
def VoiceQ.startNote (d : ChimeDef) (k : Nat) (v : VoiceQ) : VoiceQ :=
  { v with note := k, inGap := false, n := 0, total := Config.samplesPerMs * (d.noteAt k).dur, phase := 0 }

/-- Voice Q with nothing on it. The envelope of the last sample made stays until the next sample (R111). -/
def VoiceQ.cleared (v : VoiceQ) : VoiceQ := { Reset.voiceQ with env := v.env }

/-- A chime starts on voice Q from its first note (R108). -/
def startChime (e : ChimeEntry) (s : State) : State :=
  let d := (s.chimeDef e.id).getD ⟨0, false, false, 0, 0, []⟩
  { s with chu := { s.chu with
      q := VoiceQ.startNote d 0 { s.chu.q.cleared with st := .playing, id := e.id, engage := e.engage } } }.markDirty

/-- Voice Q becomes IDLE, and the head of a queue that is not empty starts at once (R109). -/
def voiceQIdle (s : State) : State :=
  let s := { s with chu := { s.chu with q := s.chu.q.cleared } }.markDirty
  match s.chu.queue with
  | [] => s
  | e :: rest => startChime e (s.setQueue rest)

/-- The chime on voice Q finishes (R109). -/
def finishChime (s : State) : State :=
  let v := s.chu.q
  let notify := ((s.chimeDef v.id).map ChimeDef.notify).getD false
  voiceQIdle (raiseIf notify .chimeDone (BitVec.ofNat 32 v.id) (BitVec.ofNat 32 (ofBool v.engage)) s)

/-- The samples of the part in progress have run out. -/
def VoiceQ.partOver (v : VoiceQ) : Bool := decide (v.total ≤ v.n)

/-- The last note of the final sequence has run out (R108, R109). -/
def lastNoteOver (s : State) : Bool :=
  let v := s.chu.q
  decide (v.st = .playing) && !v.inGap && v.partOver &&
    match s.chimeDef v.id with
    | none => true
    | some d => decide (d.notes.length ≤ v.note + 1) && decide (d.repeats ≠ 0 ∧ d.repeats ≤ v.played + 1)

def State.setVoiceQ (v : VoiceQ) (s : State) : State := { s with chu := { s.chu with q := v } }

/-- CHIME_FINISH: the last sample of a chime has ended (R109). -/
def chimeFinish (s : State) : State := if lastNoteOver s then finishChime s else s

/-- A note of voice Q has run out: the next note, a gap, the sequence again, or the finish (R108). -/
def noteOver (s : State) : State :=
  let v := s.chu.q
  if v.st = .playing ∧ v.inGap = false ∧ v.partOver = true then
    if lastNoteOver s then finishChime s
    else
      match s.chimeDef v.id with
      | none => s
      | some d =>
        if v.note + 1 < d.notes.length then s.setVoiceQ (v.startNote d (v.note + 1))
        else
          let v := { v with played := v.played + 1 }
          if d.gap = 0 then s.setVoiceQ (v.startNote d 0)
          else s.setVoiceQ { v with inGap := true, n := 0, total := Config.samplesPerMs * d.gap }
  else s

/-- A gap between sequences has run out (R108). -/
def gapOver (s : State) : State :=
  let v := s.chu.q
  if v.st = .playing ∧ v.inGap = true ∧ v.partOver = true then
    match s.chimeDef v.id with
    | none => s
    | some d => s.setVoiceQ (v.startNote d 0)
  else s

/-- The last sample of a cancel release has been made (R111). -/
def releaseOver (s : State) : State :=
  if s.chu.q.st = .releasing ∧ s.chu.q.partOver = true then voiceQIdle s else s

/-! ### Requests to play (R105 to R107) -/

/-- CHIME_DROPPED of an id for a reason (R106, R107, R76). -/
def droppedRaise (id : Nat) (reason : Word) : Raise := ⟨.chimeDropped, BitVec.ofNat 32 id, reason⟩

/-- The chime on voice Q gives way to a higher one (R107). -/
def displace (s : State) : WithRaises :=
  let v := s.chu.q
  let drop := ((s.chimeDef v.id).map ChimeDef.drop).getD false
  if v.st ≠ .playing then (s, [])
  else if drop then (s, [droppedRaise v.id 2])
  else
    let q := reinsertEntry s.chimePriority ⟨v.id, v.engage⟩ s.chu.queue
    if q.length ≤ 16 then (s.setQueue q, [])
    else (s.setQueue q.dropLast, [droppedRaise ((q.getLast?.map ChimeEntry.id).getD 0) 3])

/-- A request that finds the queue full (R106). -/
def requestFull (e : ChimeEntry) (s : State) : WithRaises × Word :=
  match s.chu.queue.getLast? with
  | none => ((s, []), resFull)
  | some last =>
    if s.chimePriority last.id < s.chimePriority e.id then
      ((s.setQueue (insertEntry s.chimePriority e s.chu.queue.dropLast), [droppedRaise last.id 1]), resDone)
    else ((s, []), resFull)

/-- The steps of R105, with the result CHIME_PLAY completes with. -/
def requestChime (e : ChimeEntry) (restart : Bool) (s : State) : WithRaises × Word :=
  let v := s.chu.q
  let onVoice := decide (v.st ≠ .idle ∧ v.id = e.id)
  if 31 < e.id ∨ (s.chimeDef e.id).isNone = true then ((s, []), resBadParam)
  else if (s.chu.queue.any fun x => decide (x.id = e.id)) = true then ((s, []), resMerged)
  else if onVoice = true ∧ v.st = .playing ∧ restart = false then ((s, []), resMerged)
  else if onVoice = true then ((startChime e s, []), resDone)
  else if v.st = .idle then ((startChime e s, []), resDone)
  else if s.chimePriority v.id < s.chimePriority e.id then
    let d := displace s
    ((startChime e d.1, d.2), resDone)
  else if s.chu.queue.length < 16 then ((s.setQueue (insertEntry s.chimePriority e s.chu.queue), []), resDone)
  else requestFull e s

/-- The Reverse Controller's engage request (R76, R105). -/
def requestEngage (id : Nat) (s : State) : WithRaises :=
  let r := requestChime ⟨id, true⟩ false s
  if r.2 = resBadParam ∨ r.2 = resFull then (r.1.1, [droppedRaise id 4]) else r.1

/-- CHIME_PLAY (R105). -/
def doChimePlay (r : Rec) (s : State) : State :=
  let out := requestChime ⟨r.op1.toNat, false⟩ (flag r.op2 0) s
  finish out.2 (BitVec.ofNat 32 out.1.1.chu.queue.length) (raised out.1)

/-- The value held at a release: the envelope of the last sample made, free where that sample has none (log entry 13). -/
def heldEnvelope (env : Option Nat) (s : State) : Nat × State :=
  match env with
  | some e => (e, s)
  | none => ((Config.heldEnvelope s.free).val, { s with free := s.free + 1 })

/-- The chime on voice Q is cancelled (R110, R111). -/
def cancelVoiceQ (s : State) : State :=
  let v := s.chu.q
  let note := s.noteOnVoice
  if v.inGap = true ∨ note.freq = 0 ∨ note.release = 0 then voiceQIdle s
  else
    let h := heldEnvelope v.env s
    (h.2.setVoiceQ { v with st := .releasing, n := 0, total := Config.samplesPerMs * note.release, held := h.1 }).markDirty

/-- CHIME_CANCEL (R110): an id from 0 to 31, or 256 for ALL. -/
def doChimeCancel (r : Rec) (s : State) : State :=
  let v := r.op1.toNat
  if 31 < v ∧ v ≠ 256 then finish resBadParam 0 s
  else
    let hit := fun id : Nat => decide (v = 256 ∨ v = id)
    let kept := s.chu.queue.filter fun e => !hit e.id
    let removed := s.chu.queue.length - kept.length
    let s := if removed = 0 then s else s.setQueue kept
    let s := if s.chu.q.st = .playing ∧ hit s.chu.q.id = true then cancelVoiceQ s else s
    finish resDone (BitVec.ofNat 32 removed) s

/-- CHIME_TABLE at take (R102). -/
def chimesQuiet (s : State) : Bool := decide (s.chu.q.st = .idle) && s.chu.queue.isEmpty

def doChimeTable (r : Rec) (s : State) : State :=
  if !chimesQuiet s then finish resBusy 0 s
  else if !sourceOk s.memSize r.op1.toNat 3136 then finish resSourceErr 0 s
  else beginRead (burstsOf r.op1.toNat 784) s

/-- CHIME_TABLE when its read has completed (R102, R103). -/
def chimeTableRead (ws : List Word) (s : State) : State :=
  if !chimesQuiet s then finish resBusy 0 s
  else
    let slots := chimeSlotsOf ws
    match slots.findIdx? Option.isNone with
    | some i => finish resBadParam (BitVec.ofNat 32 i) s
    | none =>
      let defs := slots.map fun x => x.getD none
      let s := { s with chu := { s.chu with master := byteAt ws 0, wave := waveOf ws, defs := defs } }.markDirty
      finish resDone (BitVec.ofNat 32 (defs.countP Option.isSome)) s

/-- SOFT_RESTART's effect on the chimes (R120). -/
def stopChimes (s : State) : State := { s with chu := { s.chu with queue := [], q := s.chu.q.cleared } }.markDirty

/-! ### Synthesis (R112 to R114) -/

/-- The phase increment of a frequency (R112). -/
def phaseStep (f : Nat) : Word := BitVec.ofNat 32 ((f * 2 ^ 33 + 48000) / 96000)

/-- The wave value at a phase (R112). -/
def waveValue (c : Chu) (square : Bool) (phase : Word) : Int :=
  if square then (if phase.toNat < 2 ^ 31 then 24576 else -24576) else (c.wave.getD (phase.toNat / 2 ^ 24) 0).toInt

/-- A slope of the envelope over `ms` milliseconds (R113). -/
def slope (count ms : Nat) : Nat := if ms = 0 then 256 else count * 256 / (ms * Config.samplesPerMs)

/-- The envelope of a note or beep at sample `n` of `total` (R113). -/
def noteEnvelope (n total attack release : Nat) : Nat := min 256 (min (slope n attack) (slope (total - 1 - n) release))

/-- A voice sample (R114). -/
def voiceSample (w : Int) (level env : Nat) : Int := w * level * env / 65536

/-- The line sample of two voice samples (R114). -/
def mixSample (q p : Int) (master : Nat) : Int := clampInt (-32768) 32767 ((q + p) * master / 256)

/-- Voice Q's sample, and voice Q after it (R108, R111 to R114). -/
def sampleQ (s : State) : Int × VoiceQ :=
  let v := s.chu.q
  let note := s.noteOnVoice
  match v.st with
  | .idle => (0, { v with env := none })
  | .playing =>
    if v.inGap = true ∨ note.freq = 0 then (0, { v with n := v.n + 1, env := none })
    else
      let env := noteEnvelope v.n v.total note.attack note.release
      (voiceSample (waveValue s.chu note.square v.phase) note.level env,
        { v with n := v.n + 1, phase := v.phase + phaseStep note.freq, env := some env })
  | .releasing =>
    let env := min v.held (slope (v.total - 1 - v.n) note.release)
    (voiceSample (waveValue s.chu note.square v.phase) note.level env,
      { v with n := v.n + 1, phase := v.phase + phaseStep note.freq, env := some env })

/-- Voice P's sample, and voice P after it (R119). -/
def sampleP (s : State) : Int × VoiceP :=
  let v := s.chu.p
  let x := s.chu.prox
  let sound := fun (env : Nat) (keep : Option Nat) =>
    (voiceSample (waveValue s.chu x.square v.phase) x.level env,
      ({ v with n := v.n + 1, phase := v.phase + phaseStep x.freq, env := keep } : VoiceP))
  match v.st with
  | .off | .quiet => (0, v)
  | .gap => (0, { v with n := v.n + 1 })
  | .beep => sound (noteEnvelope v.n v.total 5 5) none
  | .tone =>
    let env := min 256 (slope v.n 5)
    sound env (some env)
  | .release => sound (min v.held (slope (v.total - 1 - v.n) 5)) none

/-! ### Voice P (R117, R118) -/

/-- The zone of the obstacle distance (R117). -/
def State.zone (s : State) : Nat :=
  let d := s.gde.obstacle.dist
  let x := s.chu.prox
  if d ≤ x.stop then 0 else if d ≤ x.d1 then 1 else if d ≤ x.d2 then 2 else if d ≤ x.d3 then 3 else if d ≤ x.d4 then 4 else 5

/-- Voice P is active (R117). -/
def State.voicePActive (s : State) : Bool := s.voicePEnabled && s.gde.obstacle.usable && s.chu.prox.enable

/-- The gap of a zone from 1 to 4 (R117). -/
def Proximity.gapOf (x : Proximity) : Nat → Nat
  | 1 => x.g1
  | 2 => x.g2
  | 3 => x.g3
  | _ => x.g4

def VoiceP.startTone (v : VoiceP) : VoiceP := { v with st := .tone, n := 0, total := 0, phase := 0, env := none }

def VoiceP.startBeep (x : Proximity) (v : VoiceP) : VoiceP :=
  { v with st := .beep, n := 0, total := Config.samplesPerMs * x.beep, phase := 0, env := none }

/-- A gap of 0 ms ends at once (R118). -/
def VoiceP.startGap (x : Proximity) (zone : Nat) (v : VoiceP) : VoiceP :=
  if x.gapOf zone = 0 then v.startBeep x
  else { v with st := .gap, n := 0, total := Config.samplesPerMs * x.gapOf zone, env := none }

/-- The state voice P enters from OFF or QUIET, by zone (R118). -/
def VoiceP.enter (x : Proximity) (zone : Nat) (v : VoiceP) : VoiceP :=
  if zone = 0 then v.startTone else if zone = 5 then { v with st := .quiet, n := 0, total := 0, env := none } else v.startBeep x

/-- Voice P replaced; a change of its state sets status-dirty (R118). -/
def State.setVoiceP (v : VoiceP) (s : State) : State :=
  ({ s with chu := { s.chu with p := v } }).dirtyIf (decide (v.st ≠ s.chu.p.st))

/-- A zone change of an active voice P (R118). -/
def zoneChange (s : State) : State :=
  let v := s.chu.p
  let z := s.zone
  match v.st with
  | .off | .release => s
  | .beep => if z = 0 then s.setVoiceP { v with st := .tone, env := none } else s
  | .gap => if z = 0 then s.setVoiceP v.startTone else s
  | .tone =>
    let h := heldEnvelope v.env s
    h.2.setVoiceP { v with st := .release, n := 0, total := 240, held := h.1 }
  | .quiet => s.setVoiceP (v.enter s.chu.prox z)

/-- Voice P after a step that may have changed its three conditions or the zone, which was `zoneBefore` (R117, R118). -/
def syncVoiceP (zoneBefore : Nat) (s : State) : State :=
  if !s.voicePActive then s.setVoiceP (if s.chu.p.st = .off then s.chu.p else Reset.voiceP)
  else if s.chu.p.st = .off then s.setVoiceP (s.chu.p.enter s.chu.prox s.zone)
  else if s.zone = zoneBefore then s
  else zoneChange s

/-- A beep has run out (R118). The state changes at each end of a beep: a gap of 0 ms is entered and left at once. -/
def beepOver (s : State) : State :=
  let v := s.chu.p
  if v.st = .beep ∧ v.total ≤ v.n then
    (s.setVoiceP (if s.zone = 0 ∨ s.zone = 5 then v.enter s.chu.prox s.zone else v.startGap s.chu.prox s.zone)).markDirty
  else s

/-- A gap between beeps has run out (R118). -/
def proximityGapOver (s : State) : State :=
  let v := s.chu.p
  if v.st = .gap ∧ v.total ≤ v.n then s.setVoiceP (v.enter s.chu.prox s.zone) else s

/-- The release of the tone has run out (R118). -/
def toneReleaseOver (s : State) : State :=
  let v := s.chu.p
  if v.st = .release ∧ v.total ≤ v.n then
    s.setVoiceP (if s.zone = 0 ∨ s.zone = 5 then v.enter s.chu.prox s.zone else v.startGap s.chu.prox s.zone)
  else s

/-- PROXIMITY_SETUP (R116). -/
def doProximitySetup (r : Rec) (s : State) : State :=
  if !sourceOk s.memSize r.op1.toNat 64 then finish resSourceErr 0 s else beginRead (burstsOf r.op1.toNat 16) s

/-- PROXIMITY_SETUP when its read has completed (R116, R117). -/
def proximityRead (ws : List Word) (s : State) : State :=
  match proximityOf ws with
  | none => finish resBadParam 0 s
  | some x => finish resDone 0 (syncVoiceP s.zone ({ s with chu := { s.chu with prox := x } }.markDirty))

/-- The ends of voice parts that have come due (log entry 10). -/
def voiceEnds (s : State) : State := toneReleaseOver (proximityGapOver (beepOver (releaseOver (gapOver (noteOver s)))))

/-- One audio sample (R112 to R115). -/
def doLineSample (s : State) : State :=
  let s := voiceEnds s
  let q := sampleQ s
  let p := sampleP s
  { s with chu := { s.chu with q := q.2, p := p.2, line := mixSample q.1 p.1 s.chu.master, lineBefore := s.chu.line } }

end Sys2Proof.Machine
end

