-- ==== Sys2Proof/Machine/GuideMath.lean ====
section
/-! DEFINITION. The guide-line computation (R90 to R98): exact integer arithmetic, div by a positive divisor rounding down. -/

namespace Sys2Proof.Machine

/-- T[i] = round(65536 x tan(i x 0.5 degrees)), i from 0 to 90 (R90). -/
def tangents : List Nat :=
  [0, 572, 1144, 1716, 2289, 2861, 3435, 4008, 4583, 5158, 5734, 6310, 6888, 7467, 8047, 8628, 9210, 9794, 10380, 10967] ++
  [11556, 12146, 12739, 13333, 13930, 14529, 15130, 15734, 16340, 16949, 17560, 18175, 18792, 19413, 20036, 20663] ++
  [21294, 21928, 22566, 23208, 23853, 24503, 25157, 25815, 26478, 27146, 27818, 28496, 29179, 29866, 30560, 31259] ++
  [31964, 32675, 33392, 34116, 34846, 35583, 36327, 37078, 37837, 38604, 39378, 40161, 40951, 41751, 42560, 43377] ++
  [44205, 45042, 45889, 46746, 47615, 48494, 49385, 50288, 51202, 52130, 53070, 54024, 54991, 55973, 56970, 57981] ++
  [59009, 60053, 61113, 62191, 63287, 64402, 65536]

/-- The tangent of an angle magnitude in hundredths of a degree, 0 to 4500 (R90). -/
def tangentOf (a : Nat) : Nat :=
  let i := a / 50
  let f := a % 50
  let t := tangents.getD i 0
  t + ((tangents.getD (i + 1) t - t) * f + 25) / 50

/-- The turning radius of a curved path, none for a straight one (R90, R91). -/
def radiusOf (wheelbase : Nat) (angle : Int) (steerOk : Bool) : Option Int :=
  let a := angle.natAbs
  if a < 10 ∨ steerOk = false then none
  else
    let t := tangentOf a
    let r : Int := ((2 * wheelbase * 65536 + t) / (2 * t) : Nat)
    some (if angle < 0 then -r else r)

/-- Bits `k - 1` down to 0 of the integer square root. -/
def isqrtFrom (n : Nat) : Nat → Nat → Nat
  | 0, r => r
  | k + 1, r => isqrtFrom n k (if (r + 2 ^ k) * (r + 2 ^ k) ≤ n then r + 2 ^ k else r)

/-- floor of the square root, for numbers below 2^64. -/
def isqrt (n : Nat) : Nat := isqrtFrom n 32 0

/-- The square root rounded to nearest (R92 step 3). -/
def roundSqrt (q : Nat) : Nat :=
  let r := isqrt q
  if q - r * r > r then r + 1 else r

/-- X of the line of lateral offset `e` at distance `y` behind the rear axle; none where the line does not reach (R92). -/
def lineX (path : Option Int) (e y : Int) : Option Int :=
  match path with
  | none => some e
  | some r =>
    let rho := r - e
    let q := rho * rho - y * y
    if q < 0 then none
    else
      let m : Int := roundSqrt q.toNat
      some (if r < 0 then r + m else r - m)

/-- A ground point projected to the display; none behind the camera (R93). -/
def projectPoint (c : CalibRec) (x yb : Int) : Option (Int × Int) :=
  let un := c.h11 * x + c.h12 * yb + c.h13
  let vn := c.h21 * x + c.h22 * yb + c.h23
  let den := c.h31 * x + c.h32 * yb + c.h33
  if den ≤ 0 then none
  else
    some (clampInt (-32768) 32767 ((2 * un + den) / (2 * den)), clampInt (-32768) 32767 ((2 * vn + den) / (2 * den)))

/-- A segment joins two projected points (R94). -/
structure Segment where
  p : Int × Int
  q : Int × Int
  colour : Word
  width : Nat
deriving DecidableEq, Repr

/-- A segment where both its ends were kept. -/
def joinPoints (p q : Option (Int × Int)) (colour : Word) (width : Nat) : List Segment :=
  match p, q with
  | some a, some b => [⟨a, b, colour, width⟩]
  | _, _ => []

/-- The point of the line of offset `e` at `yb` behind the bumper, on the captured path, projected. -/
def pathPoint (g : GuideSetup) (path : Option Int) (e yb : Int) : Option (Int × Int) :=
  (lineX path e (g.vehicle.overhang + yb)).bind fun x => projectPoint g.calib x yb

/-- A static line (R94 group 1). -/
def staticLine (g : GuideSetup) (e : Int) : List Segment :=
  joinPoints (projectPoint g.calib e 0) (projectPoint g.calib e g.style.lmax) g.style.static g.style.width

/-- The colour of the dynamic segment whose nearer end is at `yb` (R94 group 2). -/
def dynamicColour (st : StyleRec) (yb : Nat) : Word :=
  if st.d1 = 0 ∨ yb < st.d1 then st.near else if st.d2 = 0 ∨ yb < st.d2 then st.mid else st.far

/-- A dynamic line (R94 group 2). -/
def dynamicLine (g : GuideSetup) (path : Option Int) (e : Int) : List Segment :=
  let st := g.style
  let pt := fun k : Nat => pathPoint g path e ((k * st.delta : Nat) : Int)
  (List.range (st.lmax / st.delta)).flatMap fun k => joinPoints (pt k) (pt (k + 1)) (dynamicColour st (k * st.delta)) st.width

/-- A cross piece at distance `d` behind the bumper (R95). -/
def crossPiece (g : GuideSetup) (path : Option Int) (steerOk : Bool) (d : Nat) (colour : Word) (width : Nat) : List Segment :=
  let v := g.vehicle
  if steerOk then
    joinPoints (pathPoint g path (-(v.half : Int)) d) (pathPoint g path v.half d) colour width
  else
    joinPoints (projectPoint g.calib (-(v.staticHalf : Int)) d) (projectPoint g.calib v.staticHalf d) colour width

/-- The segments of a drawing in draw order (R94, R95). -/
def segmentsOf (c : Captured) (g : GuideSetup) : List Segment :=
  let v := g.vehicle
  let st := g.style
  let path := radiusOf v.wheelbase c.angle c.steerOk
  staticLine g (-(v.staticHalf : Int)) ++ staticLine g v.staticHalf ++
    (if c.steerOk then dynamicLine g path (-(v.half : Int)) ++ dynamicLine g path v.half else []) ++
    (([st.d1, st.d2, st.d3].filter fun d => decide (d ≠ 0)).flatMap fun d => crossPiece g path c.steerOk d st.mark st.width) ++
    (if c.obstacleOk ∧ c.dist ≤ st.lmax then crossPiece g path c.steerOk c.dist st.obstacle (st.width + 2) else [])

/-- The spans of one segment in rising row order (R96). -/
def spansOf (sg : Segment) : List Span :=
  let h : Int := (sg.width / 2 : Nat)
  let a := if sg.q.2 < sg.p.2 then sg.q else sg.p
  let b := if sg.q.2 < sg.p.2 then sg.p else sg.q
  let (u0, v0) := a
  let (u1, v1) := b
  let dv := v1 - v0
  let shallow := decide (dv < ((u1 - u0).natAbs : Int))
  let copies := fun (first : Int) (sp : Span) => (List.range (sg.width / 2)).map fun i => { sp with row := first + i }
  if dv = 0 then
    let sp : Span := ⟨v0, min u0 u1 - h, max u0 u1 + h, sg.colour⟩
    if shallow then copies (v0 - h) sp ++ [sp] ++ copies (v0 + 1) sp else [sp]
  else
    let u := fun v : Int => u0 + ((u1 - u0) * (v - v0) * 2 + dv) / (2 * dv)
    let rowSpan := fun v : Int => (⟨v, min (u v) (u (v + 1)) - h, max (u v) (u (v + 1)) + h, sg.colour⟩ : Span)
    let body := (List.range dv.toNat).map fun i => rowSpan (v0 + i)
    let lastSp : Span := ⟨v1, u1 - h, u1 + h, sg.colour⟩
    if shallow then copies (v0 - h) (rowSpan v0) ++ body ++ [lastSp] ++ copies (v1 + 1) lastSp else body ++ [lastSp]

/-- A span clipped to the captured active area and strip (R97). -/
def clipSpan (wa ha strip : Nat) (sp : Span) : Option Span :=
  if sp.row < strip ∨ (ha : Int) ≤ sp.row ∨ sp.last < 0 ∨ (wa : Int) ≤ sp.first then none
  else some { sp with first := max 0 sp.first, last := min ((wa : Int) - 1) sp.last }

/-- The spans of a row, in the order they were filed. -/
def rowSpans (bank : List Span) (r : Int) : List Span := bank.filter fun sp => decide (sp.row = r)

/-- A drawing so far: the bank, the spans dropped for lack of room, the lowest row on which one was (R98). -/
structure Drawing where
  bank : List Span
  dropped : Nat
  lowest : Int
deriving DecidableEq, Repr

/-- A span filed on its row, or dropped as its ninth (R98). -/
def fileSpan (d : Drawing) (sp : Span) : Drawing :=
  if (rowSpans d.bank sp.row).length < 8 then { d with bank := d.bank ++ [sp] }
  else { d with dropped := d.dropped + 1, lowest := if d.dropped = 0 then sp.row else min d.lowest sp.row }

/-- Every clipped span of a drawing, in the order produced (R96, R97). -/
def clippedSpans (c : Captured) (g : GuideSetup) (wa ha : Nat) : List Span :=
  ((segmentsOf c g).flatMap spansOf).filterMap (clipSpan wa ha c.strip)

/-- The drawing of a recompute's captured inputs (R89, R98). -/
def drawCaptured (c : Captured) : Drawing :=
  match c.setup, c.area with
  | some g, some (wa, ha) => (clippedSpans c g wa ha).foldl fileSpan ⟨[], 0, 0⟩
  | _, _ => ⟨[], 0, 0⟩

end Sys2Proof.Machine
end

