-- ==== Sys2Proof/Machine/Guide.lean ====
section
/-! DEFINITION. The Guide Engine (05_guide_lines.md): inputs and their staleness, setups, recompute control, banks. -/

namespace Sys2Proof.Machine

/-- The stale limit in force (R81). -/
def State.staleLimit (s : State) : Nat := (s.gde.setup.map fun g => g.vehicle.stale).getD Config.defaultStaleMs

/-- The hysteresis in force (R87). -/
def State.hysteresis (s : State) : Nat := (s.gde.setup.map fun g => g.vehicle.hysteresis).getD Config.defaultHysteresis

def State.setGde (g : Gde) (s : State) : State := { s with gde := g }

/-- What a recompute that starts now captures (R88). Without a timing record K stands for the strip, which nothing then reads
(DESIGN CHOICE, log entry 37). -/
def State.captureInputs (s : State) : Captured :=
  let k := s.rvc.setup.strip
  let area := s.scn.ctr.timing.map fun t => (t.wa, t.ha)
  { angle := s.gde.steering.angle, steerOk := s.gde.steering.usable, dist := s.gde.obstacle.dist,
    obstacleOk := s.gde.obstacle.usable, setup := s.gde.setup, area := area,
    strip := match area with
      | some (_, ha) => min k (ha / 2)
      | none => k }

/-- The idle bank given new contents. -/
def Gde.setIdleBank (b : List Span) (g : Gde) : Gde := if g.shown1 then { g with bank0 := b } else { g with bank1 := b }

/-- The shown bank. -/
def Gde.shownBank (g : Gde) : List Span := if g.shown1 then g.bank1 else g.bank0

/-- A recompute starts (R88). -/
def startRecompute (s : State) : State :=
  (s.setGde { (s.gde.setIdleBank []) with captured := s.captureInputs, idle := .drawing, recompute := .running, pendingFlag := false }).markDirty

/-- A trigger (R88); a pending flag that is already set does not change (R164). -/
def trigger (s : State) : State :=
  if !s.reversing then s
  else
    match s.gde.recompute with
    | .idle =>
      if s.gde.idle = .complete then (s.setGde { s.gde with recompute := .waiting }).markDirty else startRecompute s
    | .running => (s.setGde { s.gde with pendingFlag := true }).dirtyIf (!s.gde.pendingFlag)
    | .waiting => s

def triggerIf (b : Bool) (s : State) : State := if b then trigger s else s

/-- The test of a steering take or stale expiry against the captured inputs; only a take looks at the angle (R87). -/
def steeringTrigger (take : Bool) (s : State) : Bool :=
  let i := s.gde.steering
  let c := s.gde.captured
  decide (i.usable ≠ c.steerOk) || (take && i.usable && decide (s.hysteresis ≤ (i.angle - c.angle).natAbs))

/-- The test of an obstacle take or stale expiry (R87). -/
def obstacleTrigger (take : Bool) (s : State) : Bool :=
  let i := s.gde.obstacle
  let c := s.gde.captured
  decide (i.usable ≠ c.obstacleOk) || (take && i.usable && decide (50 ≤ ((i.dist : Int) - c.dist).natAbs))

/-- A take of STEER (R79, R87). -/
def takeSteer (v : Word) (s : State) : State :=
  let before := s.gde.steering
  let now : Steering :=
    { angle := clampInt (-4500) 4500 (v.setWidth 16).toInt, valid := flag v 31, fresh := true, timer := some s.staleLimit,
      limit := s.staleLimit }
  let s := (s.setGde { s.gde with steering := now }).dirtyIf
    (decide (before.fresh ≠ now.fresh ∨ before.usable ≠ now.usable))
  triggerIf (steeringTrigger true s) s

/-- A take of OBSTACLE (R80, R87), with the Chime Unit informed (R117). -/
def takeObstacle (v : Word) (s : State) : State :=
  let before := s.gde.obstacle
  let zone := s.zone
  let now : Obstacle :=
    { dist := min 10000 (field v 0 16), valid := flag v 31, fresh := true, timer := some s.staleLimit, limit := s.staleLimit }
  let s := (s.setGde { s.gde with obstacle := now }).dirtyIf
    (decide (before.fresh ≠ now.fresh ∨ before.usable ≠ now.usable))
  syncVoiceP zone (triggerIf (obstacleTrigger true s) s)

/-- The steering stale timer expires, where it is due (R81, R87). -/
def steeringExpiry (s : State) : State :=
  let i := s.gde.steering
  if i.timer = some 0 then
    let s := (s.setGde { s.gde with steering := { i with timer := none, fresh := false } }).markDirty
    let s := raiseIf s.reversing .guideStale (BitVec.ofNat 32 i.limit) (BitVec.ofNat 32 (ofBool i.valid)) s
    triggerIf (steeringTrigger false s) s
  else s

/-- The obstacle stale timer expires, where it is due (R81, R87). -/
def obstacleExpiry (s : State) : State :=
  let i := s.gde.obstacle
  if i.timer = some 0 then
    let zone := s.zone
    let s := (s.setGde { s.gde with obstacle := { i with timer := none, fresh := false } }).markDirty
    syncVoiceP zone (triggerIf (obstacleTrigger false s) s)
  else s

/-! ### Setup -/

/-- GUIDE_SETUP at take (R82). -/
def doGuideSetup (r : Rec) (s : State) : State :=
  let ok := fun w : Word => sourceOk s.memSize w.toNat 64
  if !(ok r.op1 && ok r.op2 && ok r.op3) then finish resSourceErr 0 s
  else beginRead (burstsOf r.op1.toNat 16 ++ burstsOf r.op2.toNat 16 ++ burstsOf r.op3.toNat 16) s

/-- GUIDE_SETUP when its reads have completed (R82). -/
def guideRead (ws : List Word) (s : State) : State :=
  match guideSetupOf ws with
  | none => finish resBadParam 0 s
  | some g =>
    if s.gde.recompute = .running then finish resDone 1 (s.setGde { s.gde with pendingSetup := some g }).markDirty
    else finish resDone 0 (trigger (s.setGde { s.gde with setup := some g }).markDirty)

/-- A pending setup becomes the installed one (R82). -/
def Gde.installPending (g : Gde) : Gde :=
  match g.pendingSetup with
  | none => g
  | some p => { g with setup := some p, pendingSetup := none }

/-! ### Activity (R86) -/

/-- The engine becomes active. -/
def guideActive (s : State) : State := trigger (s.setGde { s.gde with outdated := true }).markDirty

/-- The engine becomes inactive. -/
def guideInactive (s : State) : State :=
  let idle := match s.gde.recompute, s.gde.idle with
    | .running, _ => IdleBank.clear
    | _, .complete => .clear
    | _, i => i
  (s.setGde { s.gde.installPending with idle := idle, recompute := .idle, pendingFlag := false }).markDirty

/-- The engine follows the activity coupling, which was `was` (R86). -/
def syncGuide (was : Bool) (s : State) : State :=
  if s.reversing && !was then guideActive s else if !s.reversing && was then guideInactive s else s

/-! ### Completion and the banks -/

/-- A running recompute completes (R89, R98). -/
def recomputeOver (s : State) : State :=
  if s.gde.recompute = .running then
    let d := drawCaptured s.gde.captured
    let s := (s.setGde { (s.gde.setIdleBank d.bank) with idle := .complete }).markDirty
    let s := raiseIf (decide (d.dropped ≠ 0)) .guideOverflow (BitVec.ofNat 32 d.dropped) (BitVec.ofInt 32 d.lowest) s
    let due := s.gde.pendingFlag || s.gde.pendingSetup.isSome
    (s.setGde { s.gde.installPending with recompute := if due then .waiting else .idle, pendingFlag := false }).markDirty
  else s

/-- The swap or the emptying at a CTR frame start (R99 steps 1 and 2). -/
def swapBanks (s : State) : State :=
  if s.gde.idle = .complete then
    (s.setGde { s.gde with shown1 := !s.gde.shown1, idle := .clear, outdated := false }).markDirty
  else if s.gde.outdated then
    (s.setGde { (if s.gde.shown1 then { s.gde with bank1 := [] } else { s.gde with bank0 := [] }) with outdated := false }).markDirty
  else s

/-- The engine's work at a CTR frame start (R99). -/
def guideFrameStart (s : State) : State :=
  let s := swapBanks s
  if s.gde.recompute = .waiting then startRecompute s else s

end Sys2Proof.Machine
end

