-- ==== Sys2Proof/Machine/Compose.lean ====
section
/-! DEFINITION. Composition (R15 to R17, R73): the RGB value of each pixel of a row from what the planes show on it. -/

namespace Sys2Proof.Machine

/-- A colour as its components. -/
structure Colour where
  r : Nat
  g : Nat
  b : Nat
deriving DecidableEq, Repr

/-- A 24-bit colour: blue 7:0, green 15:8, red 23:16. -/
def colourOfRgb (c : Rgb) : Colour := ⟨c.toNat / 65536, c.toNat / 256 % 256, c.toNat % 256⟩

def Colour.toRgb (c : Colour) : Rgb := BitVec.ofNat 24 (c.r * 65536 + c.g * 256 + c.b)

/-- The colour and the alpha of an ARGB8888 word (R16). -/
def colourOfWord (w : Word) : Colour := ⟨field w 16 8, field w 8 8, field w 0 8⟩

def alphaOfWord (w : Word) : Nat := field w 24 8

/-- The blend of one component (R16). -/
def blendComponent (s d a : Nat) : Nat := (s * a + d * (255 - a) + 127) / 255

/-- The blend of R16. -/
def blend (s d : Colour) (a : Nat) : Colour := ⟨blendComponent s.r d.r a, blendComponent s.g d.g a, blendComponent s.b d.b a⟩

/-- Two alphas in turn: (a x b + 127) div 255 (R16). -/
def mulAlpha (a b : Nat) : Nat := (a * b + 127) / 255

/-- RGB565 expanded (R17). -/
def colourOf565 (h : Nat) : Colour :=
  let r := h / 2048 % 32
  let g := h / 32 % 64
  let b := h % 32
  ⟨r * 8 + r / 4, g * 4 + g / 16, b * 8 + b / 4⟩

/-- YCbCr converted (R17). -/
def colourOfYcc (y cb cr : Nat) : Colour :=
  let c : Int := (y : Int) - 16
  let d : Int := (cb : Int) - 128
  let e : Int := (cr : Int) - 128
  ⟨(clampInt 0 255 ((298 * c + 409 * e + 128) / 256)).toNat, (clampInt 0 255 ((298 * c - 100 * d - 208 * e + 128) / 256)).toNat,
    (clampInt 0 255 ((298 * c + 516 * d + 128) / 256)).toNat⟩

/-- Pixel `j` of a YCBCR422 line: the pair at byte 4m holds Cb, Y of 2m, Cr, Y of 2m + 1 (R9). -/
def yccPixel (line : List Word) (j : Nat) : Colour :=
  let b := 4 * (j / 2)
  colourOfYcc (byteAt line (b + 1 + 2 * (j % 2))) (byteAt line b) (byteAt line (b + 2))

/-- The colour and alpha of pixel `j` of a plane's line, before the blend (R16, R17). -/
def planePixel (m : Option Menu) (p : Fetch) (line : List Word) (j : Nat) : Colour × Nat :=
  match p.format with
  | .argb8888 =>
    let w := wordAt line j
    (colourOfWord w, mulAlpha (alphaOfWord w) p.alpha)
  | .rgb565 => (colourOf565 (halfAt line (2 * j)), p.alpha)
  | .ycbcr422 => (yccPixel line j, p.alpha)
  | .index8 =>
    let w := wordAt ((m.map Menu.palette).getD []) (byteAt line j)
    (colourOfWord w, mulAlpha (mulAlpha (alphaOfWord w) p.alpha) ((m.bind Menu.level).getD 0))

/-- A plane blended over the value so far at a column, where it shows something there (R13, R15). -/
def blendPlane (m : Option Menu) (col : Nat) (below : Colour) (p : Fetch) : Colour :=
  match p.shown with
  | none => below
  | some line =>
    let j := (col - p.x) / p.scale
    if p.x ≤ col ∧ j < p.pixels then
      let q := planePixel m p line j
      blend q.1 below q.2
    else below

/-- The clipped camera rectangle covers the column and row (R74). -/
def Layout.inRect (l : Layout) (c : CamSetup) (col row : Nat) : Bool :=
  decide (l.x ≤ col) && decide (col < l.x + l.scale * c.wc) && decide (l.y ≤ row) && decide (row < l.y + l.scale * c.hc)

/-- The guide spans of a row over the value below: the latest span that covers the column (R73). -/
def blendGuides (spans : List Span) (col : Nat) (below : Colour) : Colour :=
  match (spans.filter fun sp => decide (sp.first ≤ (col : Int)) && decide ((col : Int) ≤ sp.last)).getLast? with
  | none => below
  | some sp => blend (colourOfWord sp.colour) below (alphaOfWord sp.colour)

/-- A pixel below the strip under the reverse layout (R73); `spans` are the shown bank's on this row. In mode UNAVAILABLE with no
camera setup there is no rectangle, and the reverse fill shows (DESIGN CHOICE, log entry 35). -/
def reversePixel (l : Layout) (setup : Option CamSetup) (planes : List Fetch) (spans : List Span) (col row : Nat) : Colour :=
  let fill := colourOfRgb l.fill
  match l.mode with
  | .camera => blendGuides spans col ((planes.filter fun p => decide (p.plane = .camera)).foldl (blendPlane none col) fill)
  | .fill => blendGuides spans col fill
  | .unavailable => if (setup.map fun c => l.inRect c col row).getD false then colourOfRgb l.unavailable else fill

/-- The pixels of a row of an output (R15, R73). The camera setup that gives the rectangle its size in mode UNAVAILABLE is read
at each line start (DESIGN CHOICE, log entry 36). -/
def composeRow (s : State) (o : Output) (row : Nat) : List Rgb :=
  let sc := s.scan o
  let wa := (sc.timing.map Timing.wa).getD 0
  let menu := (outputRear o).map s.menu.get
  let fill := colourOfRgb sc.inUse.fill
  let normal := fun col => sc.fetch.foldl (blendPlane menu col) fill
  let layout := if o = .ctr then s.layout else none
  match layout with
  | none => (List.range wa).map fun col => (normal col).toRgb
  | some l =>
    if row < l.strip then
      (List.range wa).map fun col => ((sc.fetch.filter fun p => decide (p.plane ≠ .camera)).foldl (blendPlane menu col) fill).toRgb
    else
      let spans := rowSpans s.gde.shownBank row
      (List.range wa).map fun col => (reversePixel l s.ccu.setup sc.fetch spans col row).toRgb

end Sys2Proof.Machine
end

