-- ==== Sys2Proof/Machine/Film.lean ====
section
/-! DEFINITION. The Film Queue Unit (02_film_presentation.md). -/

namespace Sys2Proof.Machine

def lateKind : FilmSource → EvKind
  | .a => .filmLateA
  | .b => .filmLateB

def starvedKind : FilmSource → EvKind
  | .a => .filmStarvedA
  | .b => .filmStarvedB

def freeKind : FilmSource → EvKind
  | .a => .filmFreeA
  | .b => .filmFreeB

/-- The code of a rear output in an aux: 0 for RL, 1 for RR. -/
def rearCode : Rear → Word
  | .rl => 0
  | .rr => 1

def State.setFqu (q : Fqu) (s : State) : State := { s with fqu := q }

/-- A change of anything the status block shows of the films sets status-dirty (R39). -/
def State.changeFqu (q : Fqu) (s : State) : State := (s.setFqu q).dirtyIf (decide (q ≠ s.fqu))

/-! ### Commands -/

/-- FILM_BUFFERS at take (R26). -/
def doFilmBuffers (r : Rec) (s : State) : State :=
  match filmOf r.target with
  | none => finish resBadParam 0 s
  | some src =>
    if !s.fqu.idle src then finish resWrongState 0 s
    else if !sourceOk s.memSize r.op1.toNat 48 then finish resSourceErr 0 s
    else beginRead (burstsOf r.op1.toNat 12) s

/-- FILM_BUFFERS when its read has completed (R26). -/
def filmTableRead (ws : List Word) (s : State) : State :=
  match filmOf s.cmu.cmd.fields.target, filmTableOf s.memSize ws with
  | some src, some (bases, width, height, pitch) =>
    let f := { s.fqu.film src with bases := bases, width := width, height := height, pitch := pitch }
    let s := (s.setFqu (s.fqu.setFilm src f)).markDirty
    finish resDone (BitVec.ofNat 32 (s.fqu.freeMask src)) s
  | _, _ => finish resBadParam 0 s

/-- FILM_CLOCK (R28). -/
def doFilmClock (r : Rec) (s : State) : State :=
  match filmOf r.target with
  | none => finish resBadParam 0 s
  | some src =>
    if 1 < r.op2.toNat then finish resBadParam 0 s
    else
      let f := s.fqu.film src
      let clock := if flag r.op3 0 then f.clock else r.op1
      let s := (s.setFqu (s.fqu.setFilm src { f with clock := clock, playing := decide (r.op2 = 1) })).markDirty
      finish resDone clock s

/-- FILM_POST (R30). -/
def doFilmPost (r : Rec) (s : State) : State :=
  match filmOf r.target with
  | none => finish resBadParam 0 s
  | some src =>
    let f := s.fqu.film src
    let i := r.op1.toNat
    if 8 ≤ f.queue.length then finish resFull 0 s
    else if f.bases.length ≤ i then finish resBadParam 0 s
    else if !s.fqu.bufFree src i then finish resBusy 0 s
    else if (f.queue.getLast?.map fun e => decide (r.op2 < e.due)) = some true then finish resBadParam 0 s
    else
      let f := { f with queue := f.queue ++ [⟨i, r.op2, r.op3.setWidth 16⟩], armed := true }
      finish resDone (BitVec.ofNat 32 f.queue.length) (s.setFqu (s.fqu.setFilm src f)).markDirty

/-- FILM_ROUTE (R31). -/
def doFilmRoute (r : Rec) (s : State) : State :=
  let source : Option (Option FilmSource) := match r.op1.toNat with
    | 0 => some (some .a)
    | 1 => some (some .b)
    | 2 => some none
    | _ => none
  match rearOf r.target, source with
  | some o, some src =>
    let x := s.fqu.rear.get o
    let x := match (s.scan (rearOutput o)).st with
      | .stopped => { x with route := src, pending := src }
      | .running | .stopping => { x with pending := src }
    finish resDone 0 (s.setFqu (s.fqu.setRear o x)).markDirty
  | _, _ => finish resBadParam 0 s

/-- FILM_FLUSH (R36). -/
def doFilmFlush (r : Rec) (s : State) : State :=
  match filmOf r.target with
  | none => finish resBadParam 0 s
  | some src =>
    let f := s.fqu.film src
    let q := s.fqu.setFilm src { f with queue := [], current := if flag r.op1 0 then none else f.current }
    let mask := freedMask s.fqu q src
    let s := raiseIf (decide (mask ≠ 0)) (freeKind src) (BitVec.ofNat 32 mask) 2 ((s.setFqu q).markDirty)
    finish resDone (BitVec.ofNat 32 mask) s

/-! ### The rear output frame start (R32 to R35) -/

/-- The newest due entry of a queue, with the entries older than it and those newer (R32 step 2). -/
def promote (clock : Word) : List FilmEntry → Option (List FilmEntry × FilmEntry × List FilmEntry)
  | [] => none
  | e :: es =>
    match promote clock es with
    | some (skipped, found, rest) => some (e :: skipped, found, rest)
    | none => if e.due ≤ clock then some ([], e, es) else none

/-- The source after promotion, and the entries skipped (R32 step 2). -/
def Film.promoted (f : Film) : Film × List FilmEntry :=
  match promote f.clock f.queue with
  | none => (f, [])
  | some (skipped, found, rest) => ({ f with queue := rest, current := some (found.buf, found.tag) }, skipped)

/-- A source is starved at a frame start (R33). -/
def starves (held : Bool) (f : Film) : Bool := f.playing && !held && f.queue.isEmpty && f.armed

/-- One FILM_FREE for a source of which buffers became FREE (R35). -/
def freedRaise (before after : Fqu) (aux : Word) (src : FilmSource) : List Raise :=
  let mask := freedMask before after src
  if mask = 0 then [] else [⟨freeKind src, BitVec.ofNat 32 mask, aux⟩]

/-- FILM_FREE for the old source and then for the new one, once where they are the same (R35). -/
def freedRaises (before after : Fqu) (aux : Word) (old new : Option FilmSource) : List Raise :=
  (old.toList ++ if old = new then [] else new.toList).flatMap (freedRaise before after aux)

/-- The five steps of a rear output's frame start (R32), with its raises in the order of R35. -/
def filmFrameStart (o : Rear) (s : State) : WithRaises :=
  let before := s.fqu
  let x := before.rear.get o
  let old := x.route
  let new := x.pending
  match new with
  | none =>
    let q := before.setRear o { x with route := none, latched := none }
    (s.changeFqu q, freedRaises before q (rearCode o) old none)
  | some src =>
    let f := before.film src
    let starved := starves s.filmHeld f
    let p := f.promoted
    let f' := { p.1 with armed := f.armed && !starved }
    let q := (before.setFilm src f').setRear o
      { x with route := some src, latched := f'.current.map fun c => (src, c.1) }
    let late := p.2.getLast?.toList.map fun e : FilmEntry =>
      (⟨lateKind src, BitVec.ofNat 32 p.2.length, e.tag.setWidth 32⟩ : Raise)
    let dry := if starved then [(⟨starvedKind src, f.clock, rearCode o⟩ : Raise)] else []
    (s.changeFqu q, late ++ dry ++ freedRaises before q (rearCode o) old (some src))

/-- The frame end that stops a rear output (R37). -/
def filmStop (o : Rear) (s : State) : WithRaises :=
  let before := s.fqu
  let x := before.rear.get o
  let q := before.setRear o { x with route := x.pending, latched := none }
  ((s.setFqu q).markDirty, freedRaises before q (rearCode o) (x.latched.map Prod.fst) x.pending)

/-- SOFT_RESTART's effect on the film sources (R38). -/
def filmRestart (s : State) : State :=
  let clear := fun f : Film => { f with queue := [], current := none }
  (s.setFqu { a := clear s.fqu.a, b := clear s.fqu.b, rear := ⟨⟨none, none, none⟩, ⟨none, none, none⟩⟩ }).markDirty

end Sys2Proof.Machine
end

