-- ==== Sys2Proof/Machine/Reverse.lean ====
section
/-! DEFINITION. The Reverse Controller (04_reverse_view.md): the request, the state machine and its timers, slot selection and release,
the reverse layout. -/

namespace Sys2Proof.Machine

def State.setRvc (r : Rvc) (s : State) : State := { s with rvc := r }

/-- Presence of the camera in an aux (R67). -/
def State.presenceAux (s : State) : Word := BitVec.ofNat 32 (ofBool s.ccu.present)

/-- The reverse state moves, and every coupling of R75 follows: capture, the Guide Engine and voice P see their levels change. The
raises are those of a capture start. -/
def moveReverse (st : RevState) (s : State) : WithRaises :=
  let c := syncCapture s.capturing (s.setRvc { s.rvc with st := st }).markDirty
  (syncVoiceP s.zone (syncGuide s.reversing c.1), c.2)

/-- SHOWN slots become FREE (R74). -/
def releaseShown (s : State) : State :=
  if (shownSlot s.ccu.slots).isSome then
    (s.setCcu { s.ccu with slots := s.ccu.slots.map fun x => if x.st = .shown then { x with st := .free } else x }).markDirty
  else s

/-- The Reverse Controller's own raises at an engagement: REV_ENGAGED before REV_NO_OUTPUT (R64, R65). -/
def engageRaises (s : State) : List Raise :=
  ⟨.revEngaged, BitVec.ofNat 32 (ofBool s.rvc.debounced), BitVec.ofNat 32 (ofBool s.vehicleFlag)⟩ ::
    if s.scn.ctr.st = .running then [] else [⟨.revNoOutput, 1, BitVec.ofNat 32 s.scn.ctr.st.code⟩]

/-- Entry to ENGAGING from NORMAL (R64, R65, R76). A GUARD_HIT of the capture start and a CHIME_DROPPED of the engage chime come
together with the Reverse Controller's own raises (R167). -/
def engage (s : State) : State :=
  let m := moveReverse .engaging
    (s.setRvc { s.rvc with engageTimer := some s.rvc.setup.engage, staleTimer := none, releaseAtStop := false })
  let c : WithRaises := match s.rvc.setup.chime with
    | none => (m.1, [])
    | some id => requestEngage id m.1
  raiseTogether [engageRaises s, m.2, c.2] c.1

/-- Entry to NORMAL (R71, R74). -/
def enterNormal (s : State) : State :=
  let s := raise .revReleased (BitVec.ofNat 32 s.rvc.st.code) 0 s
  let stopping := decide (s.scn.ctr.st = .stopping)
  let s := s.setRvc { s.rvc with engageTimer := none, staleTimer := none, lingerTimer := none, releaseAtStop := stopping }
  let s := raised (moveReverse .normal s)
  if s.scn.ctr.st = .stopped then releaseShown s else s

/-- A rise of R (R64, R70). -/
def riseOfR (s : State) : State :=
  match s.rvc.st with
  | .normal => engage s
  | .linger =>
    let s := s.setRvc { s.rvc with lingerTimer := none }
    if s.rvc.staleTimer.isSome then raised (moveReverse .live s)
    else raised (moveReverse .engaging (s.setRvc { s.rvc with engageTimer := some s.rvc.setup.engage }))
  | .engaging | .live | .blanked => s

/-- A fall of R (R64, R69). -/
def fallOfR (s : State) : State :=
  match s.rvc.st with
  | .normal | .linger => s
  | .engaging | .live | .blanked =>
    if s.rvc.setup.linger = 0 then enterNormal s
    else
      let blanked := decide (s.rvc.st = .blanked)
      raised (moveReverse .linger
        (s.setRvc { s.rvc with lingerTimer := some s.rvc.setup.linger, engageTimer := none, heldBlanked := blanked }))

/-- The reverse request from its source (R61). -/
def State.requestLevel (s : State) : Bool :=
  match s.rvc.setup.source with
  | .pin => s.rvc.debounced
  | .vehicle => s.vehicleFlag
  | .either => s.rvc.debounced || s.vehicleFlag

/-- R is evaluated again (R61). -/
def evaluateR (s : State) : State :=
  let now := s.requestLevel
  if now = s.rvc.request then s
  else
    let s := (s.setRvc { s.rvc with request := now }).markDirty
    if now then riseOfR s else fallOfR s

/-! ### REV and VEHICLE -/

/-- The REV stability timer expires, where it is due (R60). -/
def revExpiry (s : State) : State :=
  if s.rvc.revTimer = some 0 then
    let s := s.setRvc { s.rvc with revTimer := none }
    if s.rvc.rev = s.rvc.debounced then s
    else evaluateR (s.setRvc { s.rvc with debounced := s.rvc.rev }).markDirty
  else s

/-! ### REVERSE_SETUP (R62, R63) -/

/-- K, the rectangle's place or its scale differ (R63, R87). -/
def RevSetup.moved (a b : RevSetup) : Bool := decide (a.strip ≠ b.strip ∨ a.x ≠ b.x ∨ a.y ≠ b.y ∨ a.scale ≠ b.scale)

def doReverseSetup (r : Rec) (s : State) : State :=
  match revSetupOf r with
  | none => finish resBadParam 0 s
  | some new =>
    let old := s.rvc.setup
    let s := (s.setRvc { s.rvc with setup := new }).markDirty
    let s := if old.source = new.source then s else evaluateR s
    finish resDone 0 (triggerIf (old.moved new) s)

/-! ### Timers (R67, R68, R70) -/

/-- The engage timer expires, where it is due. -/
def engageExpiry (s : State) : State :=
  if s.rvc.engageTimer = some 0 ∧ s.rvc.st = .engaging then
    raise .revDegraded 1 s.presenceAux (raised (moveReverse .blanked (s.setRvc { s.rvc with engageTimer := none })))
  else s

/-- The stale timer expires, where it is due. -/
def staleExpiry (s : State) : State :=
  if s.rvc.staleTimer = some 0 then
    let s := (s.setRvc { s.rvc with staleTimer := none }).markDirty
    if s.rvc.st = .live then raise .revDegraded 2 s.presenceAux (raised (moveReverse .blanked s)) else s
  else s

/-- The linger timer expires, where it is due. -/
def lingerExpiry (s : State) : State :=
  if s.rvc.lingerTimer = some 0 ∧ s.rvc.st = .linger then enterNormal s else s

/-! ### At a CTR frame start -/

/-- Slot selection (R66). -/
def selectSlot (s : State) : State :=
  match s.rvc.st with
  | .normal | .linger => s
  | .engaging | .live | .blanked =>
    match pickReady (fun a b => decide (a < b)) s.ccu.seen s.ccu.slots with
    | none => s
    | some i =>
      let slots := s.ccu.slots.map fun x => if x.st = .shown ∨ x.st = .ready then { x with st := SlotState.free } else x
      let s := (s.setCcu { s.ccu with slots := setSlotState slots i .shown }).markDirty
      let s := s.setRvc { s.rvc with staleTimer := some s.rvc.setup.stale, engageTimer := none }
      if s.rvc.st = .live then s else raised (moveReverse .live s)

/-- The display mode of a reverse layout (R72). -/
def State.displayMode (s : State) : DisplayMode :=
  let shown := (shownSlot s.ccu.slots).isSome
  match s.rvc.st with
  | .blanked => .unavailable
  | .linger => if s.rvc.heldBlanked then .unavailable else if shown then .camera else .fill
  | .engaging | .live | .normal => if shown then .camera else .fill

/-- The layout latched for the frame that begins (R72). -/
def State.latchLayout (s : State) : Option Layout :=
  match s.scn.ctr.timing with
  | none => none
  | some t =>
    if s.reversing then
      let x := s.rvc.setup
      some { strip := min x.strip (t.ha / 2), x := x.x, y := x.y, scale := x.scale, fill := x.fill,
             unavailable := x.unavailable, slot := shownSlot s.ccu.slots, mode := s.displayMode }
    else none

/-- The Reverse Controller's and the Guide Engine's work at a CTR frame start (R66, R72, R74, R99). -/
def reverseFrameStart (s : State) : State :=
  let s := selectSlot s
  let s := if s.reversing then s else (releaseShown s).setRvc { (releaseShown s).rvc with releaseAtStop := false }
  let s := guideFrameStart s
  { s with layout := s.latchLayout }

/-- The CTR output has become STOPPED (R65, R74). -/
def reverseStop (s : State) : WithRaises :=
  let t := if s.rvc.releaseAtStop && !s.reversing
    then (releaseShown s).setRvc { (releaseShown s).rvc with releaseAtStop := false } else s
  ({ t with layout := none }, if s.reversing then [⟨.revNoOutput, 2, 0⟩] else [])

end Sys2Proof.Machine
end

