-- ==== Sys2Proof/Machine/Display.lean ====
section
/-! DEFINITION. The scanout units (01_display_outputs_and_composition.md): their commands, frames, lines and line buffers, fades and
presence. -/

namespace Sys2Proof.Machine

/-! ### Descriptors (R1, R7) -/

/-- Bytes of a pixel of a UI or menu format code (R7). -/
def bytesPerPixel : Nat → Nat
  | 0 => 4
  | 1 => 2
  | _ => 1

/-- The rectangle check of a UI or menu plane (R7 check 6). -/
def rectOk (memSize : Nat) (t : Timing) (d : Descriptor) : Bool :=
  let b := bytesPerPixel d.format
  decide (d.x + d.width ≤ t.wa) && decide (d.y + d.height ≤ t.ha) && decide (d.width * b ≤ d.pitch) &&
    decide (d.base + d.pitch * (d.height - 1) + d.width * b ≤ memSize)

/-- The rectangle check of a film plane (R7 check 6). -/
def filmRectOk (t : Timing) (d : Descriptor) : Bool := decide (d.x < t.wa) && decide (d.y < t.ha)

/-- The planes PLANE_SET names (11_memory_resident_formats). -/
inductive PlaneName where
  | fill
  | ui
  | film
  | menu
deriving DecidableEq, Repr

def planeNameOf : Nat → Option PlaneName
  | 0 => some .fill
  | 1 => some .ui
  | 2 => some .film
  | 3 => some .menu
  | _ => none

/-- The output has the plane (R7 check 1). -/
def planeOnOutput (o : Output) : PlaneName → Bool
  | .fill => true
  | .ui => decide (o = .ctr)
  | .film | .menu => decide (o ≠ .ctr)

/-- The field ranges of an enabled plane (R7 check 4). -/
def planeRangesOk (p : PlaneName) (d : Descriptor) : Bool :=
  let placed := decide (d.base % 64 = 0) && decide (d.pitch % 64 = 0) && decide (d.width ≠ 0 ∧ d.height ≠ 0)
  decide (d.alpha ≤ 255) &&
    match p with
    | .fill => true
    | .ui => decide (d.format ≤ 1) && placed
    | .film => decide (d.format = 2) && decide (d.scale = 1 ∨ d.scale = 2)
    | .menu => decide (d.format = 3) && placed

def Planes.store (p : PlaneName) (d : Descriptor) (x : Planes) : Planes :=
  match p with
  | .fill => x
  | .ui => { x with ui := d }
  | .film => { x with film := d }
  | .menu => { x with menu := d }

/-- PLANE_SET (R7). -/
def doPlaneSet (r : Rec) (s : State) : State :=
  match outputOf r.target, planeNameOf (field r.op1 0 4) with
  | some o, some p =>
    let sc := s.scan o
    let d := descriptorOf r
    let store := fun d => finish resDone 0 (s.setScan o { sc with asSet := sc.asSet.store p d })
    if !planeOnOutput o p then finish resBadParam 0 s
    else if p = .fill then finish resDone 0 (s.setScan o { sc with asSet := { sc.asSet with fill := r.op2.setWidth 24 } })
    else if !d.enabled then store d
    else if !planeRangesOk p d then finish resBadParam 0 s
    else
      match sc.timing with
      | none => finish resWrongState 0 s
      | some t =>
        if (if p = .film then filmRectOk t d else rectOk s.memSize t d) then store d else finish resBadParam 0 s
  | _, _ => finish resBadParam 0 s

/-- A descriptor that no longer fits is disabled (R1). -/
def disableIf (bad : Bool) (d : Descriptor) : Descriptor := if bad then { d with enabled := false } else d

/-- OUTPUT_TIMING (R1). -/
def doOutputTiming (r : Rec) (s : State) : State :=
  match outputOf r.target with
  | none => finish resBadParam 0 s
  | some o =>
    let sc := s.scan o
    let t := timingOf r
    if sc.st ≠ .stopped then finish resWrongState 0 s
    else if !timingOk t then finish resBadParam 0 s
    else
      let x := sc.asSet
      let badUi := x.ui.enabled && !rectOk s.memSize t x.ui
      let badFilm := x.film.enabled && !filmRectOk t x.film
      let badMenu := x.menu.enabled && !rectOk s.memSize t x.menu
      let x := { x with ui := disableIf badUi x.ui, film := disableIf badFilm x.film, menu := disableIf badMenu x.menu }
      let s := s.setScan o { sc with timing := some t, asSet := x }
      finish resDone (pack [(ofBool badUi, 0), (ofBool badFilm, 1), (ofBool badMenu, 2)]) (triggerIf (decide (o = .ctr)) s)

/-! ### Palette, ramp, fade, pacing (R18 to R22) -/

/-- PALETTE_LOAD at take (R18). -/
def doPaletteLoad (r : Rec) (s : State) : State :=
  match rearOf r.target with
  | none => finish resBadParam 0 s
  | some _ =>
    if !sourceOk s.memSize r.op1.toNat 1024 then finish resSourceErr 0 s else beginRead (burstsOf r.op1.toNat 256) s

def State.modMenu (s : State) (o : Rear) (f : Menu → Menu) : State := { s with menu := s.menu.set o (f (s.menu.get o)) }

/-- PALETTE_LOAD when its read has completed (R18). -/
def paletteRead (ws : List Word) (s : State) : State :=
  match rearOf s.cmu.cmd.fields.target with
  | none => finish resBadParam 0 s
  | some o => finish resDone 0 (s.modMenu o fun m => { m with pendingPalette := some ws })

/-- The fade is at rest (R20). -/
def Menu.atRest (m : Menu) : Bool :=
  match m.motion with
  | .inRest | .outRest => true
  | .fadingIn | .fadingOut => false

/-- RAMP_LOAD at take (R19). -/
def doRampLoad (r : Rec) (s : State) : State :=
  match rearOf r.target with
  | none => finish resBadParam 0 s
  | some o =>
    let n := r.op1.toNat
    if n < 2 ∨ 64 < n then finish resBadParam 0 s
    else if !sourceOk s.memSize r.op2.toNat n then finish resSourceErr 0 s
    else if !(s.menu.get o).atRest then finish resBusy 0 s
    else beginRead (burstsOf r.op2.toNat ((n + 3) / 4)) s

/-- RAMP_LOAD when its read has completed (R19). -/
def rampRead (ws : List Word) (s : State) : State :=
  let n := s.cmu.cmd.fields.op1.toNat
  match rearOf s.cmu.cmd.fields.target with
  | none => finish resBadParam 0 s
  | some o =>
    finish resDone 0 (s.modMenu o fun m =>
      { m with ramp := (bytesOf ws).take n, pos := if m.motion = .outRest then 0 else n - 1 })

/-- The motion after MENU_FADE (R20). -/
def Menu.fade (out : Bool) (m : Menu) : FadeMotion :=
  match m.motion, out with
  | .inRest, false => .inRest
  | .inRest, true => .fadingOut
  | .outRest, false => .fadingIn
  | .outRest, true => .outRest
  | .fadingIn, false => .fadingIn
  | .fadingIn, true => if m.pos = 0 then .outRest else .fadingOut
  | .fadingOut, false => if m.pos + 1 = m.ramp.length then .inRest else .fadingIn
  | .fadingOut, true => .fadingOut

/-- MENU_FADE (R20). -/
def doMenuFade (r : Rec) (s : State) : State :=
  match rearOf r.target with
  | none => finish resBadParam 0 s
  | some o =>
    if 1 < r.op1.toNat then finish resBadParam 0 s
    else finish resDone 0 (s.modMenu o fun m => { m with motion := m.fade (decide (r.op1 = 1)) })

/-- The fade's step at a frame start (R21). -/
def Menu.fadeStep (m : Menu) : Menu :=
  let levelAt := fun p => some (m.ramp.getD p 0).toNat
  match m.motion with
  | .fadingIn =>
    let p := m.pos + 1
    { m with pos := p, motion := if p + 1 = m.ramp.length then .inRest else .fadingIn, level := levelAt p }
  | .fadingOut =>
    let p := m.pos - 1
    if p = 0 then { m with pos := 0, motion := .outRest, level := none } else { m with pos := p, level := levelAt p }
  | .inRest => { m with level := levelAt (m.ramp.length - 1) }
  | .outRest => { m with level := none }

/-- Palette and fade of a rear output at its frame start (R18, R21). -/
def Menu.frameStart (m : Menu) : Menu :=
  { m with palette := m.pendingPalette.getD m.palette, pendingPalette := none }.fadeStep

/-- PACE_SET (R22). -/
def doPaceSet (r : Rec) (s : State) : State :=
  match outputOf r.target with
  | none => finish resBadParam 0 s
  | some o =>
    if 7 < r.op1.toNat then finish resBadParam 0 s
    else finish resDone 0 (s.modScan o fun sc => { sc with pacing := ⟨flag r.op2 0, r.op1.toNat⟩ })

def paceKind : Output → EvKind
  | .ctr => .paceC
  | .rl => .paceL
  | .rr => .paceR

def underrunKind : Output → EvKind
  | .ctr => .underrunC
  | .rl => .underrunL
  | .rr => .underrunR

/-- The frame counter advances, with the pacing event where it is due (R5, R22). -/
def advanceFrames (o : Output) (s : State) : WithRaises :=
  let sc := s.scan o
  let c := sc.frames + 1
  let k := sc.pacing.bit
  let due := sc.pacing.on && !sc.frames.getLsbD k && c.getLsbD k
  (s.setScan o { sc with frames := c }, if due then [⟨paceKind o, c, BitVec.ofNat 32 k⟩] else [])

/-! ### The fetching planes of a frame (R9, R10, R11, R74) -/

/-- A fetching plane at the start of its frame. -/
def freshFetch (plane : PlaneId) (format : PixelFormat) (base pitch first stop words pixels x y top scale alpha : Nat) : Fetch :=
  { plane := plane, format := format, base := base, pitch := pitch, first := first, stop := stop, words := words,
    pixels := pixels, x := x, y := y, top := top, scale := scale, alpha := alpha, next := first, got := [], lines := [],
    latest := none, shown := none, missed := false }

/-- The UI plane (R7, R10): under a reverse layout its lines stop at the strip. -/
def uiFetch (l : Option Layout) (d : Descriptor) : List Fetch :=
  if !d.enabled then []
  else
    let stop := match l with
      | none => d.height
      | some x => min d.height (x.strip - d.y)
    [freshFetch .ui (if d.format = 1 then .rgb565 else .argb8888) d.base d.pitch 0 stop
      ((d.width * bytesPerPixel d.format + 3) / 4) d.width d.x d.y d.y 1 d.alpha]

/-- Visible pixels of a line, rounded up to an even count (R9, R74). -/
def visiblePixels (width wa x s : Nat) : Nat :=
  let v := min width ((wa - x + s - 1) / s)
  v + v % 2

/-- The film plane of a rear output, from its latched buffer (R9). -/
def filmFetch (q : Fqu) (t : Timing) (o : Rear) (d : Descriptor) : List Fetch :=
  match (q.rear.get o).latched with
  | none => []
  | some (src, i) =>
    if !d.enabled then []
    else
      let f := q.film src
      let wv := visiblePixels f.width t.wa d.x d.scale
      let hv := min f.height ((t.ha - d.y + d.scale - 1) / d.scale)
      [freshFetch .film .ycbcr422 (f.bases.getD i 0) f.pitch 0 hv (wv / 2) wv d.x d.y d.y d.scale d.alpha]

/-- The menu plane of a rear output (R10, R20). -/
def menuFetch (m : Menu) (d : Descriptor) : List Fetch :=
  if !d.enabled || decide (m.motion = .outRest) then []
  else [freshFetch .menu .index8 d.base d.pitch 0 d.height ((d.width + 3) / 4) d.width d.x d.y d.y 1 d.alpha]

/-- The camera plane of a reverse-layout frame (R74). -/
def cameraFetch (l : Option Layout) (setup : Option CamSetup) (t : Timing) : List Fetch :=
  match l, setup with
  | some x, some c =>
    match x.mode, x.slot with
    | .camera, some slot =>
      let i0 := if x.strip ≤ x.y then 0 else (x.strip - x.y) / x.scale
      let stop := min c.hc ((t.ha - x.y + x.scale - 1) / x.scale)
      let wv := visiblePixels c.wc t.wa x.x x.scale
      if t.wa ≤ x.x ∨ t.ha ≤ x.y ∨ stop ≤ i0 then []
      else [freshFetch .camera .ycbcr422 (c.slotBase slot) c.pitch i0 stop (wv / 2) wv x.x x.y (max x.y x.strip) x.scale 255]
    | _, _ => []
  | _, _ => []

/-- The fetching planes of an output's frame, bottom to top (R10). -/
def framePlanes (s : State) (o : Output) (t : Timing) : List Fetch :=
  let d := (s.scan o).inUse
  match outputRear o with
  | none => cameraFetch s.layout s.ccu.setup t ++ uiFetch s.layout d.ui
  | some r => filmFetch s.fqu t r d.film ++ menuFetch (s.menu.get r) d.menu

/-- Bursts in progress of lines that are abandoned: their data will be discarded (R11, R13). -/
def dropLine (o : Output) (which : PlaneId → Bool) (s : State) : State :=
  match s.fma.memory with
  | .data g =>
    match g.burst with
    | .line o' p num ws last _ => if o' = o ∧ which p = true then s.carry { g with burst := .line o' p num ws last true } else s
    | _ => s
  | .notReady | .idle | .refresh => s

/-! ### Frame start, line start, frame end -/

/-- The work of other blocks at the frame start of an output (R8 as listed with FRAME_START); the raises are the Film Queue
Unit's. -/
def blocksFrameStart (o : Output) (s : State) : WithRaises :=
  match outputRear o with
  | none => (reverseFrameStart s, [])
  | some r => filmFrameStart r (s.modMenu r Menu.frameStart)

/-- A frame start: descriptors, palette and fade, the other blocks' work, and empty line buffers (R8, R11, R14). -/
def frameStartOf (o : Output) (s : State) : WithRaises :=
  match (s.scan o).timing with
  | none => (s, [])
  | some t =>
    let b := blocksFrameStart o (s.modScan o fun sc => { sc with inUse := sc.asSet })
    let s := dropLine o (fun _ => true) b.1
    (s.modScan o fun sc => { sc with underruns := 0, frameOpen := true, row := 0, pixels := [], fetch := framePlanes s o t }, b.2)

/-- FRAME_START: every later frame start of an output that runs (R2, R5, R8). A pacing event comes together with the Film Queue
Unit's (R167). -/
def doFrameStart (o : Output) (s : State) : State :=
  let sc := s.scan o
  if sc.st = .stopped ∨ sc.frameOpen = true then s
  else
    let a := advanceFrames o s
    let f := frameStartOf o a.1
    raiseTogether [a.2, f.2] f.1

/-- OUTPUT_START (R3). -/
def doOutputStart (r : Rec) (s : State) : State :=
  match outputOf r.target with
  | none => finish resBadParam 0 s
  | some o =>
    let sc := s.scan o
    if sc.st ≠ .stopped ∨ sc.timing.isNone = true then finish resWrongState 0 s
    else finish resDone 0 (raised (frameStartOf o (s.setScan o { sc with st := .running, frames := 0 }).markDirty))

/-- OUTPUT_STOP (R4). -/
def doOutputStop (r : Rec) (s : State) : State :=
  match outputOf r.target with
  | none => finish resBadParam 0 s
  | some o =>
    let sc := s.scan o
    match sc.st with
    | .running => finish resDone 0 (s.setScan o { sc with st := .stopping }).markDirty
    | .stopping => finish resDone 0 s
    | .stopped => finish resWrongState 0 s

/-- The line a row of a plane shows (R9, R11, R74). -/
def Fetch.lineOf (p : Fetch) (row : Nat) : Nat := (row - p.y) / p.scale

/-- The plane covers the row (R13). -/
def Fetch.covers (p : Fetch) (row : Nat) : Bool :=
  decide (p.top ≤ row) && decide (p.first ≤ p.lineOf row) && decide (p.lineOf row < p.stop)

/-- The row is the first the plane's line covers on the display (R11). -/
def Fetch.firstRow (p : Fetch) (row : Nat) : Bool :=
  decide (row = p.top) || decide (p.lineOf (row - 1) ≠ p.lineOf row)

/-- A plane at the line start of a row (R13): the line complete in the buffer is shown and leaves it, or the plane underruns
and its fetch goes on with the line after. -/
def Fetch.atRow (row : Nat) (p : Fetch) : Fetch :=
  if !p.covers row then { p with shown := none, missed := false }
  else if !p.firstRow row then p
  else
    let l := p.lineOf row
    match p.lines with
    | (n, ws) :: rest =>
      if n = l then { p with shown := some ws, missed := false, lines := rest }
      else { p with shown := p.latest, missed := true }
    | [] =>
      if p.next ≤ l then { p with shown := p.latest, missed := true, next := l + 1, got := [] }
      else { p with shown := p.latest, missed := true }

/-- The plane's line in fetch was abandoned at the row. -/
def abandoned (before after : List Fetch) (id : PlaneId) : Bool :=
  (before.zip after).any fun x => decide (x.1.plane = id) && decide (x.1.next ≠ x.2.next)

/-- LINE_START (R13, R14, R15). -/
def doLineStart (o : Output) (s : State) : State :=
  let sc := s.scan o
  let ha := (sc.timing.map Timing.ha).getD 0
  if !sc.frameOpen || decide (ha ≤ sc.row) then s
  else
    let fetch := sc.fetch.map (Fetch.atRow sc.row)
    let s := dropLine o (abandoned sc.fetch fetch) s
    let s := s.setScan o { sc with fetch := fetch, underruns := sc.underruns + fetch.countP Fetch.missed, row := sc.row + 1 }
    s.modScan o fun x => { x with pixels := composeRow s o sc.row }

/-- Words of a line arrive; the last burst completes it (R11). -/
def Fetch.arrive (num : Nat) (ws : List Word) (last : Bool) (p : Fetch) : Fetch :=
  if p.next ≠ num then p
  else if last then
    { p with next := num + 1, got := [], lines := p.lines ++ [(num, p.got ++ ws)], latest := some (p.got ++ ws) }
  else { p with got := p.got ++ ws }

/-- A burst of a plane's line has ended (R11); data of an abandoned line is discarded. -/
def lineOver (s : State) : State :=
  match s.burst with
  | some (.line o id num ws last dropped) =>
    let s := markEnded s
    if dropped then s
    else s.modScan o fun sc => { sc with fetch := sc.fetch.map fun p => if p.plane = id then p.arrive num ws last else p }
  | _ => s

/-- The last burst of a line has ended (R11). -/
def lastLineOver (s : State) : State :=
  match s.burst with
  | some (.line _ _ _ _ true _) => lineOver s
  | _ => s

/-- The underrun report of the frame in progress (R14). -/
def underrunReport (o : Output) (s : State) : List Raise :=
  let sc := s.scan o
  if sc.underruns = 0 then [] else [⟨underrunKind o, BitVec.ofNat 32 sc.underruns, sc.frames &&& 0xFFFF⟩]

/-- The part of a stop that the scanout unit makes: STOPPED, line buffers emptied (R4). -/
def scanStop (o : Output) (s : State) : State :=
  (dropLine o (fun _ => true) (s.modScan o fun sc =>
    { sc with st := .stopped, frameOpen := false, row := 0, fetch := [], pixels := [] })).markDirty

/-- The stop of a STOPPING output at its frame end (R4, R37, R65). -/
def stopOutput (o : Output) (s : State) : WithRaises :=
  match outputRear o with
  | some r =>
    let f := filmStop r s
    (scanStop o f.1, f.2)
  | none => reverseStop (scanStop o s)

/-- FRAME_END (R2, R4, R14). The underrun report comes together with the raises that other blocks make at the stop (R167). -/
def doFrameEnd (o : Output) (s : State) : State :=
  let sc := s.scan o
  let ha := (sc.timing.map Timing.ha).getD 0
  if !sc.frameOpen || decide (sc.row < ha) then s
  else
    let under := underrunReport o s
    if sc.st = .stopping then
      let r := stopOutput o s
      raiseTogether [under, r.2] r.1
    else raiseAll under (s.modScan o fun x => { x with frameOpen := false, pixels := [] })

/-! ### SOFT_RESTART (R162) -/

/-- A rear output stops at once, with the underrun report of the frame it was showing. -/
def stopAtOnce (r : Rear) (s : State) : WithRaises :=
  let o := rearOutput r
  let sc := s.scan o
  if sc.st = .stopped then (s, []) else (scanStop o s, if sc.frameOpen then underrunReport o s else [])

/-- The UI plane of CTR and the menu planes of RL and RR are switched off as set (R162). -/
def disablePlanes (s : State) : State :=
  let s := s.modScan .ctr fun sc => { sc with asSet := { sc.asSet with ui := { sc.asSet.ui with enabled := false } } }
  let menuOff := fun sc : Scan => { sc with asSet := { sc.asSet with menu := { sc.asSet.menu with enabled := false } } }
  (s.modScan .rl menuOff).modScan .rr menuOff

/-- SOFT_RESTART. The underrun reports of the two rear outputs come together (R167). -/
def doSoftRestart (_r : Rec) (s : State) : State :=
  let mask := pack [(ofBool (decide (s.scn.rl.st ≠ .stopped)), 0), (ofBool (decide (s.scn.rr.st ≠ .stopped)), 1)]
  let l := stopAtOnce .rl s
  let r := stopAtOnce .rr l.1
  finish resDone mask (raiseTogether [l.2, r.2] (stopChimes (disablePlanes (filmRestart r.1))).markDirty)

/-! ### Presence of the rear screens (R23) -/

def linkKind : Rear → EvKind
  | .rl => .linkL
  | .rr => .linkR

/-- RLP or RRP has a level now: a change restarts the stability timer. -/
def doLinkChange (o : Rear) (level : Bool) (s : State) : State :=
  let x := s.links.get o
  if x.level = level then s else { s with links := s.links.set o { x with level := level, timer := some Config.linkMs } }

/-- The stability timer expires, where it is due. -/
def linkExpiry (o : Rear) (s : State) : State :=
  let x := s.links.get o
  if x.timer = some 0 then
    let s := { s with links := s.links.set o { x with timer := none, present := x.level } }
    raiseIf (decide (x.level ≠ x.present)) (linkKind o) (BitVec.ofNat 32 (ofBool x.level)) 0 s
  else s

end Sys2Proof.Machine
end

