-- ==== Sys2Proof/Machine/Events.lean ====
section
/-! DEFINITION. The takes of the watched words at their owners (R131 to R133, R155, R171 to R173), the completion of a processor write,
EVENT_SETUP (R176) and the writing of event records (R169). -/

namespace Sys2Proof.Machine

/-- The values of the watched words as last taken, changed (R133). -/
def State.setTaken (f : Taken → Taken) (s : State) : State := { s with ppw := { s.ppw with taken := f s.ppw.taken } }

/-- A take of CMD_POST (R155). -/
def takeCmdPost (v : Word) (s : State) : State :=
  let s := s.setTaken fun t => { t with cmdPost := v }
  let p : BitVec 8 := v.setWidth 8
  if 255 < v.toNat then raise .cmdPostBad v 1 s
  else if p = s.cmu.p then s
  else if p - s.cmu.c < s.cmu.pendingCount then raise .cmdPostBad v 2 s
  else
    let s := { s with cmu := { s.cmu with p := p } }.markDirty
    if s.cmu.st = .idle then takeRecord s else s

/-- A take of EVT_ACK (R171). -/
def takeEvtAck (v : Word) (s : State) : State :=
  let s := s.setTaken fun t => { t with evtAck := v }
  let a : BitVec 6 := v.setWidth 6
  if 63 < v.toNat ∨ s.seu.w - s.seu.a < a - s.seu.a then s
  else { s with seu := { s.seu with a := a } }.markDirty

/-- A take of PEND_CLR_0 or PEND_CLR_1 (R172). -/
def takePendClr (second : Bool) (v : Word) (s : State) : State :=
  let s := s.setTaken fun t => if second then { t with pendClr1 := v } else { t with pendClr0 := v }
  let now := s.seu.pending &&& ~~~(clearBits second v)
  { s with seu := { s.seu with pending := now }.evalLines }.dirtyIf (decide (now ≠ s.seu.pending))

/-- A take of OCC_CLR_0 or OCC_CLR_1 (R173): a kind that is pending keeps its occurrence. -/
def takeOccClr (second : Bool) (v : Word) (s : State) : State :=
  let s := s.setTaken fun t => if second then { t with occClr1 := v } else { t with occClr0 := v }
  let now := s.seu.occurred &&& ~~~(clearBits second v &&& ~~~s.seu.pending)
  { s with seu := { s.seu with occurred := now } }.dirtyIf (decide (now ≠ s.seu.occurred))

/-- A take of STEER (R79). -/
def takeSteerWord (v : Word) (s : State) : State := takeSteer v (s.setTaken fun t => { t with steer := v })

/-- A take of OBSTACLE (R80). -/
def takeObstacleWord (v : Word) (s : State) : State := takeObstacle v (s.setTaken fun t => { t with obstacle := v })

/-- A take of VEHICLE (R61). -/
def takeVehicle (v : Word) (s : State) : State :=
  let was := s.vehicleFlag
  let s := s.setTaken fun t => { t with vehicle := v }
  evaluateR (s.dirtyIf (decide (was ≠ s.vehicleFlag)))

/-- A take of SAMPLE_CLR (R152). -/
def takeSampleClrWord (v : Word) (s : State) : State := takeSampleClr (s.setTaken fun t => { t with sampleClr := v })

/-- The take of the watched word at a CA offset (07_the_memory_path.md, Watched words). -/
def takeWatched (off : Nat) (v : Word) (s : State) : State :=
  match off with
  | 0x000 => takeCmdPost v s
  | 0x004 => takeEvtAck v s
  | 0x008 => takePendClr false v s
  | 0x00C => takePendClr true v s
  | 0x010 => takeOccClr false v s
  | 0x014 => takeOccClr true v s
  | 0x018 => takeSteerWord v s
  | 0x01C => takeObstacleWord v s
  | 0x020 => takeVehicle v s
  | 0x024 => takeSampleClrWord v s
  | _ => s

/-- Byte enables set. -/
def enableCount (w : WriteWord) : Nat := (List.range 4).countP fun i => w.enables.getLsbD i

/-- A word of a completed write that lies on a watched word (R131). -/
def deliverWord (a : Nat) (w : WriteWord) (s : State) : State :=
  if s.caBase ≤ a ∧ a < s.caBase + 0x28 then
    let off := a - s.caBase
    match enableCount w with
    | 0 => s
    | 4 => takeWatched off w.data s
    | n => raise .watchPartial (BitVec.ofNat 32 off) (BitVec.ofNat 32 n) s
  else s

/-- The words of a completed write in ascending address order (R132). -/
def deliverWords : Nat → List WriteWord → State → State
  | _, [], s => s
  | a, w :: ws, s => deliverWords (a + 4) ws (deliverWord a w s)

/-- The burst carries a full write to SAMPLE_CLR (R152). -/
def carriesSampleClr (caBase : Nat) : Nat → List WriteWord → Bool
  | _, [] => false
  | a, w :: ws => (decide (a = caBase + 0x024) && decide (w.enables = 15)) || carriesSampleClr caBase (a + 4) ws

/-- A processor write burst has been written (R125, R132). The write that completes is no longer one that a capture start
examines. -/
def writeOver (s : State) : State :=
  match s.burst, s.ppw.tx with
  | some .procWrite, some q =>
    let a := requestAddr q
    let s := markEnded { s with mem := writeCells s.mem (requestCells a q.data), ppw := { s.ppw with tx := none } }
    completeTx q [] (!carriesSampleClr s.caBase a q.data) (deliverWords a q.data s)
  | _, _ => s

/-- EVENT_SETUP (R176). -/
def doEventSetup (r : Rec) (s : State) : State :=
  let e := { s.seu with recMask := maskOf r.op1 r.op2, attnMask := maskOf r.op3 r.op4, attnOn := flag r.op5 0,
                        alertOn := flag r.op5 1, tag := BitVec.ofNat 8 (field r.op5 8 8) }
  finish resDone 0 { s with seu := e.evalLines }

/-- An event record has been written into its entry (R169). -/
def recordOver (s : State) : State :=
  match s.burst with
  | some (.event ws) => markEnded { s with mem := writeWords s.mem s.burstAddr ws, seu := { s.seu with queue := s.seu.queue.tail } }
  | _ => s

/-- Block `k` of a status write has been written, and it is not the last (R165). -/
def statusBlockOver (s : State) : State :=
  match s.burst with
  | some (.status k ws) =>
    if k < 23 then
      markEnded { s with mem := writeWords s.mem s.burstAddr ws,
                         seu := { s.seu with writing := s.seu.writing.map fun x => (x.1, k + 1) } }
    else s
  | _ => s

/-- The block with the tail generation has been written: the write is no longer in progress (R165). -/
def statusOver (s : State) : State :=
  match s.burst with
  | some (.status k ws) =>
    if k < 23 then s
    else markEnded { s with mem := writeWords s.mem s.burstAddr ws, seu := { s.seu with writing := none } }
  | _ => s

end Sys2Proof.Machine
end

