-- ==== Sys2Proof/Machine/Command.lean ====
section
/-! DEFINITION. The Command Unit (09_control_area_and_commands.md): the arrival of a record, the command it names, the end of a
command's read, and consumption. -/

namespace Sys2Proof.Machine

/-- The record's fields are copied into the command in execution (R157). -/
def arriveAs (k : Byte) (r : Rec) (s : State) : State := markEnded { s with cmu := { s.cmu with cmd := ⟨k, r⟩ } }

/-- A record of the kind arrives and `f` carries its command out; where no record read is in progress none can arrive
(log entries 3 and 6). -/
def onArrival (k : Byte) (r : Rec) (f : Rec → State → State) (s : State) : State :=
  if s.recordInFlight then f r (arriveAs k r s) else s

/-- A kind that names no command (R157). -/
def doBadKind (k : Byte) (s : State) : State := finish resBadKind (k.setWidth 32) s

/-- BAD_KIND: a record arrives whose kind names no command. A kind that names one is no BAD_KIND (log entry 3). -/
def badKindArrival (k : Byte) (r : Rec) (s : State) : State :=
  if kindNamed k then s else onArrival k r (fun _ => doBadKind k) s

/-- The command a kind code names (11_memory_resident_formats, Command record), carried out. -/
def runCommand (k : Byte) (r : Rec) (s : State) : State :=
  match k.toNat with
  | 1 => doOutputTiming r s
  | 2 => doOutputStart r s
  | 3 => doOutputStop r s
  | 4 => doPlaneSet r s
  | 5 => doPaletteLoad r s
  | 6 => doRampLoad r s
  | 7 => doMenuFade r s
  | 8 => doPaceSet r s
  | 9 => doFilmBuffers r s
  | 10 => doFilmPost r s
  | 11 => doFilmFlush r s
  | 12 => doFilmRoute r s
  | 13 => doFilmClock r s
  | 14 => doCameraSetup r s
  | 15 => doGammaLoad r s
  | 16 => doCameraEnable r s
  | 17 => doReverseSetup r s
  | 18 => doGuideSetup r s
  | 19 => doChimeTable r s
  | 20 => doChimePlay r s
  | 21 => doChimeCancel r s
  | 22 => doProximitySetup r s
  | 23 => doGuardSetup r s
  | 24 => doArbProfile r s
  | 25 => doSampleSetup r s
  | 26 => doSoftRestart r s
  | 27 => doEventSetup r s
  | _ => doBadKind k s

/-- The record read at C has arrived (R157). -/
def recordArrives (ws : List Word) (s : State) : State :=
  let c := commandOf ws
  runCommand c.kind c.fields (arriveAs c.kind c.fields s)

/-- The words of the last burst of the command's read, if that burst is in progress. -/
def State.lastTable (s : State) : Option (List Word) :=
  if s.cmu.st = .executing then
    match s.burst with
    | some (.table ws true) => some (s.cmu.data ++ ws)
    | _ => none
  else none

/-- The last word of the read of a command of kind `k` arrives, and `f` does what its rule says of what was read (R158). -/
def onReadEnd (k : Byte) (f : List Word → State → State) (s : State) : State :=
  if s.cmu.cmd.kind = k then
    match s.lastTable with
    | some ws => f ws (markEnded s)
    | none => s
  else s

/-- What the rule of each command that reads memory says of what was read (R158). -/
def readEnds (s : State) : State :=
  match s.cmu.cmd.kind.toNat with
  | 5 => onReadEnd 5 paletteRead s
  | 6 => onReadEnd 6 rampRead s
  | 9 => onReadEnd 9 filmTableRead s
  | 14 => onReadEnd 14 cameraRead s
  | 15 => onReadEnd 15 gammaRead s
  | 18 => onReadEnd 18 guideRead s
  | 19 => onReadEnd 19 chimeTableRead s
  | 22 => onReadEnd 22 proximityRead s
  | 23 => onReadEnd 23 guardRead s
  | _ => s

/-- A burst of the command's read that is not its last has arrived (R158). -/
def tableWordsArrive (ws : List Word) (s : State) : State :=
  markEnded { s with cmu := { s.cmu with data := s.cmu.data ++ ws, plan := s.cmu.plan.tail } }

/-- The result words of the record at C have been written: the record is consumed (R160). -/
def consume (s : State) : State :=
  match s.burst with
  | some (.result ws) =>
    let i := s.cmu.c
    let m := s.cmu
    let s := markEnded { s with mem := writeWords s.mem s.burstAddr ws, cmu := { m with c := i + 1 } }
    let s := raiseIf (decide (m.code ≠ resDone ∧ m.code ≠ resMerged)) .cmdError (i.setWidth 32) m.code s
    let s := raiseIf m.cmd.fields.notify .cmdDone (i.setWidth 32) m.code s
    takeRecord s
  | _ => s

/-- What the end of the burst in progress brings about, whatever it carries (R138). -/
def burstOver (s : State) : State :=
  match s.burst with
  | none => s
  | some (.procRead _) => readOver s
  | some .procWrite => writeOver s
  | some (.line _ _ _ _ _ _) => lineOver s
  | some (.pixels _) => pixelsOver s
  | some (.trailer second _) => if second then trailerOver s else trailerHalfOver s
  | some (.event _) => recordOver s
  | some (.record ws) => recordArrives ws s
  | some (.table ws last) => if last then readEnds s else tableWordsArrive ws s
  | some (.result _) => consume s
  | some (.status k _) => if k < 23 then statusBlockOver s else statusOver s

/-- A grant ends: what its end brings about, if that has not been made, and then the decision (R138, R141). -/
def doGrantEnd (s : State) : State :=
  match s.fma.memory with
  | .data _ => decideAtEnd (burstOver s)
  | .refresh => decideAtEnd s
  | .notReady | .idle => s

end Sys2Proof.Machine
end

