-- ==== Sys2Proof/Machine/ExecCommands.lean ====
section
/-! DEFINITION. The meanings of BAD_KIND, of the 27 commands at the arrival of their record, and of the ends of their reads. -/

namespace Sys2Proof.Machine

/-- BAD_KIND (R157): the arrival of a record whose kind names no command; a kind that names one is no BAD_KIND (log entry 3). -/
def execBadKind (kind : Byte) (r : Rec) (s : State) : Host.Outcome State Fault Refusal :=
  live (badKindArrival kind r) s

/-- OUTPUT_TIMING (R1): its record has arrived. -/
def execOutputTiming (r : Rec) (s : State) : Host.Outcome State Fault Refusal :=
  live (onArrival 1 r doOutputTiming) s

/-- OUTPUT_START (R3): its record has arrived. -/
def execOutputStart (r : Rec) (s : State) : Host.Outcome State Fault Refusal :=
  live (onArrival 2 r doOutputStart) s

/-- OUTPUT_STOP (R4): its record has arrived. -/
def execOutputStop (r : Rec) (s : State) : Host.Outcome State Fault Refusal :=
  live (onArrival 3 r doOutputStop) s

/-- PLANE_SET (R7): its record has arrived. -/
def execPlaneSet (r : Rec) (s : State) : Host.Outcome State Fault Refusal :=
  live (onArrival 4 r doPlaneSet) s

/-- PALETTE_LOAD (R18): its record has arrived. -/
def execPaletteLoad (r : Rec) (s : State) : Host.Outcome State Fault Refusal :=
  live (onArrival 5 r doPaletteLoad) s

/-- PALETTE_LOAD_READ_END (R18). -/
def execPaletteLoadReadEnd (s : State) : Host.Outcome State Fault Refusal :=
  liveBurst (onReadEnd 5 paletteRead) s

/-- RAMP_LOAD (R19): its record has arrived. -/
def execRampLoad (r : Rec) (s : State) : Host.Outcome State Fault Refusal :=
  live (onArrival 6 r doRampLoad) s

/-- RAMP_LOAD_READ_END (R19). -/
def execRampLoadReadEnd (s : State) : Host.Outcome State Fault Refusal :=
  liveBurst (onReadEnd 6 rampRead) s

/-- MENU_FADE (R20): its record has arrived. -/
def execMenuFade (r : Rec) (s : State) : Host.Outcome State Fault Refusal :=
  live (onArrival 7 r doMenuFade) s

/-- PACE_SET (R22): its record has arrived. -/
def execPaceSet (r : Rec) (s : State) : Host.Outcome State Fault Refusal :=
  live (onArrival 8 r doPaceSet) s

/-- FILM_BUFFERS (R26): its record has arrived. -/
def execFilmBuffers (r : Rec) (s : State) : Host.Outcome State Fault Refusal :=
  live (onArrival 9 r doFilmBuffers) s

/-- FILM_BUFFERS_READ_END (R26). -/
def execFilmBuffersReadEnd (s : State) : Host.Outcome State Fault Refusal :=
  liveBurst (onReadEnd 9 filmTableRead) s

/-- FILM_POST (R30): its record has arrived. -/
def execFilmPost (r : Rec) (s : State) : Host.Outcome State Fault Refusal :=
  live (onArrival 10 r doFilmPost) s

/-- FILM_FLUSH (R36): its record has arrived. -/
def execFilmFlush (r : Rec) (s : State) : Host.Outcome State Fault Refusal :=
  live (onArrival 11 r doFilmFlush) s

/-- FILM_ROUTE (R31): its record has arrived. -/
def execFilmRoute (r : Rec) (s : State) : Host.Outcome State Fault Refusal :=
  live (onArrival 12 r doFilmRoute) s

/-- FILM_CLOCK (R28): its record has arrived. -/
def execFilmClock (r : Rec) (s : State) : Host.Outcome State Fault Refusal :=
  live (onArrival 13 r doFilmClock) s

/-- CAMERA_SETUP (R43): its record has arrived. -/
def execCameraSetup (r : Rec) (s : State) : Host.Outcome State Fault Refusal :=
  live (onArrival 14 r doCameraSetup) s

/-- CAMERA_SETUP_READ_END (R43). -/
def execCameraSetupReadEnd (s : State) : Host.Outcome State Fault Refusal :=
  liveBurst (onReadEnd 14 cameraRead) s

/-- GAMMA_LOAD (R51): its record has arrived. -/
def execGammaLoad (r : Rec) (s : State) : Host.Outcome State Fault Refusal :=
  live (onArrival 15 r doGammaLoad) s

/-- GAMMA_LOAD_READ_END (R51). -/
def execGammaLoadReadEnd (s : State) : Host.Outcome State Fault Refusal :=
  liveBurst (onReadEnd 15 gammaRead) s

/-- CAMERA_ENABLE (R45): its record has arrived. -/
def execCameraEnable (r : Rec) (s : State) : Host.Outcome State Fault Refusal :=
  live (onArrival 16 r doCameraEnable) s

/-- REVERSE_SETUP (R62, R63): its record has arrived. -/
def execReverseSetup (r : Rec) (s : State) : Host.Outcome State Fault Refusal :=
  live (onArrival 17 r doReverseSetup) s

/-- GUIDE_SETUP (R82): its record has arrived. -/
def execGuideSetup (r : Rec) (s : State) : Host.Outcome State Fault Refusal :=
  live (onArrival 18 r doGuideSetup) s

/-- GUIDE_SETUP_READ_END (R82). -/
def execGuideSetupReadEnd (s : State) : Host.Outcome State Fault Refusal :=
  liveBurst (onReadEnd 18 guideRead) s

/-- CHIME_TABLE (R102): its record has arrived. -/
def execChimeTable (r : Rec) (s : State) : Host.Outcome State Fault Refusal :=
  live (onArrival 19 r doChimeTable) s

/-- CHIME_TABLE_READ_END (R102, R103). -/
def execChimeTableReadEnd (s : State) : Host.Outcome State Fault Refusal :=
  liveBurst (onReadEnd 19 chimeTableRead) s

/-- CHIME_PLAY (R105): its record has arrived. -/
def execChimePlay (r : Rec) (s : State) : Host.Outcome State Fault Refusal :=
  live (onArrival 20 r doChimePlay) s

/-- CHIME_CANCEL (R110): its record has arrived. -/
def execChimeCancel (r : Rec) (s : State) : Host.Outcome State Fault Refusal :=
  live (onArrival 21 r doChimeCancel) s

/-- PROXIMITY_SETUP (R116): its record has arrived. -/
def execProximitySetup (r : Rec) (s : State) : Host.Outcome State Fault Refusal :=
  live (onArrival 22 r doProximitySetup) s

/-- PROXIMITY_SETUP_READ_END (R116). -/
def execProximitySetupReadEnd (s : State) : Host.Outcome State Fault Refusal :=
  liveBurst (onReadEnd 22 proximityRead) s

/-- GUARD_SETUP (R127): its record has arrived. -/
def execGuardSetup (r : Rec) (s : State) : Host.Outcome State Fault Refusal :=
  live (onArrival 23 r doGuardSetup) s

/-- GUARD_SETUP_READ_END (R128). -/
def execGuardSetupReadEnd (s : State) : Host.Outcome State Fault Refusal :=
  liveBurst (onReadEnd 23 guardRead) s

/-- ARB_PROFILE (R145): its record has arrived. -/
def execArbProfile (r : Rec) (s : State) : Host.Outcome State Fault Refusal :=
  live (onArrival 24 r doArbProfile) s

/-- SAMPLE_SETUP (R149): its record has arrived. -/
def execSampleSetup (r : Rec) (s : State) : Host.Outcome State Fault Refusal :=
  live (onArrival 25 r doSampleSetup) s

/-- SOFT_RESTART (R162): its record has arrived. -/
def execSoftRestart (r : Rec) (s : State) : Host.Outcome State Fault Refusal :=
  live (onArrival 26 r doSoftRestart) s

/-- EVENT_SETUP (R176): its record has arrived. -/
def execEventSetup (r : Rec) (s : State) : Host.Outcome State Fault Refusal :=
  live (onArrival 27 r doEventSetup) s

end Sys2Proof.Machine
end

