-- ==== Sys2Proof/Machine/Reset.lean ====
section
/-! DEFINITION. Resets, SDRAM start-up (R134 to R136, R138, R146) and the millisecond (R177). -/

namespace Sys2Proof.Machine

/-- POR (R135): every block reset, the straps sampled, the SDRAM's contents undefined (log entry 2) and its initialisation due. It
begins at once, and at the release where RESET_N is asserted (DESIGN CHOICE, log entry 40); a request that waits is dropped
(DESIGN CHOICE, log entry 41). -/
def doPor (memsz : Bool) (caSel : BitVec 4) (s : State) : State :=
  { State.blocksReset (if s.phase = .held then .held else .init) ⟨memsz, caSel⟩ [] s.rvc.rev s.links.rl.level s.links.rr.level none
      s.free s.pending with initDue := true }

/-- The memory once the burst already granted has completed (R136). -/
def State.memAfterBurst (s : State) : List Host.Cell :=
  match s.burst with
  | some .procWrite =>
    match s.ppw.tx with
    | some q => writeCells s.mem (requestCells (requestAddr q) q.data)
    | none => s.mem
  | some (.pixels cells) => writeCells s.mem cells
  | some (.trailer _ ws) => writeWords s.mem s.burstAddr ws
  | some (.event ws) => writeWords s.mem s.burstAddr ws
  | some (.result ws) => writeWords s.mem s.burstAddr ws
  | some (.status _ ws) => writeWords s.mem s.burstAddr ws
  | some (.procRead _) | some (.line _ _ _ _ _ _) | some (.record _) | some (.table _ _) | none => s.mem

/-- RESET_N asserted (R136): the granted burst completes, the SDRAM keeps its contents, every block is reset. An initialisation of
the SDRAM still running is given up and stays due (DESIGN CHOICE, log entry 39). -/
def doResetAssert (s : State) : State :=
  if s.phase = .held then s
  else
    { State.blocksReset .held s.straps s.memAfterBurst s.rvc.rev s.links.rl.level s.links.rr.level s.ppw.waiting s.free s.pending with
      initDue := s.initDue }

/-- RESET_N released (R134, R136): the SDRAM leaves self-refresh, or is initialised where that is due (log entries 39 and 40). -/
def doResetRelease (memsz : Bool) (caSel : BitVec 4) (s : State) : State :=
  if s.phase = .held then
    State.blocksReset (if s.initDue then .init else .exit) ⟨memsz, caSel⟩ s.mem s.rvc.rev s.links.rl.level s.links.rr.level
      s.ppw.waiting s.free s.pending
  else s

/-- The memory is ready (R121, R135, R136, R138, R146): the port is FREE, the arbiter grants, the refresh timer runs, and a
request already presented is taken. -/
def memoryReady (s : State) : State :=
  let s := { s with phase := .run, initDue := false, ppw := { s.ppw with port := .free },
                    fma := { s.fma with memory := .idle, refreshOn := true } }
  match s.ppw.waiting with
  | none => s
  | some q => takeNow q s

def initOver (s : State) : State := if s.phase = .init then memoryReady s else s

def exitOver (s : State) : State := if s.phase = .exit then memoryReady s else s

/-- A running timer loses a millisecond; one that has none left stays due. -/
def tick (t : Option Nat) : Option Nat := t.map fun n => n - 1

/-- The media clock of a source (R27). -/
def Film.tick (held : Bool) (f : Film) : Film := if f.playing && !held then { f with clock := f.clock + 1 } else f

/-- A millisecond passes (R177): part time, the media clocks and every running timer. -/
def advanceMs (s : State) : State :=
  let h := s.filmHeld
  { s with
    time := s.time + 1
    fqu := { s.fqu with a := s.fqu.a.tick h, b := s.fqu.b.tick h }
    links := ⟨{ s.links.rl with timer := tick s.links.rl.timer }, { s.links.rr with timer := tick s.links.rr.timer }⟩
    ccu := { s.ccu with presenceTimer := tick s.ccu.presenceTimer }
    rvc := { s.rvc with revTimer := tick s.rvc.revTimer, engageTimer := tick s.rvc.engageTimer,
                        staleTimer := tick s.rvc.staleTimer, lingerTimer := tick s.rvc.lingerTimer }
    gde := { s.gde with steering := { s.gde.steering with timer := tick s.gde.steering.timer },
                        obstacle := { s.gde.obstacle with timer := tick s.gde.obstacle.timer } } }

/-- The expiries that are due. -/
def dueExpiries (s : State) : List (State → State) :=
  let timers : List (Option Nat × (State → State)) :=
    [(s.links.rl.timer, linkExpiry .rl), (s.links.rr.timer, linkExpiry .rr), (s.ccu.presenceTimer, presenceExpiry),
      (s.rvc.revTimer, revExpiry), (s.rvc.engageTimer, engageExpiry), (s.rvc.staleTimer, staleExpiry),
      (s.rvc.lingerTimer, lingerExpiry), (s.gde.steering.timer, steeringExpiry), (s.gde.obstacle.timer, obstacleExpiry)]
  (timers.filter fun x => decide (x.1 = some 0)).map Prod.snd

/-- Expiries of one millisecond, at most `n`, one after another in a free order (log entry 9). Each acts if it is still due. -/
def serveExpiries : Nat → List (State → State) → State → State
  | 0, _, s => s
  | _, [], s => s
  | _, [f], s => f s
  | n + 1, f :: g :: fs, s =>
    let all := f :: g :: fs
    let k := Config.expiryNext s.free % all.length
    serveExpiries n (all.eraseIdx k) (all.getD k f { s with free := s.free + 1 })

/-- The expiries that are still due when the next millisecond comes (log entry 9). -/
def expireDue (s : State) : State := serveExpiries (dueExpiries s).length (dueExpiries s) s

/-- PART_TIME_TICK. -/
def doTick (s : State) : State := advanceMs (expireDue s)

/-- REV has a level now (R60): a change restarts the stability timer. -/
def doRevChange (level : Bool) (s : State) : State :=
  if s.rvc.rev = level then s else s.setRvc { s.rvc with rev := level, revTimer := some Config.revMs }

end Sys2Proof.Machine
end

