-- ==== Sys2Proof/Machine/ExecEvents.lean ====
section
/-! DEFINITION. The meanings of the rows of frames and lines, presence, the camera, the reverse controller, the guide engine, the refresh
timer and the voices. -/

namespace Sys2Proof.Machine

/-- FRAME_START (R2, R5, R8). -/
def execFrameStart (o : Output) (s : State) : Host.Outcome State Fault Refusal :=
  live (doFrameStart o) s

/-- LINE_START (R13). -/
def execLineStart (o : Output) (s : State) : Host.Outcome State Fault Refusal :=
  live (doLineStart o) s

/-- LINE_COMPLETE (R11): the last burst of a line. -/
def execLineComplete (s : State) : Host.Outcome State Fault Refusal :=
  liveBurst lastLineOver s

/-- FRAME_END (R2, R4, R14). -/
def execFrameEnd (o : Output) (s : State) : Host.Outcome State Fault Refusal :=
  live (doFrameEnd o) s

/-- LINK_CHANGE (R23): the level on a pin, which it keeps while the part is held in reset. -/
def execLinkChange (o : Rear) (level : Bool) (s : State) : Host.Outcome State Fault Refusal :=
  .next (settle (doLinkChange o level s))

/-- LINK_TIMER_EXPIRY (R23). -/
def execLinkTimerExpiry (o : Rear) (s : State) : Host.Outcome State Fault Refusal :=
  live (linkExpiry o) s

/-- HS_EDGE (R40). -/
def execHsEdge (clocks : Nat) (s : State) : Host.Outcome State Fault Refusal :=
  live (doHsEdge clocks) s

/-- CAMERA_SAMPLE (R48). -/
def execCameraSample (chroma y : Byte) (s : State) : Host.Outcome State Fault Refusal :=
  live (doCameraSample chroma y) s

/-- VS_EDGE (R41). -/
def execVsEdge (clocks : Nat) (s : State) : Host.Outcome State Fault Refusal :=
  live (doVsEdge clocks) s

/-- CAM_PRESENCE_TIMER_EXPIRY (R42). -/
def execCamPresenceTimerExpiry (s : State) : Host.Outcome State Fault Refusal :=
  live presenceExpiry s

/-- TRAILER_WRITE_COMPLETE (R56). -/
def execTrailerWriteComplete (s : State) : Host.Outcome State Fault Refusal :=
  liveBurst trailerOver s

/-- REV_CHANGE (R60): the level on a pin, which it keeps while the part is held in reset. -/
def execRevChange (level : Bool) (s : State) : Host.Outcome State Fault Refusal :=
  .next (settle (doRevChange level s))

/-- REV_TIMER_EXPIRY (R60). -/
def execRevTimerExpiry (s : State) : Host.Outcome State Fault Refusal :=
  live revExpiry s

/-- ENGAGE_TIMER_EXPIRY (R67). -/
def execEngageTimerExpiry (s : State) : Host.Outcome State Fault Refusal :=
  live engageExpiry s

/-- STALE_TIMER_EXPIRY (R68). -/
def execStaleTimerExpiry (s : State) : Host.Outcome State Fault Refusal :=
  live staleExpiry s

/-- LINGER_TIMER_EXPIRY (R70). -/
def execLingerTimerExpiry (s : State) : Host.Outcome State Fault Refusal :=
  live lingerExpiry s

/-- STEERING_STALE_TIMER_EXPIRY (R81). -/
def execSteeringStaleTimerExpiry (s : State) : Host.Outcome State Fault Refusal :=
  live steeringExpiry s

/-- OBSTACLE_STALE_TIMER_EXPIRY (R81). -/
def execObstacleStaleTimerExpiry (s : State) : Host.Outcome State Fault Refusal :=
  live obstacleExpiry s

/-- RECOMPUTE_COMPLETION (R89). -/
def execRecomputeCompletion (s : State) : Host.Outcome State Fault Refusal :=
  live recomputeOver s

/-- REFRESH_TIMER_EXPIRY (R146). -/
def execRefreshTimerExpiry (s : State) : Host.Outcome State Fault Refusal :=
  live refreshTick s

/-- LINE_SAMPLE (R114). -/
def execLineSample (s : State) : Host.Outcome State Fault Refusal :=
  live doLineSample s

/-- NOTE_END (R108). -/
def execNoteEnd (s : State) : Host.Outcome State Fault Refusal :=
  live noteOver s

/-- GAP_END (R108). -/
def execGapEnd (s : State) : Host.Outcome State Fault Refusal :=
  live gapOver s

/-- CHIME_FINISH (R109). -/
def execChimeFinish (s : State) : Host.Outcome State Fault Refusal :=
  live chimeFinish s

/-- CANCEL_RELEASE_END (R111). -/
def execCancelReleaseEnd (s : State) : Host.Outcome State Fault Refusal :=
  live releaseOver s

/-- BEEP_END (R118). -/
def execBeepEnd (s : State) : Host.Outcome State Fault Refusal :=
  live beepOver s

/-- PROXIMITY_GAP_END (R118). -/
def execProximityGapEnd (s : State) : Host.Outcome State Fault Refusal :=
  live proximityGapOver s

/-- TONE_RELEASE_END (R118). -/
def execToneReleaseEnd (s : State) : Host.Outcome State Fault Refusal :=
  live toneReleaseOver s

end Sys2Proof.Machine
end

