-- ==== Sys2Proof/Machine/ExecSystem.lean ====
section
/-! DEFINITION. The meanings of the rows of reset and time, the memory path, the watched words, the arbiter, status and events. Each is
one effect under `live` or `liveBurst`, except what comes about while RESET_N is asserted too. The rows of single watched words make
their take at any moment outside reset, with no write in progress and no change of the SDRAM (DESIGN CHOICE, log entry 34). -/

namespace Sys2Proof.Machine

/-- POR (R135). -/
def execPor (memsz : Bool) (caSel : BitVec 4) (s : State) : Host.Outcome State Fault Refusal :=
  .next (settle (doPor memsz caSel s))

/-- SDRAM_INIT_COMPLETE (R135). -/
def execSdramInitComplete (s : State) : Host.Outcome State Fault Refusal :=
  live initOver s

/-- RESET_N_ASSERT (R136): the burst already granted completes first. -/
def execResetNAssert (s : State) : Host.Outcome State Fault Refusal :=
  if s.phase ≠ .held ∧ s.burstInside = false then .fault (.beyondMemory s.burstAddr) else .next (doResetAssert s)

/-- RESET_N_RELEASE (R134, R136). -/
def execResetNRelease (memsz : Bool) (caSel : BitVec 4) (s : State) : Host.Outcome State Fault Refusal :=
  .next (doResetRelease memsz caSel s)

/-- SELF_REFRESH_EXIT (R136). -/
def execSelfRefreshExit (s : State) : Host.Outcome State Fault Refusal :=
  live exitOver s

/-- PART_TIME_TICK (R177). -/
def execPartTimeTick (s : State) : Host.Outcome State Fault Refusal :=
  live doTick s

/-- TAKE (R121, R122): a request stays presented while the part is held in reset (log entry 25). -/
def execTake (q : Request) (s : State) : Host.Outcome State Fault Refusal :=
  .next (settle (doTake q s))

/-- PROC_READ_COMPLETION (R124). -/
def execProcReadCompletion (s : State) : Host.Outcome State Fault Refusal :=
  liveBurst readOver s

/-- PROC_WRITE_COMPLETION (R125, R132). -/
def execProcWriteCompletion (s : State) : Host.Outcome State Fault Refusal :=
  liveBurst writeOver s

/-- CMD_POST (R155): the take alone (DESIGN CHOICE, log entry 34). -/
def execCmdPost (v : Word) (s : State) : Host.Outcome State Fault Refusal :=
  live (takeCmdPost v) s

/-- EVT_ACK (R171): the take alone (DESIGN CHOICE, log entry 34). -/
def execEvtAck (v : Word) (s : State) : Host.Outcome State Fault Refusal :=
  live (takeEvtAck v) s

/-- PEND_CLR_0 and PEND_CLR_1 (R172): the take alone (DESIGN CHOICE, log entry 34). -/
def execPendClr (second : Bool) (v : Word) (s : State) : Host.Outcome State Fault Refusal :=
  live (takePendClr second v) s

/-- OCC_CLR_0 and OCC_CLR_1 (R173): the take alone (DESIGN CHOICE, log entry 34). -/
def execOccClr (second : Bool) (v : Word) (s : State) : Host.Outcome State Fault Refusal :=
  live (takeOccClr second v) s

/-- STEER (R79): the take alone (DESIGN CHOICE, log entry 34). -/
def execSteer (v : Word) (s : State) : Host.Outcome State Fault Refusal :=
  live (takeSteerWord v) s

/-- OBSTACLE (R80): the take alone (DESIGN CHOICE, log entry 34). -/
def execObstacle (v : Word) (s : State) : Host.Outcome State Fault Refusal :=
  live (takeObstacleWord v) s

/-- VEHICLE (R61): the take alone (DESIGN CHOICE, log entry 34). -/
def execVehicle (v : Word) (s : State) : Host.Outcome State Fault Refusal :=
  live (takeVehicle v) s

/-- SAMPLE_CLR (R152): the take alone (DESIGN CHOICE, log entry 34). -/
def execSampleClr (v : Word) (s : State) : Host.Outcome State Fault Refusal :=
  live (takeSampleClrWord v) s

/-- GRANT_END (R138, R141). -/
def execGrantEnd (s : State) : Host.Outcome State Fault Refusal :=
  liveBurst doGrantEnd s

/-- STATUS_WRITE_END (R165). -/
def execStatusWriteEnd (s : State) : Host.Outcome State Fault Refusal :=
  liveBurst statusOver s

/-- EVENT_RECORD_WRITTEN (R169). -/
def execEventRecordWritten (s : State) : Host.Outcome State Fault Refusal :=
  liveBurst recordOver s

/-- CONSUMPTION (R160). -/
def execConsumption (s : State) : Host.Outcome State Fault Refusal :=
  liveBurst consume s

end Sys2Proof.Machine
end

