-- ==== Sys2Proof/Machine/Dispatch.lean ====
section
/-! DEFINITION. The meaning of each command: one arm for each row of spec/opcode_table.json. -/

namespace Sys2Proof.Machine

def exec (i : Instr) (s : State) : Host.Outcome State Fault Refusal :=
  match i with
  | .por memsz caSel => Sys2Proof.Machine.execPor memsz caSel s
  | .sdramInitComplete => Sys2Proof.Machine.execSdramInitComplete s
  | .resetNAssert => Sys2Proof.Machine.execResetNAssert s
  | .resetNRelease memsz caSel => Sys2Proof.Machine.execResetNRelease memsz caSel s
  | .selfRefreshExit => Sys2Proof.Machine.execSelfRefreshExit s
  | .partTimeTick => Sys2Proof.Machine.execPartTimeTick s
  | .take q => Sys2Proof.Machine.execTake q s
  | .procReadCompletion => Sys2Proof.Machine.execProcReadCompletion s
  | .procWriteCompletion => Sys2Proof.Machine.execProcWriteCompletion s
  | .cmdPost v => Sys2Proof.Machine.execCmdPost v s
  | .evtAck v => Sys2Proof.Machine.execEvtAck v s
  | .pendClr second v => Sys2Proof.Machine.execPendClr second v s
  | .occClr second v => Sys2Proof.Machine.execOccClr second v s
  | .steer v => Sys2Proof.Machine.execSteer v s
  | .obstacle v => Sys2Proof.Machine.execObstacle v s
  | .vehicle v => Sys2Proof.Machine.execVehicle v s
  | .sampleClr v => Sys2Proof.Machine.execSampleClr v s
  | .grantEnd => Sys2Proof.Machine.execGrantEnd s
  | .statusWriteEnd => Sys2Proof.Machine.execStatusWriteEnd s
  | .eventRecordWritten => Sys2Proof.Machine.execEventRecordWritten s
  | .consumption => Sys2Proof.Machine.execConsumption s
  | .badKind kind r => Sys2Proof.Machine.execBadKind kind r s
  | .outputTiming r => Sys2Proof.Machine.execOutputTiming r s
  | .outputStart r => Sys2Proof.Machine.execOutputStart r s
  | .outputStop r => Sys2Proof.Machine.execOutputStop r s
  | .planeSet r => Sys2Proof.Machine.execPlaneSet r s
  | .paletteLoad r => Sys2Proof.Machine.execPaletteLoad r s
  | .paletteLoadReadEnd => Sys2Proof.Machine.execPaletteLoadReadEnd s
  | .rampLoad r => Sys2Proof.Machine.execRampLoad r s
  | .rampLoadReadEnd => Sys2Proof.Machine.execRampLoadReadEnd s
  | .menuFade r => Sys2Proof.Machine.execMenuFade r s
  | .paceSet r => Sys2Proof.Machine.execPaceSet r s
  | .filmBuffers r => Sys2Proof.Machine.execFilmBuffers r s
  | .filmBuffersReadEnd => Sys2Proof.Machine.execFilmBuffersReadEnd s
  | .filmPost r => Sys2Proof.Machine.execFilmPost r s
  | .filmFlush r => Sys2Proof.Machine.execFilmFlush r s
  | .filmRoute r => Sys2Proof.Machine.execFilmRoute r s
  | .filmClock r => Sys2Proof.Machine.execFilmClock r s
  | .cameraSetup r => Sys2Proof.Machine.execCameraSetup r s
  | .cameraSetupReadEnd => Sys2Proof.Machine.execCameraSetupReadEnd s
  | .gammaLoad r => Sys2Proof.Machine.execGammaLoad r s
  | .gammaLoadReadEnd => Sys2Proof.Machine.execGammaLoadReadEnd s
  | .cameraEnable r => Sys2Proof.Machine.execCameraEnable r s
  | .reverseSetup r => Sys2Proof.Machine.execReverseSetup r s
  | .guideSetup r => Sys2Proof.Machine.execGuideSetup r s
  | .guideSetupReadEnd => Sys2Proof.Machine.execGuideSetupReadEnd s
  | .chimeTable r => Sys2Proof.Machine.execChimeTable r s
  | .chimeTableReadEnd => Sys2Proof.Machine.execChimeTableReadEnd s
  | .chimePlay r => Sys2Proof.Machine.execChimePlay r s
  | .chimeCancel r => Sys2Proof.Machine.execChimeCancel r s
  | .proximitySetup r => Sys2Proof.Machine.execProximitySetup r s
  | .proximitySetupReadEnd => Sys2Proof.Machine.execProximitySetupReadEnd s
  | .guardSetup r => Sys2Proof.Machine.execGuardSetup r s
  | .guardSetupReadEnd => Sys2Proof.Machine.execGuardSetupReadEnd s
  | .arbProfile r => Sys2Proof.Machine.execArbProfile r s
  | .sampleSetup r => Sys2Proof.Machine.execSampleSetup r s
  | .softRestart r => Sys2Proof.Machine.execSoftRestart r s
  | .eventSetup r => Sys2Proof.Machine.execEventSetup r s
  | .frameStart o => Sys2Proof.Machine.execFrameStart o s
  | .lineStart o => Sys2Proof.Machine.execLineStart o s
  | .lineComplete => Sys2Proof.Machine.execLineComplete s
  | .frameEnd o => Sys2Proof.Machine.execFrameEnd o s
  | .linkChange o level => Sys2Proof.Machine.execLinkChange o level s
  | .linkTimerExpiry o => Sys2Proof.Machine.execLinkTimerExpiry o s
  | .hsEdge clocks => Sys2Proof.Machine.execHsEdge clocks s
  | .cameraSample chroma y => Sys2Proof.Machine.execCameraSample chroma y s
  | .vsEdge clocks => Sys2Proof.Machine.execVsEdge clocks s
  | .camPresenceTimerExpiry => Sys2Proof.Machine.execCamPresenceTimerExpiry s
  | .trailerWriteComplete => Sys2Proof.Machine.execTrailerWriteComplete s
  | .revChange level => Sys2Proof.Machine.execRevChange level s
  | .revTimerExpiry => Sys2Proof.Machine.execRevTimerExpiry s
  | .engageTimerExpiry => Sys2Proof.Machine.execEngageTimerExpiry s
  | .staleTimerExpiry => Sys2Proof.Machine.execStaleTimerExpiry s
  | .lingerTimerExpiry => Sys2Proof.Machine.execLingerTimerExpiry s
  | .steeringStaleTimerExpiry => Sys2Proof.Machine.execSteeringStaleTimerExpiry s
  | .obstacleStaleTimerExpiry => Sys2Proof.Machine.execObstacleStaleTimerExpiry s
  | .recomputeCompletion => Sys2Proof.Machine.execRecomputeCompletion s
  | .refreshTimerExpiry => Sys2Proof.Machine.execRefreshTimerExpiry s
  | .lineSample => Sys2Proof.Machine.execLineSample s
  | .noteEnd => Sys2Proof.Machine.execNoteEnd s
  | .gapEnd => Sys2Proof.Machine.execGapEnd s
  | .chimeFinish => Sys2Proof.Machine.execChimeFinish s
  | .cancelReleaseEnd => Sys2Proof.Machine.execCancelReleaseEnd s
  | .beepEnd => Sys2Proof.Machine.execBeepEnd s
  | .proximityGapEnd => Sys2Proof.Machine.execProximityGapEnd s
  | .toneReleaseEnd => Sys2Proof.Machine.execToneReleaseEnd s

end Sys2Proof.Machine
end

