-- ==== Sys2Proof/Machine/Pins.lean ====
section
/-! DEFINITION. The levels on the pins, computed from the state (R2, R4, R115, R121, R181): no step of the part changes a pin by
itself. A display output's clock and line, and the chime output's bit, are arguments, for no command counts them
(log entry 23). ATTN_N and ALERT_N are held in the state. -/

namespace Sys2Proof.Machine

/-- What a display output drives: data-enable, HS, VS and the RGB lines. -/
structure OutputPins where
  de : Bool
  hs : Bool
  vs : Bool
  rgb : Rgb
deriving DecidableEq, Repr

/-- The level of a sync of the given polarity (R2): true is high. -/
def syncLevel (high asserted : Bool) : Bool := asserted == high

/-- HS is asserted for 32 pixel clocks from the 16th of a line's blank on (R2); clocks are numbered from 0. -/
def hsAsserted (clock : Nat) : Bool := decide (15 ≤ clock) && decide (clock < 47)

/-- VS is asserted during blank lines 1 and 2 (R2). -/
def vsAsserted (line : Nat) : Bool := decide (line = 1) || decide (line = 2)

/-- The clock lies in the active part of an active line (R2). -/
def Timing.activeAt (t : Timing) (line clock : Nat) : Bool := decide (t.vb ≤ line) && decide (t.hb ≤ clock)

/-- The pins of a display output at a clock of a line of its frame; an active line is the row in progress (R2, R4, R181). -/
def State.outputPins (s : State) (o : Output) (line clock : Nat) : OutputPins :=
  match (s.scan o).timing, (s.scan o).st with
  | none, _ => ⟨false, false, false, 0⟩
  | some t, .stopped => ⟨false, syncLevel t.hsHigh false, syncLevel t.vsHigh false, 0⟩
  | some t, .running | some t, .stopping =>
    ⟨t.activeAt line clock, syncLevel t.hsHigh (hsAsserted clock), syncLevel t.vsHigh (vsAsserted line),
      if t.activeAt line clock then (s.scan o).pixels.getD (clock - t.hb) 0 else 0⟩

/-- What the chime output drives: bit clock, word select and data. -/
structure AudioPins where
  bitClock : Bool
  wordSelect : Bool
  data : Bool
deriving DecidableEq, Repr

/-- Bit `k` of the 48 kHz frame (R115): each slot's value begins one bit clock after the change of word select, most significant
bit first, so bit 0 ends the right slot of the frame before. -/
def frameBit (line lineBefore : Int) (k : Nat) : Bool :=
  if k = 0 then (BitVec.ofInt 16 lineBefore).getLsbD 0 else (BitVec.ofInt 16 line).getLsbD (15 - (k - 1) % 16)

/-- The pins of the chime output at bit `k`, 0 to 31, in the half of the bit clock that is high or low: data changes on the falling
edge and is valid at the rising edge (R115). All are held low while RESET_N is asserted. -/
def State.audioPins (s : State) (k : Nat) (high : Bool) : AudioPins :=
  if s.phase = .held then ⟨false, false, false⟩
  else ⟨high, decide (16 ≤ k), frameBit s.chu.line s.chu.lineBefore k⟩

/-- The wait line is asserted (R121, R181): from a request's presentation to its completion, and while RESET_N is asserted. -/
def State.waitAsserted (s : State) : Bool := decide (s.phase = .held) || s.ppw.waiting.isSome || decide (s.ppw.port = .pending)

end Sys2Proof.Machine
end

