-- ==== Sys2Proof/Safety.lean ====
section
/-! DEFINITION. The terms in which claims are made: what the arbiter's decision at the end of a step may still change, a command
that completes or begins its read as its record arrives, and the invariants of the part. -/

namespace Sys2Proof.Safety

open Sys2Proof.Machine

/-- `t` is `u` after the arbiter's part of a step (R141, R143): nothing but the memory's holder, the wait counts, the sampling
monitor's measurements of a tagged transaction, the refreshes owed, the bytes CAPT takes with a grant and the status write SERV
begins with one. Where the memory was IDLE it stays so, refreshes, or carries the burst of a client that requests; where it was
not, nothing but wait counts changes. -/
structure Decided (u t : State) : Prop where
  phase : t.phase = u.phase
  initDue : t.initDue = u.initDue
  straps : t.straps = u.straps
  time : t.time = u.time
  mem : t.mem = u.mem
  ppw : t.ppw = u.ppw
  cmu : t.cmu = u.cmu
  seu : t.seu = { u.seu with dirty := t.seu.dirty, generation := t.seu.generation, writing := t.seu.writing }
  scn : t.scn = u.scn
  menu : t.menu = u.menu
  links : t.links = u.links
  layout : t.layout = u.layout
  fqu : t.fqu = u.fqu
  ccu : t.ccu = { u.ccu with buffer := t.ccu.buffer }
  rvc : t.rvc = u.rvc
  gde : t.gde = u.gde
  chu : t.chu = u.chu
  pending : t.pending = u.pending
  normal : t.fma.normal = u.fma.normal
  reverse : t.fma.reverse = u.fma.reverse
  refreshOn : t.fma.refreshOn = u.fma.refreshOn
  owed : t.fma.owed ≤ u.fma.owed
  mon : t.fma.mon = { u.fma.mon with tag := t.fma.mon.tag }
  holder : u.fma.memory = .idle → t.fma.memory = .idle ∨ t.fma.memory = .refresh ∨
    ∃ c, u.requests c = true ∧ t.fma.memory = (carryBurst c u).fma.memory
  quiet : u.fma.memory ≠ .idle → t = { u with fma := { u.fma with waits := t.fma.waits } }

/-- A step of the part answers a next state that is `u` but for the arbiter's part. -/
def Answers (i : Instr) (s u : State) : Prop := ∃ t, exec i s = .next t ∧ Decided u t

/-- The events' state of `t` is that of `s` after the raises, but for what the arbiter's part may change (R167). -/
def Raises (rs : List Raise) (s t : State) : Prop :=
  t.seu = { (raiseAll rs s).seu with dirty := t.seu.dirty, generation := t.seu.generation, writing := t.seu.writing }

/-- The record of kind `k` arrives and the command it names can be carried out: the part is not held in reset and the read of
the record at C is in progress (R157). -/
def Arrives (s : State) : Prop := s.phase ≠ .held ∧ s.recordInFlight = true

/-- The state in which a command completes as its record arrives, on top of what else it did (R157): the record's fields
copied, its result decided, the CMU WRITING, status-dirty set. -/
def completed (k : Byte) (r : Rec) (code detail : Word) (s : State) : State :=
  finish code detail (arriveAs k r s)

/-- The state in which a command begins its read as its record arrives (R157, R158). -/
def reads (k : Byte) (r : Rec) (plan : List (Nat × Nat)) (s : State) : State := beginRead plan (arriveAs k r s)

/-- The row that names the arrival of a record of kind `k` (11_memory_resident_formats, Command record). -/
def rowOfRecord (k : Byte) (r : Rec) : Instr :=
  match k.toNat with
  | 1 => .outputTiming r
  | 2 => .outputStart r
  | 3 => .outputStop r
  | 4 => .planeSet r
  | 5 => .paletteLoad r
  | 6 => .rampLoad r
  | 7 => .menuFade r
  | 8 => .paceSet r
  | 9 => .filmBuffers r
  | 10 => .filmPost r
  | 11 => .filmFlush r
  | 12 => .filmRoute r
  | 13 => .filmClock r
  | 14 => .cameraSetup r
  | 15 => .gammaLoad r
  | 16 => .cameraEnable r
  | 17 => .reverseSetup r
  | 18 => .guideSetup r
  | 19 => .chimeTable r
  | 20 => .chimePlay r
  | 21 => .chimeCancel r
  | 22 => .proximitySetup r
  | 23 => .guardSetup r
  | 24 => .arbProfile r
  | 25 => .sampleSetup r
  | 26 => .softRestart r
  | 27 => .eventSetup r
  | _ => .badKind k r

/-- The row that names the end of the read of a command of kind `k`, for the kinds that read memory (R158). -/
def rowOfReadEnd (k : Byte) : Option Instr :=
  match k.toNat with
  | 5 => some .paletteLoadReadEnd
  | 6 => some .rampLoadReadEnd
  | 9 => some .filmBuffersReadEnd
  | 14 => some .cameraSetupReadEnd
  | 15 => some .gammaLoadReadEnd
  | 18 => some .guideSetupReadEnd
  | 19 => some .chimeTableReadEnd
  | 22 => some .proximitySetupReadEnd
  | 23 => some .guardSetupReadEnd
  | _ => none

/-- A table of `n` bytes at the address is 64-aligned and its end is not above the memory size (R161, SOURCE_ERR). -/
def SourceFits (s : State) (a : Word) (n : Nat) : Prop := a.toNat % 64 = 0 ∧ a.toNat + n ≤ s.memSize

/-- The last burst of the read of a command of kind `k` is in progress, and the whole of the data read is `ws`. -/
def ReadEnds (k : Byte) (ws : List Word) (s : State) : Prop :=
  s.phase ≠ .held ∧ s.burstInside = true ∧ s.cmu.cmd.kind = k ∧ s.lastTable = some ws

/-- No millisecond timer is due. -/
def TimersNotDue (s : State) : Prop :=
  (∀ o, (s.links.get o).timer ≠ some 0) ∧ s.ccu.presenceTimer ≠ some 0 ∧ s.rvc.revTimer ≠ some 0 ∧
    s.rvc.engageTimer ≠ some 0 ∧ s.rvc.staleTimer ≠ some 0 ∧ s.rvc.lingerTimer ≠ some 0 ∧
    s.gde.steering.timer ≠ some 0 ∧ s.gde.obstacle.timer ≠ some 0

/-! ### Invariants -/

/-- A pending kind has occurred (R167, R173). -/
def FlagsOk (s : State) : Prop := s.seu.pending &&& s.seu.occurred = s.seu.pending

/-- The two lines are as R174 and R175 say. -/
def LinesOk (s : State) : Prop := s.seu.attnN = !s.seu.attnAsserted ∧ s.seu.alertN = !s.seu.alertAsserted

/-- No wait count exceeds 31 (R143), and at most 8 refreshes are owed (R146). -/
def CountsOk (s : State) : Prop := (∀ c, s.fma.waits.get c ≤ 31) ∧ s.fma.owed ≤ 8

/-- A transaction is in progress at a PENDING port (R121, R122), and each data client stands in both profiles (R144). -/
def ClientsOk (s : State) : Prop :=
  (s.ppw.port = .pending → s.ppw.tx ≠ none) ∧ ∀ c, c ∈ s.fma.normal.order ∧ c ∈ s.fma.reverse.order

/-- A film queue holds at most 8 entries, no two of one buffer, due times non-decreasing from the oldest on (R30). -/
def FilmQueuesOk (s : State) : Prop :=
  ∀ src, (s.fqu.film src).queue.length ≤ 8 ∧ ((s.fqu.film src).queue.map FilmEntry.buf).Nodup ∧
    (s.fqu.film src).queue.Pairwise fun a b => a.due ≤ b.due

/-- The capture buffer holds at most 4096 pixel bytes (R52); at most one slot is SHOWN (R57); a frame is open only while capture
runs (R46), and a slot that is WRITING is the open frame's (R54, R55, R57). -/
def CaptureOk (s : State) : Prop :=
  pixelCount s.ccu.buffer ≤ 4096 ∧ (s.ccu.slots.countP fun x => decide (x.st = .shown)) ≤ 1 ∧
    (s.ccu.frame.isSome = true → s.capturing = true) ∧
    ∀ i : Nat, (s.ccu.slots[i]?).map Slot.st = some SlotState.writing → s.ccu.frame.bind OpenFrame.slot = some i

/-- The engage timer runs in ENGAGING alone (R67), the linger timer in LINGER alone (R69, R70); the stale timer runs in LIVE, and
elsewhere in LINGER at most (R68). -/
def ReverseTimersOk (s : State) : Prop :=
  (s.rvc.engageTimer.isSome = true ↔ s.rvc.st = .engaging) ∧ (s.rvc.lingerTimer.isSome = true ↔ s.rvc.st = .linger) ∧
    (s.rvc.st = .live → s.rvc.staleTimer.isSome = true) ∧
    (s.rvc.staleTimer.isSome = true → s.rvc.st = .live ∨ s.rvc.st = .linger)

/-- Each row of either bank holds at most 8 spans, and no span begins left of column 0 or lies above row 0 (R97, R98). -/
def BanksOk (s : State) : Prop :=
  ∀ b, b = s.gde.bank0 ∨ b = s.gde.bank1 →
    (∀ row, (rowSpans b row).length ≤ 8) ∧ ∀ sp ∈ b, 0 ≤ sp.row ∧ 0 ≤ sp.first

/-- The chime queue (R104): at most 16 entries of defined ids, none twice, priorities falling; while voice Q is not IDLE none
carries its id or a priority above its chime's, and while it is IDLE the queue is empty (R109). -/
def ChimesOk (s : State) : Prop :=
  let q := s.chu.queue
  let v := s.chu.q
  q.length ≤ 16 ∧ (q.map ChimeEntry.id).Nodup ∧ (q.Pairwise fun a b => s.chimePriority b.id ≤ s.chimePriority a.id) ∧
    (∀ e ∈ q, s.chimeDef e.id ≠ none) ∧ (v.st = .idle → q = []) ∧
    (v.st ≠ .idle → s.chimeDef v.id ≠ none ∧ ∀ e ∈ q, e.id ≠ v.id ∧ s.chimePriority e.id ≤ s.chimePriority v.id)

end Sys2Proof.Safety
end

