-- ==== Sys2Proof/Certificates/Slice0/Obligations.lean ====
section
/-! DEFINITION. The statements for the provers. `Answers c s u` says that the command `c` answers a next state at `s` which is `u`
but for the arbiter's part of the step; `Arrives s` that the record of the command arrives; `completed` and `reads` are the
states in which a command completes or begins its read (Safety.lean). -/

section

open Sys2Proof Sys2Proof.Machine Sys2Proof.Safety

/-- A step takes the command at the front of the queue and is `exec` of it on the state with the queue's rest. The other half is the
model's choice (log entry 5): on an empty queue the part idles. -/
def Obligations.StepTakesTheFront : Prop :=
  (∀ (i : Instr) (rest : List Instr) (s : State), s.pending = i :: rest → step s = exec i { s with pending := rest }) ∧
  ∀ s : State, s.pending = [] → step s = .next s

/-- What the part holds right after power-on reset: the values the rules state; and every invariant of the part. -/
def Obligations.ResetState : Prop :=
  (let s := State.reset
   s.phase = .init ∧ s.time = 0 ∧ s.ppw.port = .notReady ∧ (∀ g ∈ s.ppw.guard, g.cond = .off) ∧ s.ppw.guard.length = 8 ∧
   s.ppw.taken = ⟨0, 0, 0, 0, 0, 0, 0, 0, 0, 0⟩ ∧ s.fma.owed = 0 ∧ (∀ c, s.fma.waits.get c = 0) ∧
   s.fma.normal = ⟨[.scanC, .scanL, .scanR, .capt, .proc, .serv], ⟨4, 0, 0, 0, 0, 8⟩⟩ ∧
   s.fma.reverse = ⟨[.capt, .scanC, .proc, .serv, .scanL, .scanR], ⟨6, 0, 0, 0, 0, 8⟩⟩ ∧ s.fma.mon.st = .off ∧
   s.fma.mon.valid = false ∧ s.cmu.st = .idle ∧ s.cmu.p = 0 ∧ s.cmu.c = 0 ∧ s.seu.pending = 0 ∧ s.seu.occurred = 0 ∧
   s.seu.recMask = BitVec.allOnes 36 ∧ s.seu.attnMask = 0 ∧ s.seu.attnOn = true ∧ s.seu.alertOn = false ∧ s.seu.tag = 0 ∧
   s.seu.w = 0 ∧ s.seu.a = 0 ∧ s.seu.queue = [] ∧ s.seu.dirty = true ∧ s.seu.generation = 0 ∧ s.seu.attnN = true ∧
   s.seu.alertN = true ∧ (∀ o, (s.scan o).st = .stopped ∧ (s.scan o).frames = 0 ∧ (s.scan o).timing = none) ∧
   (∀ o, (s.links.get o).present = false ∧ (s.links.get o).timer = some 100) ∧ (∀ src, s.fqu.idle src = true) ∧
   s.ccu.setup = none ∧ s.ccu.enable = false ∧ s.ccu.present = false ∧ s.ccu.vpd = 256 ∧ s.ccu.buffer = [] ∧
   s.ccu.gamma = (List.range 256).map (BitVec.ofNat 8) ∧ s.rvc.st = .normal ∧ s.rvc.request = false ∧
   s.rvc.setup.source = .pin ∧ s.rvc.setup.engage = 1000 ∧ s.rvc.setup.stale = 300 ∧ s.rvc.setup.linger = 0 ∧
   s.gde.setup = none ∧ s.gde.recompute = .idle ∧ s.gde.bank0 = [] ∧ s.gde.bank1 = [] ∧ s.chu.master = 255 ∧
   (∀ id, s.chimeDef id = none) ∧ s.chu.queue = [] ∧ s.chu.q.st = .idle ∧ s.chu.p.st = .off) ∧
  Memory.wf State.reset.mem = true ∧ FlagsOk State.reset ∧ LinesOk State.reset ∧ CountsOk State.reset ∧
  ClientsOk State.reset ∧ FilmQueuesOk State.reset ∧ CaptureOk State.reset ∧ ReverseTimersOk State.reset ∧ BanksOk State.reset ∧ ChimesOk State.reset

/-- Every command answers where the burst in progress lies inside fitted memory, none is refused, none touches the queue; and while
RESET_N is asserted nothing changes but by POR, by its release, and by what the pins and the processor present (log entry 4: the
spec says that the part is held in its reset state; that nothing else comes about is DEDUCED). -/
def Obligations.EveryCommandAnswers : Prop :=
  ∀ (i : Instr) (s : State),
    (s.burstInside = true → ∃ t, exec i s = .next t) ∧ (∀ r, exec i s ≠ .refused r) ∧
    (∀ t, exec i s = .next t → t.pending = s.pending) ∧
    (s.phase = .held → (∀ m c, i ≠ .por m c) → (∀ m c, i ≠ .resetNRelease m c) → (∀ q, i ≠ .take q) →
      (∀ o l, i ≠ .linkChange o l) → (∀ l, i ≠ .revChange l) → exec i s = .next s)

/-- Rules of the whole part. The SDRAM changes only by the burst in progress, or is undefined after POR (log entry 2: empty in this
model). A pending flag falls only by a pending clear or a reset (R167, R172, R175), whatever condition has passed. -/
def Obligations.MemoryAndPendingPersist : Prop :=
  ∀ (i : Instr) (s t : State), exec i s = .next t →
    (t.mem = s.mem ∨ t.mem = s.memAfterBurst ∨ ∃ m c, i = .por m c) ∧
    ((∀ m c, i ≠ .por m c) → i ≠ .resetNAssert → (∀ m c, i ≠ .resetNRelease m c) → (∀ b v, i ≠ .pendClr b v) →
      i ≠ .procWriteCompletion → i ≠ .grantEnd → s.seu.pending &&& t.seu.pending = s.seu.pending)

/-- Every step keeps the SDRAM in its canonical form (the model's), every wait count at 31 at most (R143), at most 8 refreshes owed
(R146), a transaction at a PENDING port (R121, R122) and every data client in both profiles (R144, R145). The canonical form is the
choice of the model (log entry 2). -/
def Obligations.MemoryAndArbiterStaySound : Prop :=
  ∀ s t : State, step s = .next t →
    (Memory.wf s.mem = true → Memory.wf t.mem = true) ∧ (CountsOk s → CountsOk t) ∧ (ClientsOk s → ClientsOk t)

/-- R2, R4, R115, R121, R181: the levels on the display and chime pins, and the wait line of the processor port. Low levels without a
timing record, and levels as functions of a place in the line, are the choice of the model (log entry 23). -/
def Obligations.PinLevels : Prop :=
  (∀ s : State, s.waitAsserted = true ↔ s.phase = .held ∨ s.ppw.waiting ≠ none ∨ s.ppw.port = .pending) ∧
  (∀ (s : State) (o : Output) (line clock : Nat), let p := s.outputPins o line clock
    ((s.scan o).timing = none → p = ⟨false, false, false, 0⟩) ∧
    ∀ t, (s.scan o).timing = some t →
      ((s.scan o).st = .stopped → p = ⟨false, !t.hsHigh, !t.vsHigh, 0⟩) ∧
      ((s.scan o).st ≠ .stopped → (p.de = true ↔ t.vb ≤ line ∧ t.hb ≤ clock) ∧ (p.hs = t.hsHigh ↔ 15 ≤ clock ∧ clock < 47) ∧
        (p.vs = t.vsHigh ↔ line = 1 ∨ line = 2) ∧ (p.de = false → p.rgb = 0) ∧
        (p.de = true → p.rgb = (s.scan o).pixels.getD (clock - t.hb) 0))) ∧
  ∀ (s : State) (k : Nat) (high : Bool), k < 32 → let a := s.audioPins k high
    (s.phase = .held → a = ⟨false, false, false⟩) ∧
    (s.phase ≠ .held → a.bitClock = high ∧ (a.wordSelect = true ↔ 16 ≤ k) ∧
      (1 ≤ k → k ≤ 16 → a.data = (BitVec.ofInt 16 s.chu.line).getLsbD (16 - k)) ∧
      (17 ≤ k → a.data = (BitVec.ofInt 16 s.chu.line).getLsbD (32 - k)) ∧
      (k = 0 → a.data = (BitVec.ofInt 16 s.chu.lineBefore).getLsbD 0))

/-- R1: the checks of OUTPUT_TIMING in the order of its table, the record installed, the descriptors that no longer fit switched off and
named in the detail; no output has a record after reset. That the detail counts only planes this command switches off is DEDUCED
(log entry 20). -/
def Obligations.OutputTiming : Prop :=
  (∀ o, (State.reset.scan o).timing = none) ∧
  ∀ (r : Rec) (s : State), Arrives s →
    (outputOf r.target = none → Answers (.outputTiming r) s (completed 1 r resBadParam 0 s)) ∧
    ∀ o, outputOf r.target = some o → ∀ (t : Timing),
      t = ⟨field r.op1 0 16, field r.op1 16 16, field r.op2 0 16, field r.op2 16 16, r.op3.toNat, r.op4.getLsbD 0, r.op4.getLsbD 1⟩ →
      let fits := (320 ≤ t.wa ∧ t.wa ≤ 1920 ∧ t.wa % 8 = 0) ∧ (240 ≤ t.ha ∧ t.ha ≤ 1080) ∧ 64 ≤ t.hb ∧ 4 ≤ t.vb ∧
        (10000 ≤ t.f ∧ t.f ≤ 148500)
      ((s.scan o).st ≠ .stopped → Answers (.outputTiming r) s (completed 1 r resWrongState 0 s)) ∧
      ((s.scan o).st = .stopped → ¬fits → Answers (.outputTiming r) s (completed 1 r resBadParam 0 s)) ∧
      ((s.scan o).st = .stopped → fits → ∀ (x : Planes), x = (s.scan o).asSet →
        let uiOff := x.ui.enabled && !rectOk s.memSize t x.ui
        let filmOff := x.film.enabled && !filmRectOk t x.film
        let menuOff := x.menu.enabled && !rectOk s.memSize t x.menu
        let y : Planes := { x with ui := { x.ui with enabled := x.ui.enabled && !uiOff },
                                   film := { x.film with enabled := x.film.enabled && !filmOff },
                                   menu := { x.menu with enabled := x.menu.enabled && !menuOff } }
        Answers (.outputTiming r) s
          (completed 1 r resDone (BitVec.ofNat 32 ((if uiOff then 1 else 0) + (if filmOff then 2 else 0) + (if menuOff then 4 else 0)))
            (triggerIf (decide (o = .ctr)) (s.setScan o { s.scan o with timing := some t, asSet := y }))))

/-- R3: OUTPUT_START of a STOPPED output with a timing record: RUNNING, counter 0, and its first frame start taken; refused otherwise.
The first frame start is that of FRAME_START on the output made RUNNING, with a counter of -1, so that it leaves 0: a step from -1
to 0 makes no bit rise, so no pacing event comes of it, as R22 asks of this frame start. R4: OUTPUT_STOP by the state of the output. -/
def Obligations.OutputStartAndStop : Prop :=
  (∀ (r : Rec) (s : State), Arrives s →
    (outputOf r.target = none → Answers (.outputStart r) s (completed 2 r resBadParam 0 s)) ∧ ∀ o, outputOf r.target = some o →
    ((s.scan o).st ≠ .stopped ∨ (s.scan o).timing = none → Answers (.outputStart r) s (completed 2 r resWrongState 0 s)) ∧
    ((s.scan o).st = .stopped → (s.scan o).timing ≠ none → ∃ t, exec (.outputStart r) s = .next t ∧
      (t.scan o).st = .running ∧ (t.scan o).frames = 0 ∧ (t.scan o).inUse = (s.scan o).asSet ∧ (t.scan o).asSet = (s.scan o).asSet ∧
      (t.scan o).timing = (s.scan o).timing ∧ (t.scan o).pacing = (s.scan o).pacing ∧ (t.scan o).frameOpen = true ∧
      (t.scan o).row = 0 ∧ (t.scan o).underruns = 0 ∧ (∀ o', o' ≠ o → t.scan o' = s.scan o') ∧
      t.cmu.st = .writing ∧ t.cmu.code = resDone ∧ t.cmu.detail = 0 ∧ t.cmu.cmd = ⟨2, r⟩ ∧ t.seu.dirty = true ∧
      t.mem = s.mem ∧ t.time = s.time ∧ t.ppw = s.ppw ∧ t.links = s.links ∧ t.pending = s.pending ∧
      ∃ f, exec (.frameStart o) (s.setScan o { s.scan o with st := .running, frames := BitVec.allOnes 32, frameOpen := false }) =
          .next f ∧
        t.scn = f.scn ∧ t.menu = f.menu ∧ t.layout = f.layout ∧ t.fqu = f.fqu ∧ t.ccu = f.ccu ∧ t.rvc = f.rvc ∧ t.gde = f.gde ∧
        t.chu = f.chu ∧ t.seu = { f.seu with dirty := true })) ∧
  (∀ (r : Rec) (s : State), Arrives s →
    (outputOf r.target = none → Answers (.outputStop r) s (completed 3 r resBadParam 0 s)) ∧
    ∀ o, outputOf r.target = some o →
      ((s.scan o).st = .running →
        Answers (.outputStop r) s (completed 3 r resDone 0 (s.setScan o { s.scan o with st := .stopping }))) ∧
      ((s.scan o).st = .stopping → Answers (.outputStop r) s (completed 3 r resDone 0 s)) ∧
      ((s.scan o).st = .stopped → Answers (.outputStop r) s (completed 3 r resWrongState 0 s)))

/-- R7: PLANE_SET, check by check in its order. `p` is the plane's code: 0 FILL, 1 UI, 2 FILM, 3 MENU. -/
def Obligations.PlaneSet : Prop :=
  ∀ (r : Rec) (s : State), Arrives s →
    (outputOf r.target = none → Answers (.planeSet r) s (completed 4 r resBadParam 0 s)) ∧ ∀ o, outputOf r.target = some o →
    let p := field r.op1 0 4
    let d : Descriptor := ⟨r.op1.getLsbD 4, field r.op1 8 4, field r.op1 12 4, field r.op1 16 16, r.op2.toNat, r.op3.toNat,
      field r.op4 0 16, field r.op4 16 16, field r.op5 0 16, field r.op5 16 16⟩
    let x := (s.scan o).asSet
    let wrongOutput := (o = .ctr ∧ (p = 2 ∨ p = 3)) ∨ (o ≠ .ctr ∧ p = 1)
    let placed := d.base % 64 = 0 ∧ d.pitch % 64 = 0 ∧ d.width ≠ 0 ∧ d.height ≠ 0
    let ranges := d.alpha ≤ 255 ∧ (p = 1 → d.format ≤ 1 ∧ placed) ∧ (p = 2 → d.format = 2 ∧ (d.scale = 1 ∨ d.scale = 2)) ∧
      (p = 3 → d.format = 3 ∧ placed)
    let b := if d.format = 0 then 4 else if d.format = 1 then 2 else 1
    let inside := fun t : Timing =>
      if p = 2 then d.x < t.wa ∧ d.y < t.ha
      else d.x + d.width ≤ t.wa ∧ d.y + d.height ≤ t.ha ∧ d.width * b ≤ d.pitch ∧
        d.base + d.pitch * (d.height - 1) + d.width * b ≤ s.memSize
    let refused := fun code => Answers (.planeSet r) s (completed 4 r code 0 s)
    let stores := fun y => Answers (.planeSet r) s (completed 4 r resDone 0 (s.setScan o { s.scan o with asSet := y }))
    let store := (p = 1 → stores { x with ui := d }) ∧ (p = 2 → stores { x with film := d }) ∧ (p = 3 → stores { x with menu := d })
    (3 < p ∨ wrongOutput → refused resBadParam) ∧
    (p = 0 → stores { x with fill := r.op2.setWidth 24 }) ∧
    (1 ≤ p → p ≤ 3 → ¬wrongOutput →
      (d.enabled = false → store) ∧
      (d.enabled = true → ¬ranges → refused resBadParam) ∧
      (d.enabled = true → ranges → (s.scan o).timing = none → refused resWrongState) ∧
      (d.enabled = true → ranges → ∀ t, (s.scan o).timing = some t → (¬inside t → refused resBadParam) ∧ (inside t → store)))

/-- R20: the table of MENU_FADE; the position stays; the fades are IN_REST with p = 1 after reset. R22: PACE_SET, and the reset
selection. -/
def Obligations.MenuFadeAndPaceSet : Prop :=
  ((∀ o, (State.reset.menu.get o).motion = .inRest ∧ (State.reset.menu.get o).pos = 1 ∧ (State.reset.menu.get o).ramp = [0, 255]) ∧
  ∀ (r : Rec) (s : State), Arrives s →
    (rearOf r.target = none ∨ 1 < r.op1.toNat → Answers (.menuFade r) s (completed 7 r resBadParam 0 s)) ∧
    ∀ o, rearOf r.target = some o → ∀ m, m = s.menu.get o →
      let becomes := fun x => Answers (.menuFade r) s (completed 7 r resDone 0 { s with menu := s.menu.set o { m with motion := x } })
      (r.op1 = 0 →
        (m.motion = .inRest → becomes .inRest) ∧ (m.motion = .outRest → becomes .fadingIn) ∧
        (m.motion = .fadingIn → becomes .fadingIn) ∧
        (m.motion = .fadingOut → becomes (if m.pos + 1 = m.ramp.length then .inRest else .fadingIn))) ∧
      (r.op1 = 1 →
        (m.motion = .inRest → becomes .fadingOut) ∧ (m.motion = .outRest → becomes .outRest) ∧
        (m.motion = .fadingIn → becomes (if m.pos = 0 then .outRest else .fadingOut)) ∧
        (m.motion = .fadingOut → becomes .fadingOut))) ∧
  ((∀ o, (State.reset.scan o).pacing = ⟨false, 0⟩) ∧
  ∀ (r : Rec) (s : State), Arrives s →
    (outputOf r.target = none → Answers (.paceSet r) s (completed 8 r resBadParam 0 s)) ∧ ∀ o, outputOf r.target = some o →
    (7 < r.op1.toNat → Answers (.paceSet r) s (completed 8 r resBadParam 0 s)) ∧
    (r.op1.toNat ≤ 7 → Answers (.paceSet r) s
      (completed 8 r resDone 0 (s.setScan o { s.scan o with pacing := ⟨r.op2.getLsbD 0, r.op1.toNat⟩ }))))

/-- R5, R8, R14, R22: the frame start of an output that runs: the counter, the descriptors, the row and the underrun count, and the
pacing event, which at CTR is the only raise. What it leaves alone. R7, R9, R10, R20, R73, R74: the planes that fetch in a frame,
bottom to top, with their lines, their places and the words and pixels of a line. R18, R21: palette and fade at the frame start of a
rear output. That a STOPPING output between frames takes one is DEDUCED (log entry 27). -/
def Obligations.FrameStart : Prop :=
  (∀ (o : Output) (s : State) (tm : Timing), s.phase ≠ .held → (s.scan o).st ≠ .stopped → (s.scan o).frameOpen = false →
    (s.scan o).timing = some tm → ∃ t, exec (.frameStart o) s = .next t ∧
      (t.scan o).frames = (s.scan o).frames + 1 ∧ (t.scan o).inUse = (s.scan o).asSet ∧ (t.scan o).frameOpen = true ∧
      (t.scan o).row = 0 ∧ (t.scan o).underruns = 0 ∧
      (∀ p ∈ (t.scan o).fetch, p.lines = [] ∧ p.got = [] ∧ p.next = p.first ∧ p.latest = none) ∧
      ((s.scan o).pacing.on = true → (s.scan o).frames.getLsbD (s.scan o).pacing.bit = false →
        ((s.scan o).frames + 1).getLsbD (s.scan o).pacing.bit = true → t.seu.pending.getLsbD (paceKind o).code = true) ∧
      (t.scan o).st = (s.scan o).st ∧ (t.scan o).timing = some tm ∧ (t.scan o).asSet = (s.scan o).asSet ∧
      (t.scan o).pacing = (s.scan o).pacing ∧ (∀ o', o' ≠ o → t.scan o' = s.scan o') ∧
      t.time = s.time ∧ t.straps = s.straps ∧ t.mem = s.mem ∧ t.ppw = s.ppw ∧ t.cmu = s.cmu ∧ t.links = s.links ∧
      t.pending = s.pending ∧
      (o ≠ .ctr → t.rvc = s.rvc ∧ t.gde = s.gde ∧ t.chu = s.chu ∧ t.layout = s.layout ∧ t.ccu.slots = s.ccu.slots) ∧
      (o = .ctr → t.fqu = s.fqu ∧ t.menu = s.menu ∧
        (let c := s.scn.ctr.frames + 1
         let k := s.scn.ctr.pacing.bit
         Raises (if s.scn.ctr.pacing.on && !s.scn.ctr.frames.getLsbD k && c.getLsbD k
           then [⟨.paceC, c, BitVec.ofNat 32 k⟩] else []) s t))) ∧
  (∀ (o : Output) (s : State) (tm : Timing), s.phase ≠ .held → (s.scan o).st ≠ .stopped → (s.scan o).frameOpen = false →
    (s.scan o).timing = some tm → ∃ t, exec (.frameStart o) s = .next t ∧
      (let d := (s.scan o).asSet
       let plane := fun (id : PlaneId) (f : PixelFormat) (base pitch first stop words pixels x y top scale alpha : Nat) =>
         ({ plane := id, format := f, base := base, pitch := pitch, first := first, stop := stop, words := words, pixels := pixels,
            x := x, y := y, top := top, scale := scale, alpha := alpha, next := first, got := [], lines := [], latest := none,
            shown := none, missed := false } : Fetch)
       let even := fun n : Nat => n + n % 2
       let shown := fun (m n k : Nat) => min m ((n + k - 1) / k)
       let bytes := if d.ui.format = 0 then 4 else if d.ui.format = 1 then 2 else 1
       let ui := if d.ui.enabled = false then [] else
         [plane .ui (if d.ui.format = 1 then .rgb565 else .argb8888) d.ui.base d.ui.pitch 0
           (match t.layout with
             | none => d.ui.height
             | some l => min d.ui.height (l.strip - d.ui.y))
           ((d.ui.width * bytes + 3) / 4) d.ui.width d.ui.x d.ui.y d.ui.y 1 d.ui.alpha]
       (o = .ctr → (∀ l c slot, t.layout = some l → l.mode = .camera → l.slot = some slot → s.ccu.setup = some c →
           let i0 := if l.strip ≤ l.y then 0 else (l.strip - l.y) / l.scale
           let stop := shown c.hc (tm.ha - l.y) l.scale
           let wv := even (shown c.wc (tm.wa - l.x) l.scale)
           (t.scan o).fetch = if tm.wa ≤ l.x ∨ tm.ha ≤ l.y ∨ stop ≤ i0 then ui else
             plane .camera .ycbcr422 (c.base + slot * 1048576) ((2 * c.wc + 63) / 64 * 64) i0 stop (wv / 2) wv l.x l.y
               (max l.y l.strip) l.scale 255 :: ui) ∧
         ((∀ l, t.layout = some l → l.mode ≠ .camera ∨ l.slot = none ∨ s.ccu.setup = none) → (t.scan o).fetch = ui)) ∧
       ∀ r, outputRear o = some r →
         let film := match (t.fqu.rear.get r).latched with
           | none => []
           | some (src, i) => if d.film.enabled = false then [] else
             let f := t.fqu.film src
             let wv := even (shown f.width (tm.wa - d.film.x) d.film.scale)
             [plane .film .ycbcr422 (f.bases.getD i 0) f.pitch 0 (shown f.height (tm.ha - d.film.y) d.film.scale) (wv / 2) wv
               d.film.x d.film.y d.film.y d.film.scale d.film.alpha]
         let menu := if d.menu.enabled = false ∨ (t.menu.get r).motion = .outRest then [] else
           [plane .menu .index8 d.menu.base d.menu.pitch 0 d.menu.height ((d.menu.width + 3) / 4) d.menu.width d.menu.x d.menu.y
             d.menu.y 1 d.menu.alpha]
         (t.scan o).fetch = film ++ menu)) ∧
  (∀ (o : Rear) (s : State) (m : Menu), s.phase ≠ .held → (s.scan (rearOutput o)).st ≠ .stopped →
    (s.scan (rearOutput o)).frameOpen = false → (s.scan (rearOutput o)).timing ≠ none → m = s.menu.get o →
    ∃ t n, exec (.frameStart (rearOutput o)) s = .next t ∧ n = t.menu.get o ∧ n.ramp = m.ramp ∧ n.pendingPalette = none ∧
      n.palette = m.pendingPalette.getD m.palette ∧ (∀ o', o' ≠ o → t.menu.get o' = s.menu.get o') ∧
      (m.motion = .fadingIn → n.pos = m.pos + 1 ∧ n.level = some (m.ramp.getD (m.pos + 1) 0).toNat ∧
        n.motion = if m.pos + 2 = m.ramp.length then .inRest else .fadingIn) ∧
      (m.motion = .fadingOut → n.pos = m.pos - 1 ∧
        (if m.pos ≤ 1 then n.motion = .outRest ∧ n.level = none
          else n.motion = .fadingOut ∧ n.level = some (m.ramp.getD (m.pos - 1) 0).toNat)) ∧
      (m.motion = .inRest → n.pos = m.pos ∧ n.motion = .inRest ∧ n.level = some (m.ramp.getD (m.ramp.length - 1) 0).toNat) ∧
      (m.motion = .outRest → n.pos = m.pos ∧ n.motion = .outRest ∧ n.level = none))

/-- R13, R14: the line start of a row: each plane as `Fetch.atRow` has it, which shows the line complete in the buffer or underruns, and
the count of underruns. R15, R72, R73: the pixels of the row that begins: in the normal stack and above the strip the planes over
the fill; below the strip, by the display mode, the camera plane or the fill of the reverse layout under the guide spans, or the
unavailable colour on its rectangle. With the camera unconfigured there is no rectangle (log entry 35), and its size is the one
installed at the line start (log entry 36): both are choices of the model. R11: the last burst of a line arrives: the line is
complete in the plane's buffer and the next one begins; the data of an abandoned line is discarded. -/
def Obligations.LineStartAndComplete : Prop :=
  ((∀ (o : Output) (s : State) (tm : Timing), s.phase ≠ .held → (s.scan o).frameOpen = true → (s.scan o).timing = some tm →
    (s.scan o).row < tm.ha → ∃ t, exec (.lineStart o) s = .next t ∧
      (t.scan o).fetch = (s.scan o).fetch.map (Fetch.atRow (s.scan o).row) ∧ (t.scan o).row = (s.scan o).row + 1 ∧
      (t.scan o).underruns = (s.scan o).underruns + (t.scan o).fetch.countP Fetch.missed ∧
      (t.scan o).pixels.length = tm.wa ∧ (t.scan o).st = (s.scan o).st ∧ (t.scan o).frames = (s.scan o).frames ∧
      (t.scan o).asSet = (s.scan o).asSet ∧ (t.scan o).inUse = (s.scan o).inUse ∧ (∀ o', o' ≠ o → t.scan o' = s.scan o') ∧
      t.time = s.time ∧ t.mem = s.mem ∧ t.ppw = s.ppw ∧ t.cmu = s.cmu ∧ t.menu = s.menu ∧ t.links = s.links ∧ t.fqu = s.fqu ∧
      t.rvc = s.rvc ∧ t.gde = s.gde ∧ t.chu = s.chu ∧ t.layout = s.layout ∧ t.pending = s.pending) ∧
  (∀ (p : Fetch) (row : Nat), p.covers row = true → p.firstRow row = true →
    (∀ ws rest, p.lines = (p.lineOf row, ws) :: rest →
      p.atRow row = { p with shown := some ws, missed := false, lines := rest }) ∧
    (p.lines = [] → p.next ≤ p.lineOf row →
      p.atRow row = { p with shown := p.latest, missed := true, next := p.lineOf row + 1, got := [] })) ∧
  (∀ (p : Fetch) (row : Nat), p.covers row = true → p.firstRow row = false → p.atRow row = p) ∧
  (∀ (p : Fetch) (row : Nat), p.covers row = false → (p.atRow row).shown = none ∧ (p.atRow row).missed = false)) ∧
  (∀ (o : Output) (s : State) (tm : Timing) (row : Nat), s.phase ≠ .held → (s.scan o).frameOpen = true →
    (s.scan o).timing = some tm → row = (s.scan o).row → row < tm.ha → ∃ t, exec (.lineStart o) s = .next t ∧
      (let planes := (t.scan o).fetch
       let rgb := fun c : Rgb => (⟨field (c.setWidth 32) 16 8, field (c.setWidth 32) 8 8, field (c.setWidth 32) 0 8⟩ : Colour)
       let fill := rgb (s.scan o).inUse.fill
       let menu := (outputRear o).map s.menu.get
       let stack := fun (ps : List Fetch) (col : Nat) (below : Colour) => ps.foldl (fun below p =>
         match p.shown with
         | none => below
         | some line =>
           let j := (col - p.x) / p.scale
           if p.x ≤ col ∧ j < p.pixels then
             blend (planePixel menu p line j).1 below (planePixel menu p line j).2
           else below) below
       let guides := fun (col : Nat) (below : Colour) =>
         match ((if s.gde.shown1 then s.gde.bank1 else s.gde.bank0).filter fun sp =>
             decide (sp.row = (row : Int) ∧ sp.first ≤ (col : Int) ∧ (col : Int) ≤ sp.last)).getLast? with
         | none => below
         | some sp => blend ⟨field sp.colour 16 8, field sp.colour 8 8, field sp.colour 0 8⟩ below (field sp.colour 24 8)
       let shows := fun pixel : Nat → Colour => ∀ col, col < tm.wa → ((t.scan o).pixels[col]?) =
         some (BitVec.ofNat 24 ((pixel col).r * 65536 + (pixel col).g * 256 + (pixel col).b))
       (o ≠ .ctr ∨ s.layout = none → shows fun col => stack planes col fill) ∧
       ∀ l, o = .ctr → s.layout = some l →
         (row < l.strip → shows fun col => stack (planes.filter fun p => decide (p.plane ≠ .camera)) col fill) ∧
         (l.strip ≤ row →
           (l.mode = .camera → shows fun col =>
             guides col (stack (planes.filter fun p => decide (p.plane = .camera)) col (rgb l.fill))) ∧
           (l.mode = .fill → shows fun col => guides col (rgb l.fill)) ∧
           (l.mode = .unavailable → s.ccu.setup = none → shows fun _ => rgb l.fill) ∧
           (l.mode = .unavailable → ∀ c, s.ccu.setup = some c → shows fun col =>
             if l.x ≤ col ∧ col < l.x + l.scale * c.wc ∧ l.y ≤ row ∧ row < l.y + l.scale * c.hc then rgb l.unavailable
             else rgb l.fill)))) ∧
  (∀ (s : State) (o : Output) (id : PlaneId) (num : Nat) (ws : List Word) (dropped : Bool), s.phase ≠ .held →
    s.burstInside = true → s.burst = some (.line o id num ws true dropped) →
    Answers .lineComplete s
      (if dropped then markEnded s
       else markEnded (s.setScan o { s.scan o with fetch := (s.scan o).fetch.map fun p =>
         if p.plane = id ∧ p.next = num then
           { p with next := num + 1, got := [], lines := p.lines ++ [(num, p.got ++ ws)], latest := some (p.got ++ ws) }
         else p })))

/-- R14, R35, R37, R65, R74, and R2 to R4: the frame end of an output: the underrun report; a RUNNING output goes on, a STOPPING one is
STOPPED with its line buffers empty; a rear one frees buffers, CTR reports that it has gone, in either order with the report (R167).
The stop of CTR frees the SHOWN slot where the reverse state entered NORMAL while CTR was STOPPING: `releaseAtStop`, which every
entry to NORMAL writes so (RequestEvaluation, ReverseTimers). -/
def Obligations.FrameEnd : Prop :=
  ∀ (o : Output) (s : State) (tm : Timing), s.phase ≠ .held → (s.scan o).frameOpen = true → (s.scan o).timing = some tm →
    (s.scan o).row = tm.ha →
    let n := (s.scan o).underruns
    let under : List Raise := if n = 0 then [] else [⟨underrunKind o, BitVec.ofNat 32 n, (s.scan o).frames &&& 0xFFFF⟩]
    let reported := if n = 0 then s else raise (underrunKind o) (BitVec.ofNat 32 n) ((s.scan o).frames &&& 0xFFFF) s
    ((s.scan o).st = .running →
      Answers (.frameEnd o) s (reported.setScan o { s.scan o with frameOpen := false, pixels := [] })) ∧
    ((s.scan o).st = .stopping → ∃ t, exec (.frameEnd o) s = .next t ∧ (t.scan o).st = .stopped ∧
      (t.scan o).fetch = [] ∧ (t.scan o).frameOpen = false ∧ (t.scan o).timing = some tm ∧ (t.scan o).asSet = (s.scan o).asSet ∧
      (t.scan o).pacing = (s.scan o).pacing ∧ (t.scan o).frames = (s.scan o).frames ∧ t.menu = s.menu ∧
      (∀ r, outputRear o = some r →
        let x := s.fqu.rear.get r
        let free := fun src : FilmSource =>
          let m := freedMask s.fqu t.fqu src
          if m = 0 then [] else [(⟨freeKind src, BitVec.ofNat 32 m, if r = .rl then 0 else 1⟩ : Raise)]
        let old := match x.latched with
          | some (src, _) => free src
          | none => []
        let new := match x.pending with
          | some src => if x.latched.map Prod.fst = some src then [] else free src
          | none => []
        t.fqu = s.fqu.setRear r { x with route := x.pending, latched := none } ∧
        ∃ k, Raises ((old ++ new).take k ++ under ++ (old ++ new).drop k) s t) ∧
      (o ≠ .ctr → t.layout = s.layout ∧ t.rvc = s.rvc ∧ t.ccu.slots = s.ccu.slots) ∧
      (o = .ctr → t.layout = none ∧ t.fqu = s.fqu ∧
        (if s.rvc.releaseAtStop = true ∧ s.rvc.st = .normal then
          t.rvc = { s.rvc with releaseAtStop := false } ∧
            t.ccu.slots = s.ccu.slots.map (fun x => if x.st = .shown then { x with st := .free } else x)
         else t.rvc = s.rvc ∧ t.ccu.slots = s.ccu.slots) ∧
        (let out : List Raise := if s.rvc.st = .normal then [] else [⟨.revNoOutput, 2, 0⟩]
         Raises (under ++ out) s t ∨ Raises (out ++ under) s t)) ∧
      (∀ o', o' ≠ o → t.scan o' = s.scan o') ∧ t.time = s.time ∧ t.mem = s.mem ∧ t.ppw = s.ppw ∧ t.cmu = s.cmu ∧
      t.links = s.links ∧ t.gde = s.gde ∧ t.chu = s.chu ∧ t.ccu.frame = s.ccu.frame ∧ t.pending = s.pending)

/-- R16, R17: the blend, the alpha of each plane, and the conversions of pixels. -/
def Obligations.PixelArithmetic : Prop :=
  (∀ (a : Nat) (s d : Colour), blend s d a =
    ⟨(s.r * a + d.r * (255 - a) + 127) / 255, (s.g * a + d.g * (255 - a) + 127) / 255, (s.b * a + d.b * (255 - a) + 127) / 255⟩) ∧
  (∀ s d : Colour, blend s d 255 = s ∧ blend s d 0 = d) ∧
  (∀ (m : Option Menu) (p : Fetch) (line : List Word) (j : Nat),
    (p.format = .argb8888 → (planePixel m p line j).2 = (field (wordAt line j) 24 8 * p.alpha + 127) / 255) ∧
    (p.format = .rgb565 ∨ p.format = .ycbcr422 → (planePixel m p line j).2 = p.alpha) ∧
    (p.format = .index8 → ∀ x l, m = some x → x.level = some l → (planePixel m p line j).2 =
      ((field (wordAt x.palette (byteAt line j)) 24 8 * p.alpha + 127) / 255 * l + 127) / 255)) ∧
  (∀ (m : Option Menu) (p : Fetch) (line : List Word) (j : Nat),
    let argb := fun w : Word => (⟨field w 16 8, field w 8 8, field w 0 8⟩ : Colour)
    (p.format = .argb8888 → (planePixel m p line j).1 = argb (wordAt line j)) ∧
    (p.format = .rgb565 → (planePixel m p line j).1 = colourOf565 (field (wordAt line (j / 2)) (16 * (j % 2)) 16)) ∧
    (p.format = .ycbcr422 → let w := wordAt line (j / 2)
      (planePixel m p line j).1 = colourOfYcc (field w (8 + 16 * (j % 2)) 8) (field w 0 8) (field w 16 8)) ∧
    (p.format = .index8 → ∀ x, m = some x →
      (planePixel m p line j).1 = argb (wordAt x.palette (field (wordAt line (j / 4)) (8 * (j % 4)) 8)))) ∧
  (∀ l c t, ∀ p ∈ cameraFetch l c t, p.alpha = 255 ∧ p.format = .ycbcr422) ∧
  (∀ r5 g6 b5 : Nat, r5 < 32 → g6 < 64 → b5 < 32 →
    colourOf565 (r5 * 2048 + g6 * 32 + b5) = ⟨r5 * 8 + r5 / 4, g6 * 4 + g6 / 16, b5 * 8 + b5 / 4⟩) ∧
  (∀ y cb cr : Nat, let c : Int := y - 16; let d : Int := cb - 128; let e : Int := cr - 128
    ((colourOfYcc y cb cr).r : Int) = max 0 (min 255 ((298 * c + 409 * e + 128) / 256)) ∧
    ((colourOfYcc y cb cr).g : Int) = max 0 (min 255 ((298 * c - 100 * d - 208 * e + 128) / 256)) ∧
    ((colourOfYcc y cb cr).b : Int) = max 0 (min 255 ((298 * c + 516 * d + 128) / 256)))

/-- R23: the presence inputs: ABSENT with the timer running after a reset; a change restarts the timer; its expiry takes the level and
raises the event if they differ. R60: the REV input and its stability timer, which runs after a reset with the debounced level LOW. -/
def Obligations.StabilityTimers : Prop :=
  ((∀ o phase straps mem rev rlp rrp waiting free pending,
    let t := State.blocksReset phase straps mem rev rlp rrp waiting free pending
    (t.links.get o).present = false ∧ (t.links.get o).timer = some 100) ∧
  ∀ (o : Rear) (s : State) (x : Link), x = s.links.get o →
    (∀ level, level ≠ x.level → Answers (.linkChange o level) s
      { s with links := s.links.set o { x with level := level, timer := some 100 } }) ∧
    (s.phase ≠ .held → x.timer = some 0 →
      let u := { s with links := s.links.set o { x with present := x.level, timer := none } }
      Answers (.linkTimerExpiry o) s
        (if x.level = x.present then u else raise (linkKind o) (if x.level then 1 else 0) 0 u))) ∧
  ((∀ phase straps mem rev rlp rrp waiting free pending,
    let t := State.blocksReset phase straps mem rev rlp rrp waiting free pending
    t.rvc.debounced = false ∧ t.rvc.revTimer = some 20) ∧
  ∀ s : State,
    (∀ level, level ≠ s.rvc.rev → Answers (.revChange level) s { s with rvc := { s.rvc with rev := level, revTimer := some 20 } }) ∧
    (s.phase ≠ .held → s.rvc.revTimer = some 0 →
      (s.rvc.rev = s.rvc.debounced → Answers .revTimerExpiry s { s with rvc := { s.rvc with revTimer := none } }) ∧
      (s.rvc.rev ≠ s.rvc.debounced → Answers .revTimerExpiry s
        (evaluateR { s with rvc := { s.rvc with revTimer := none, debounced := s.rvc.rev }, seu := { s.seu with dirty := true } }))))

/-- R26: the checks of FILM_BUFFERS in its order, at take and when the table has been read; the table installed with every buffer FREE.
R28: FILM_CLOCK. R31: FILM_ROUTE by the state of the output. -/
def Obligations.FilmTablesClockAndRoute : Prop :=
  ((∀ (r : Rec) (s : State), Arrives s →
    (filmOf r.target = none → Answers (.filmBuffers r) s (completed 9 r resBadParam 0 s)) ∧
    ∀ src, filmOf r.target = some src →
      (s.fqu.idle src = false → Answers (.filmBuffers r) s (completed 9 r resWrongState 0 s)) ∧
      (s.fqu.idle src = true → ¬SourceFits s r.op1 48 → Answers (.filmBuffers r) s (completed 9 r resSourceErr 0 s)) ∧
      (s.fqu.idle src = true → SourceFits s r.op1 48 → Answers (.filmBuffers r) s (reads 9 r (burstsOf r.op1.toNat 12) s))) ∧
  ∀ (ws : List Word) (s : State) (src : FilmSource), ReadEnds 9 ws s → filmOf s.cmu.cmd.fields.target = some src →
    let n := (wordAt ws 0).toNat
    let width := (wordAt ws 1).toNat
    let height := (wordAt ws 2).toNat
    let pitch := (wordAt ws 3).toNat
    let base := fun i => (wordAt ws (4 + i)).toNat
    let good := (1 ≤ n ∧ n ≤ 8) ∧ (64 ≤ width ∧ width ≤ 1920 ∧ width % 2 = 0) ∧ (64 ≤ height ∧ height ≤ 1080) ∧
      (pitch % 64 = 0 ∧ 2 * width ≤ pitch) ∧ ∀ i < n, base i % 64 = 0 ∧ base i + pitch * height ≤ s.memSize
    (¬good → Answers .filmBuffersReadEnd s (finish resBadParam 0 (markEnded s))) ∧
    (good → (s.fqu.film src).queue = [] → (s.fqu.film src).current = none →
      (∀ o i, (s.fqu.rear.get o).latched ≠ some (src, i)) →
      Answers .filmBuffersReadEnd s (finish resDone (BitVec.ofNat 32 (2 ^ n - 1)) (markEnded { s with
        fqu := s.fqu.setFilm src { s.fqu.film src with bases := (List.range n).map base, width := width, height := height,
                                                       pitch := pitch } })))) ∧
  (∀ (r : Rec) (s : State), Arrives s →
    (filmOf r.target = none ∨ 1 < r.op2.toNat → Answers (.filmClock r) s (completed 13 r resBadParam 0 s)) ∧
    ∀ src, filmOf r.target = some src → r.op2.toNat ≤ 1 → ∀ c : Word,
      c = (if r.op3.getLsbD 0 then (s.fqu.film src).clock else r.op1) →
      Answers (.filmClock r) s (completed 13 r resDone c
        { s with fqu := s.fqu.setFilm src { s.fqu.film src with clock := c, playing := decide (r.op2 = 1) } })) ∧
  (∀ (r : Rec) (s : State), Arrives s →
    (rearOf r.target = none ∨ 2 < r.op1.toNat → Answers (.filmRoute r) s (completed 12 r resBadParam 0 s)) ∧
    ∀ o, rearOf r.target = some o → r.op1.toNat ≤ 2 →
      let src := if r.op1 = 0 then some FilmSource.a else if r.op1 = 1 then some FilmSource.b else none
      ((s.scan (rearOutput o)).st ≠ .stopped → Answers (.filmRoute r) s (completed 12 r resDone 0
        { s with fqu := s.fqu.setRear o { s.fqu.rear.get o with pending := src } })) ∧
      ((s.scan (rearOutput o)).st = .stopped → Answers (.filmRoute r) s (completed 12 r resDone 0
        { s with fqu := s.fqu.setRear o { s.fqu.rear.get o with route := src, pending := src } })))

/-- R30: the checks of FILM_POST in the order of its table, and the entry appended. R36: FILM_FLUSH: `freedMask` has bit i set for each
buffer i that this makes FREE. R25, R35: when a buffer is FREE, and the mask of the buffers that a step makes FREE. -/
def Obligations.FilmPostAndFlush : Prop :=
  (∀ (r : Rec) (s : State), Arrives s →
    (filmOf r.target = none → Answers (.filmPost r) s (completed 10 r resBadParam 0 s)) ∧
    ∀ src, filmOf r.target = some src → ∀ f, f = s.fqu.film src →
      let i := r.op1.toNat
      let early := ∃ e, f.queue.getLast? = some e ∧ r.op2 < e.due
      (8 ≤ f.queue.length → Answers (.filmPost r) s (completed 10 r resFull 0 s)) ∧
      (f.queue.length < 8 → f.bases.length ≤ i → Answers (.filmPost r) s (completed 10 r resBadParam 0 s)) ∧
      (f.queue.length < 8 → i < f.bases.length → s.fqu.bufFree src i = false →
        Answers (.filmPost r) s (completed 10 r resBusy 0 s)) ∧
      (f.queue.length < 8 → i < f.bases.length → s.fqu.bufFree src i = true → early →
        Answers (.filmPost r) s (completed 10 r resBadParam 0 s)) ∧
      (f.queue.length < 8 → i < f.bases.length → s.fqu.bufFree src i = true → ¬early →
        Answers (.filmPost r) s (completed 10 r resDone (BitVec.ofNat 32 (f.queue.length + 1))
          { s with fqu := s.fqu.setFilm src { f with queue := f.queue ++ [⟨i, r.op2, r.op3.setWidth 16⟩], armed := true } }))) ∧
  (∀ (r : Rec) (s : State), Arrives s →
    (filmOf r.target = none → Answers (.filmFlush r) s (completed 11 r resBadParam 0 s)) ∧
    ∀ src, filmOf r.target = some src → ∀ f, f = s.fqu.film src →
      let q := s.fqu.setFilm src { f with queue := [], current := if r.op1.getLsbD 0 then none else f.current }
      let mask := BitVec.ofNat 32 (freedMask s.fqu q src)
      Answers (.filmFlush r) s (completed 11 r resDone mask
        (if freedMask s.fqu q src = 0 then { s with fqu := q } else raise (freeKind src) mask 2 { s with fqu := q })) ∧
      ∀ i, i < 8 → i < f.bases.length → (mask.getLsbD i = true ↔ s.fqu.bufFree src i = false ∧ q.bufFree src i = true)) ∧
  (∀ (q q' : Fqu) (src : FilmSource) (i : Nat),
    (q.bufFree src i = true ↔ (∀ e ∈ (q.film src).queue, e.buf ≠ i) ∧ (∀ c, (q.film src).current = some c → c.1 ≠ i) ∧
      ∀ o, (q.rear.get o).latched ≠ some (src, i)) ∧
    (freedMask q q' src).testBit i = (decide (i < (q'.film src).bases.length) && q'.bufFree src i && !q.bufFree src i))

/-- R22, R32, R33, R34, R35: promotion, latch and retirement at a rear output's frame start, with every raise: those of the Film Queue
Unit in their order, the pacing event of the output anywhere among them (R167). `older ++ [e]` are the due entries of the new
source. R33: the starvation check: the flag is disarmed and the event raised exactly where the source plays, is not held, its queue
is empty and the flag armed. The place of the pacing event among the raises is free (log entry 29). -/
def Obligations.RearFrameStartFilm : Prop :=
  (∀ (o : Rear) (s : State), s.phase ≠ .held → (s.scan (rearOutput o)).st ≠ .stopped → (s.scan (rearOutput o)).frameOpen = false →
    (s.scan (rearOutput o)).timing ≠ none →
    let x := s.fqu.rear.get o
    let sc := s.scan (rearOutput o)
    let c := sc.frames + 1
    let aux : Word := if o = .rl then 0 else 1
    let pace : List Raise := if sc.pacing.on && !sc.frames.getLsbD sc.pacing.bit && c.getLsbD sc.pacing.bit
      then [⟨paceKind (rearOutput o), c, BitVec.ofNat 32 sc.pacing.bit⟩] else []
    let dry : List Raise := match x.pending with
      | none => []
      | some src => let f := s.fqu.film src
        if f.playing = true ∧ s.filmHeld = false ∧ f.queue = [] ∧ f.armed = true then [⟨starvedKind src, f.clock, aux⟩] else []
    let free := fun (t : State) (src : FilmSource) =>
      let m := freedMask s.fqu t.fqu src
      if m = 0 then [] else [(⟨freeKind src, BitVec.ofNat 32 m, aux⟩ : Raise)]
    let old := fun t => match x.route with
      | none => []
      | some src => free t src
    let new := fun t => match x.pending with
      | none => []
      | some src => if x.route = some src then [] else free t src
    let starts := fun (late : List Raise) (u : State → Prop) => ∃ t k, exec (.frameStart (rearOutput o)) s = .next t ∧ u t ∧
      (let film := late ++ dry ++ old t ++ new t
       Raises (film.take k ++ pace ++ film.drop k) s t) ∧
      (∀ o', o' ≠ o → t.fqu.rear.get o' = s.fqu.rear.get o') ∧ (t.fqu.rear.get o).route = x.pending ∧
      (t.fqu.rear.get o).pending = x.pending ∧ (∀ src, x.pending ≠ some src → t.fqu.film src = s.fqu.film src)
    (x.pending = none → starts [] fun t => (t.fqu.rear.get o).latched = none) ∧
    ∀ src, x.pending = some src → ∀ f, f = s.fqu.film src →
      ((∀ e ∈ f.queue, ¬ e.due ≤ f.clock) → starts [] fun t =>
        (t.fqu.film src).queue = f.queue ∧ (t.fqu.film src).current = f.current ∧ (t.fqu.film src).clock = f.clock ∧
        (t.fqu.rear.get o).latched = f.current.map fun c => (src, c.1)) ∧
      ∀ older e newer, f.queue = older ++ e :: newer → e.due ≤ f.clock → (∀ y ∈ newer, ¬ y.due ≤ f.clock) → starts
        (match older.getLast? with
          | none => []
          | some y => [⟨lateKind src, BitVec.ofNat 32 older.length, y.tag.setWidth 32⟩]) fun t =>
        (t.fqu.film src).queue = newer ∧ (t.fqu.film src).current = some (e.buf, e.tag) ∧ (t.fqu.film src).clock = f.clock ∧
        (t.fqu.rear.get o).latched = some (src, e.buf)) ∧
  (∀ (o : Rear) (s : State) (src : FilmSource) (f : Film), s.phase ≠ .held → (s.scan (rearOutput o)).st ≠ .stopped →
    (s.scan (rearOutput o)).frameOpen = false → (s.scan (rearOutput o)).timing ≠ none →
    (s.fqu.rear.get o).pending = some src → f = s.fqu.film src →
    ∃ t, exec (.frameStart (rearOutput o)) s = .next t ∧
      (let starved := f.playing = true ∧ s.filmHeld = false ∧ f.queue = [] ∧ f.armed = true
       (starved → (t.fqu.film src).armed = false ∧ t.seu.pending.getLsbD (starvedKind src).code = true) ∧
       (¬starved → (t.fqu.film src).armed = f.armed ∧ (s.seu.pending.getLsbD (starvedKind src).code = false →
         t.seu.pending.getLsbD (starvedKind src).code = false))))

/-- R30: in every step a queue keeps at most 8 entries, non-decreasing due times and no buffer named twice. -/
def Obligations.FilmQueuesStayOrdered : Prop :=
  ∀ s t : State, FilmQueuesOk s → step s = .next t → FilmQueuesOk t

/-- R40, R47, R48, R49: an asserting HS edge: a glitch, or a new line; with capture running, the line it ends is checked and counted,
whether or not the frame has a slot; a frame without one takes no mark. Pixel clocks come as operands, which is the choice of the
model (log entry 15); that reference lines of a frame without a slot are counted is DEDUCED (log entry 44). -/
def Obligations.HsEdge : Prop :=
  ∀ (clocks : Nat) (s : State), s.phase ≠ .held → ∀ k, k = s.ccu.sync.clock + clocks → ∀ y, y = s.ccu.sync →
    let line : Sync := ⟨k, some k, y.vsSeen, y.lines + 1, true, 0⟩
    (∀ h, y.lastHs = some h → k < h + 16 → Answers (.hsEdge clocks) s (raise .camGlitch 0 (s.ccu.seen &&& 0xFFFF)
      { s with ccu := { s.ccu with sync := { y with clock := k }, frame := s.ccu.frame.map fun f =>
          if f.slot.isSome ∧ f.mark = none then { f with mark := some .glitch } else f } })) ∧
    ((∀ h, y.lastHs = some h → h + 16 ≤ k) →
      (y.inLine = false ∨ s.capturing = false ∨ s.ccu.frame = none →
        Answers (.hsEdge clocks) s { s with ccu := { s.ccu with sync := line } }) ∧
      ∀ c f n g, s.capturing = true → y.inLine = true → s.ccu.setup = some c → s.ccu.frame = some f → n = y.lines - 1 →
        g = f.lineEnd c n y.samples →
        Answers (.hsEdge clocks) s { s with ccu := { s.ccu with sync := line, frame := some g } } ∧
          g.slot = f.slot ∧ g.number = f.number ∧ g.refSum = f.refSum ∧ g.pedestal = f.pedestal ∧ g.overran = f.overran ∧
          (if c.lc ≤ n ∧ n < c.lc + c.hc then
            (if y.samples < c.pc + c.wc then
              g.cropLines = f.cropLines ∧ g.mark = if f.slot = none then f.mark else some (f.mark.getD .short)
             else g.cropLines = f.cropLines + 1 ∧ g.mark = f.mark)
           else g.cropLines = f.cropLines ∧ g.mark = f.mark) ∧
          (if c.lr ≤ n ∧ n < c.lr + c.nLines then
            (if y.samples < c.pc + c.nSamples then g.refBad = true ∧ g.refLines = f.refLines
             else g.refBad = f.refBad ∧ g.refLines = f.refLines + 1)
           else g.refBad = f.refBad ∧ g.refLines = f.refLines))

/-- R40, R47, R48, R49, R50, R52, R53: a byte pair of the line in progress: with capture running and a frame open into a slot, its bytes
and the reference sum; without capture, without a frame or with one that has no slot, it is counted in the line and no more. Two
pixel clocks to a sample are the choice of the model (log entry 15). -/
def Obligations.CameraSample : Prop :=
  (∀ (chroma y : Byte) (s : State), s.phase ≠ .held → let q := s.ccu.sync
    let passes := fun n : Nat => Answers (.cameraSample chroma y) s
      { s with ccu := { s.ccu with sync := { q with clock := q.clock + 2, samples := n } } }
    (q.inLine = false ∨ (∃ c, s.ccu.setup = some c ∧ c.wl ≤ q.samples) → passes q.samples) ∧
    (q.inLine = true → (∀ c, s.ccu.setup = some c → q.samples < c.wl) →
      s.capturing = false ∨ s.ccu.frame = none ∨ (∃ f, s.ccu.frame = some f ∧ f.slot = none) → passes (q.samples + 1))) ∧
  ∀ (chroma y : Byte) (s : State) (c : CamSetup) (f : OpenFrame) (slot : Nat), s.phase ≠ .held → s.capturing = true →
    s.ccu.setup = some c → s.ccu.frame = some f → f.slot = some slot → s.ccu.sync.inLine = true →
    let q := s.ccu.sync
    let j := q.samples
    let n := q.lines - 1
    let counted : Sync := { q with clock := q.clock + 2, samples := j + 1 }
    let inRef := (c.lr ≤ n ∧ n < c.lr + c.nLines) ∧ c.pc ≤ j ∧ j < c.pc + c.nSamples
    let inCrop := (c.lc ≤ n ∧ n < c.lc + c.hc) ∧ c.pc ≤ j ∧ j < c.pc + c.wc
    let g := { f with refSum := f.refSum + if inRef then y.toNat else 0 }
    let a := c.base + slot * 1048576 + (n - c.lc) * c.pitch + 2 * (j - c.pc)
    let luma := s.ccu.gamma.getD (max 0 (min 255 ((y.toNat : Int) - f.pedestal + c.targetBlack))).toNat 0
    (c.wl ≤ j → Answers (.cameraSample chroma y) s { s with ccu := { s.ccu with sync := { q with clock := q.clock + 2 } } }) ∧
    (j < c.wl → ¬inCrop → Answers (.cameraSample chroma y) s { s with ccu := { s.ccu with sync := counted, frame := some g } }) ∧
    (j < c.wl → inCrop → f.overran = false → pixelCount s.ccu.buffer + 2 ≤ 4096 → Answers (.cameraSample chroma y) s
      { s with ccu := { s.ccu with sync := counted, frame := some g,
                                   buffer := s.ccu.buffer ++ [.pixel slot a chroma, .pixel slot (a + 1) luma] } }) ∧
    (j < c.wl → inCrop → f.overran = true → Answers (.cameraSample chroma y) s
      { s with ccu := { s.ccu with sync := counted, frame := some g } }) ∧
    (j < c.wl → inCrop → f.overran = false → 4096 ≤ pixelCount s.ccu.buffer → Answers (.cameraSample chroma y) s
      (raise .camOverrun f.number (BitVec.ofNat 32 slot)
        { s with ccu := { s.ccu with sync := counted,
                                     frame := some { g with mark := some (f.mark.getD .overrun), overran := true } } }))

/-- R41, R42, R48, R50, R51, R54, R55: an asserting VS edge: a glitch, or a frame boundary; while capture runs the line in progress
ends, the open frame is closed, and the next is opened into the slot chosen from the table that the close leaves. R55 step 4: the
slot chosen at an open: a FREE one first in ring order, else the READY one opened earliest, else none. Pixel clocks come as operands
(log entry 15, the choice of the model), presence comes before the frame (log entry 16, DEDUCED), ages are modulo 2^32 (log entry
17, DEDUCED). -/
def Obligations.VsEdge : Prop :=
  (∀ (clocks : Nat) (s : State), s.phase ≠ .held → ∀ y, y = s.ccu.sync → ∀ k, k = y.clock + clocks →
    let glitch := y.vsSeen = true ∧ y.lines < 16
    let boundary : Sync := ⟨k, y.lastHs, true, 0, false, 0⟩
    (glitch → Answers (.vsEdge clocks) s (raise .camGlitch 1 (s.ccu.seen &&& 0xFFFF)
      { s with ccu := { s.ccu with sync := { y with clock := k }, frame := s.ccu.frame.map fun f =>
          if f.slot.isSome ∧ f.mark = none then { f with mark := some .glitch } else f } })) ∧
    (¬glitch → s.capturing = false →
      let u := { s with ccu := { s.ccu with sync := boundary, present := true, presenceTimer := some 200 } }
      Answers (.vsEdge clocks) s (if s.ccu.present then u else raise .camPresence 1 0 u)) ∧
    (¬glitch → s.capturing = true → ∀ c, s.ccu.setup = some c → ∃ t g, exec (.vsEdge clocks) s = .next t ∧
      t.ccu.sync = boundary ∧ t.ccu.present = true ∧ t.ccu.presenceTimer = some 200 ∧
      t.ccu.seen = s.ccu.seen + 1 ∧ t.ccu.frame = some g ∧ g.number = s.ccu.seen + 1 ∧ g.mark = none ∧ g.cropLines = 0 ∧
      g.refSum = 0 ∧ g.refLines = 0 ∧ g.refBad = false ∧ g.overran = false ∧
      g.pedestal = (match c.mode with
        | .none => 0
        | .fixed => c.fixedPedestal
        | .tracking => (t.ccu.vpd + 8) / 16) ∧
      t.ccu.gamma = s.ccu.pendingGamma.getD s.ccu.gamma ∧ t.ccu.pendingGamma = none ∧
      (let closing := s.ccu.frame.map fun f => if y.inLine then f.lineEnd c (y.lines - 1) y.samples else f
       let closed := match closing with
         | none => s.ccu.slots
         | some f => match f.slot with
           | none => s.ccu.slots
           | some i => s.ccu.slots.modify i fun x =>
             { x with st := if f.cropLines = c.hc ∧ f.mark = none then .closing else .free }
       let bad : List Raise := match closing with
         | none => []
         | some f => if f.slot = none ∨ (f.cropLines = c.hc ∧ f.mark = none) then [] else
           [⟨.camBad, match f.mark with
             | none => 1
             | some .short => 2
             | some .glitch => 3
             | some .overrun => 4, f.number &&& 0xFFFF⟩]
       let dropped : List Raise := if g.slot = none then [⟨.camDropped, s.ccu.seen + 1, 0⟩] else []
       g.slot = chooseSlot { s.ccu with slots := closed, seen := s.ccu.seen + 1 } ∧
       (∀ i, g.slot = some i → t.ccu.slots = closed.set i ⟨.writing, s.ccu.seen + 1⟩ ∧ t.ccu.lastOpened = i) ∧
       (g.slot = none → t.ccu.slots = closed ∧ t.ccu.lastOpened = s.ccu.lastOpened) ∧
       Raises ((if s.ccu.present then [] else [⟨.camPresence, 1, 0⟩]) ++ bad ++ dropped) s t) ∧
      t.ccu.setup = s.ccu.setup ∧ t.ccu.enable = s.ccu.enable ∧ t.ccu.accepted = s.ccu.accepted ∧ t.time = s.time ∧
      t.mem = s.mem ∧ t.ppw = s.ppw ∧ t.cmu = s.cmu ∧ t.scn = s.scn ∧ t.menu = s.menu ∧ t.links = s.links ∧ t.fqu = s.fqu ∧
      t.rvc = s.rvc ∧ t.gde = s.gde ∧ t.chu = s.chu ∧ t.layout = s.layout ∧ t.pending = s.pending)) ∧
  (∀ c : Ccu, c.lastOpened < c.slots.length →
    (∀ k, k < c.slots.length → (slotAt c.slots ((c.lastOpened + 1 + k) % c.slots.length)).st = .free →
      (∀ k' < k, (slotAt c.slots ((c.lastOpened + 1 + k') % c.slots.length)).st ≠ .free) →
      chooseSlot c = some ((c.lastOpened + 1 + k) % c.slots.length)) ∧
    ((∀ x ∈ c.slots, x.st ≠ .free) → ∀ i, chooseSlot c = some i →
      (slotAt c.slots i).st = .ready ∧ i < c.slots.length ∧
        ∀ j, j < c.slots.length → (slotAt c.slots j).st = .ready →
          slotAge c.seen (slotAt c.slots j) ≤ slotAge c.seen (slotAt c.slots i)) ∧
    ((∀ x ∈ c.slots, x.st ≠ .free ∧ x.st ≠ .ready) → chooseSlot c = none) ∧
    (chooseSlot c = none → ∀ x ∈ c.slots, x.st ≠ .free ∧ x.st ≠ .ready))

/-- R41, R48, R49, R54, R56: the frame that an accepted VS closes; where a line is in progress it ends first. Valid, with its trailer
queued and the black level updated, or bad. Pixel clocks come as operands (log entry 15, the choice of the model). The presence word
1 of the trailer: presence comes before the frame (log entry 16, DEDUCED). -/
def Obligations.FrameClose : Prop :=
  ∀ (clocks : Nat) (s : State) (c : CamSetup) (f0 f : OpenFrame) (i : Nat), s.phase ≠ .held → s.capturing = true →
    s.ccu.setup = some c → s.ccu.frame = some f0 → f0.slot = some i → i < s.ccu.slots.length →
    f = (if s.ccu.sync.inLine then f0.lineEnd c (s.ccu.sync.lines - 1) s.ccu.sync.samples else f0) →
    ¬(s.ccu.sync.vsSeen = true ∧ s.ccu.sync.lines < 16) →
    let n := c.nLines * c.nSamples
    let m := (f.refSum + n / 2) / n
    let done := f.refBad = false ∧ f.refLines = c.nLines
    let vpd := if done then (max 0 (min 4080 ((s.ccu.vpd : Int) + (16 * (m : Int) - s.ccu.vpd) / 8))).toNat else s.ccu.vpd
    (f.cropLines = c.hc → f.mark = none → ∃ t, exec (.vsEdge clocks) s = .next t ∧ t.ccu.vpd = vpd ∧
      t.ccu.slots[i]?.map Slot.st = some .closing ∧
      .trailer i ([f.number, BitVec.ofNat 32 i, BitVec.ofNat 32 (c.wc + c.hc * 65536), BitVec.ofNat 32 c.pitch,
        BitVec.ofNat 32 f.pedestal, BitVec.ofNat 32 (if done then m + 2147483648 else 0), BitVec.ofNat 32 vpd, s.time, 1] ++
        List.replicate 7 0) false ∈ t.ccu.buffer) ∧
    (¬(f.cropLines = c.hc ∧ f.mark = none) → ∃ t, exec (.vsEdge clocks) s = .next t ∧ t.ccu.vpd = s.ccu.vpd ∧
      t.seu.pending.getLsbD EvKind.camBad.code = true ∧
      (∀ a b, CaptureItem.pixel i a b ∉ t.ccu.buffer) ∧ t.ccu.slots[i]?.map Slot.st ≠ some .closing)

/-- R45: when capture runs; that it does not after a reset; CAMERA_ENABLE by its table. R46, R130: what a capture stop and a capture
start do. At a start the transaction in progress, if it is a write without a grant and with a word in the capture area, is dropped
whole; a write that holds its grant is in memory. R42, R56: the presence timer expires; a trailer's second burst has been written.
That a granted write is in memory at a capture start, and when else a write is there, is DEDUCED (log entry 8). -/
def Obligations.CameraEnableAndClosings : Prop :=
  ((∀ s : State, s.capturing = true ↔ s.ccu.setup ≠ none ∧ (s.ccu.enable = true ∨ s.rvc.st ≠ .normal)) ∧
  (∀ phase straps mem rev rlp rrp waiting free pending,
    let t := State.blocksReset phase straps mem rev rlp rrp waiting free pending
    t.ccu.enable = false ∧ t.rvc.st = .normal ∧ t.capturing = false) ∧
  ∀ (r : Rec) (s : State), Arrives s → ∀ on, on = r.op1.getLsbD 0 →
    let u := { s with ccu := { s.ccu with enable := on } }
    (on = true → s.ccu.setup = none → Answers (.cameraEnable r) s (completed 16 r resWrongState 0 s)) ∧
    (on = true → s.ccu.setup ≠ none → Answers (.cameraEnable r) s
      (completed 16 r resDone 0 (if s.capturing then u else raised (startCapture u)))) ∧
    (on = false → s.rvc.st ≠ .normal → Answers (.cameraEnable r) s (completed 16 r resWrongState 0 s)) ∧
    (on = false → s.rvc.st = .normal → Answers (.cameraEnable r) s
      (completed 16 r resDone 0 (if s.capturing then stopCapture u else u)))) ∧
  ((∀ (s : State) (f : OpenFrame), s.ccu.frame = some f →
    let dirty := { s.seu with dirty := true }
    (f.slot = none → stopCapture s = { s with seu := dirty, ccu := { s.ccu with frame := none } }) ∧
    (∀ i, f.slot = some i → stopCapture s = { s with seu := dirty, ccu := { s.ccu with
      frame := none, slots := s.ccu.slots.modify i fun x => { x with st := .free },
      buffer := s.ccu.buffer.filter fun x => match x with
        | .pixel j _ _ => decide (j ≠ i)
        | .trailer _ _ _ => true } })) ∧
  (∀ s : State, s.ccu.frame = none → stopCapture s = { s with seu := { s.seu with dirty := true } }) ∧
  ∀ s : State,
    let cleared := { s with ccu := { s.ccu with frame := none }, seu := { s.seu with dirty := true } }
    let word := fun (q : Request) (i : Nat) => q.wordAddr.toNat * 4 + 4 * i
    let inside := fun (c : CamSetup) (a : Nat) => c.base ≤ a ∧ a < c.base + c.slots * 1048576
    let granted := s.burst = some .procWrite ∨ ∃ ws, s.burst = some (.procRead ws)
    (∀ c q i, s.ccu.setup = some c → s.ppw.port = .pending → s.ppw.tx = some q → q.write = true → ¬granted → i < q.len →
      inside c (word q i) → (∀ j < i, ¬inside c (word q j)) →
      let done := { cleared with ppw := { s.ppw with port := .free, tx := none, response := some ⟨!c.fault, []⟩ } }
      startCapture s = (if s.fma.mon.st = .tagged then done.setMon { s.fma.mon with st := .armed, tag := Reset.tag }
        else countCompletion done, [⟨.guardHit, BitVec.ofNat 32 (word q i), 9⟩])) ∧
    (∀ q, s.burst = some .procWrite → s.ppw.tx = some q → startCapture s =
      ({ cleared with mem := writeCells s.mem (requestCells (q.wordAddr.toNat * 4) q.data) }, [])) ∧
    (s.burst ≠ some .procWrite → (∀ c q, s.ccu.setup = some c → s.ppw.port = .pending → s.ppw.tx = some q → q.write = true → granted ∨
      ∀ i < q.len, ¬inside c (word q i)) → startCapture s = (cleared, []))) ∧
  ((∀ s : State, s.phase ≠ .held → s.ccu.presenceTimer = some 0 → Answers .camPresenceTimerExpiry s
    (raise .camPresence 0 0 { s with ccu := { s.ccu with present := false, presenceTimer := none } })) ∧
  ∀ (s : State) (ws all : List Word) (slot : Nat) (half : Bool) (rest : List CaptureItem), s.phase ≠ .held →
    s.burstInside = true → s.burst = some (.trailer true ws) → s.ccu.buffer = .trailer slot all half :: rest →
    Answers .trailerWriteComplete s (markEnded { s with
      mem := writeWords s.mem s.burstAddr ws,
      ccu := { s.ccu with buffer := rest, accepted := s.ccu.accepted + 1,
                          slots := s.ccu.slots.modify slot fun x => { x with st := .ready } },
      seu := { s.seu with dirty := true } }))

/-- R43, R179: the fields of a camera setup record, each from its place, and what they must be. R126, R128, R179: an entry of a guard
table image: its fields, each from its place, and what they must be; with condition OFF nothing is checked. R82, R83, R84, R85,
R179: the three guide records: their fields, each from its place, and what they must be. R101, R103, R179: a definition slot of a
chime table image: its fields, each from its place, and what they must be; nothing of an undefined slot is checked. R116, R179: the
proximity record: its fields, each from its place, and what they must be. That the enable is a whole word, which must be 0 or 1, is
the model's choice (log entry 38). -/
def Obligations.SetupRecordChecks : Prop :=
  (∀ (m ca : Nat) (ws : List Word),
    let h := fun i lo => field (wordAt ws i) lo 16
    let b := fun i lo => field (wordAt ws i) lo 8
    let c : CamSetup :=
      { wl := h 0 0, lc := h 1 0, hc := h 1 16, pc := h 2 0, wc := h 2 16, lr := h 3 0, nLines := b 3 16, nSamples := b 3 24,
        mode := if b 4 0 = 0 then .none else if b 4 0 = 1 then .fixed else .tracking,
        fixedPedestal := b 4 8, targetBlack := b 4 16, slots := b 5 0, fault := decide (b 5 8 = 1), base := (wordAt ws 6).toNat }
    let size := c.slots * 1048576
    let good := (64 ≤ c.wl ∧ c.wl ≤ 1280 ∧ c.wl % 2 = 0) ∧ (1 ≤ c.lc ∧ c.lc ≤ 1023) ∧ (48 ≤ c.hc ∧ c.hc ≤ 720) ∧
      (c.pc % 2 = 0 ∧ 64 ≤ c.wc ∧ c.wc ≤ 1280 ∧ c.wc % 2 = 0 ∧ c.pc + c.wc ≤ c.wl) ∧
      (c.nLines = 1 ∨ c.nLines = 2 ∨ c.nLines = 4) ∧ c.lr + c.nLines ≤ c.lc ∧
      (c.nSamples = 16 ∨ c.nSamples = 32 ∨ c.nSamples = 64) ∧ c.pc + c.nSamples ≤ c.wl ∧ b 4 0 ≤ 2 ∧ c.targetBlack ≤ 64 ∧
      (c.slots = 4 ∨ c.slots = 8) ∧ (2 * c.wc + 63) / 64 * 64 * c.hc ≤ 1048512 ∧ c.base % 1048576 = 0 ∧ c.base + size ≤ m ∧
      (ca + 65536 ≤ c.base ∨ c.base + size ≤ ca) ∧ b 5 8 ≤ 1
    (good → camSetupOf m ca ws = some c) ∧ (¬good → camSetupOf m ca ws = none)) ∧
  (∀ (m ca i : Nat) (ws : List Word),
    let base := (wordAt ws (2 * i)).toNat
    let w := wordAt ws (2 * i + 1)
    let size := field w 0 16 * 65536
    let entry : Condition → GuardRange := fun c =>
      { base := wordAt ws (2 * i), length := BitVec.ofNat 16 (field w 0 16), response := BitVec.ofNat 8 (field w 16 8), cond := c }
    let good := field w 24 8 ≤ 2 ∧ base % 65536 = 0 ∧ (1 ≤ field w 0 16 ∧ field w 0 16 ≤ 2048) ∧ base + size ≤ m ∧
      (ca + 65536 ≤ base ∨ base + size ≤ ca) ∧ field w 16 8 ≤ 1
    (field w 24 8 = 0 → guardEntryOf m ca ws i = some (entry .off)) ∧
    (field w 24 8 ≠ 0 → good → guardEntryOf m ca ws i = some (entry (if field w 24 8 = 1 then .always else .reverse))) ∧
    (field w 24 8 ≠ 0 → ¬good → guardEntryOf m ca ws i = none)) ∧
  (∀ ws : List Word,
    let n := fun i => (wordAt ws i).toNat
    let z := fun i => (wordAt ws i).toInt
    let v : VehicleRec := { wheelbase := n 0, overhang := n 1, half := n 2, staticHalf := n 3, hysteresis := n 4, stale := n 5 }
    let h : CalibRec := { h11 := z 16, h12 := z 17, h13 := z 18, h21 := z 19, h22 := z 20, h23 := z 21, h31 := z 22, h32 := z 23,
                          h33 := z 24 }
    let y : StyleRec :=
      { lmax := n 32, delta := n 33, d1 := n 34, d2 := n 35, d3 := n 36, width := n 37, near := wordAt ws 38, mid := wordAt ws 39,
        far := wordAt ws 40, static := wordAt ws 41, mark := wordAt ws 42, obstacle := wordAt ws 43 }
    let good := ((1500 ≤ v.wheelbase ∧ v.wheelbase ≤ 4000) ∧ (300 ≤ v.overhang ∧ v.overhang ≤ 1500) ∧
        (400 ≤ v.half ∧ v.half ≤ 1200) ∧ (400 ≤ v.staticHalf ∧ v.staticHalf ≤ 1200) ∧
        (1 ≤ v.hysteresis ∧ v.hysteresis ≤ 100) ∧ (100 ≤ v.stale ∧ v.stale ≤ 2000)) ∧
      (1000 ≤ y.lmax ∧ y.lmax ≤ 10000) ∧ (100 ≤ y.delta ∧ y.delta ≤ 1000 ∧ y.lmax / y.delta ≤ 64) ∧
      (y.d1 ≤ y.lmax ∧ y.d2 ≤ y.lmax ∧ y.d3 ≤ y.lmax) ∧
      ((y.d1 = 0 ∧ y.d2 = 0 ∧ y.d3 = 0) ∨ (y.d1 ≠ 0 ∧ y.d2 = 0 ∧ y.d3 = 0) ∨ (y.d1 ≠ 0 ∧ y.d1 < y.d2 ∧ y.d3 = 0) ∨
        (y.d1 ≠ 0 ∧ y.d1 < y.d2 ∧ y.d2 < y.d3)) ∧ (1 ≤ y.width ∧ y.width ≤ 15)
    (good → guideSetupOf ws = some ⟨v, h, y⟩) ∧ (¬good → guideSetupOf ws = none)) ∧
  (∀ (ws : List Word) (i : Nat),
    let byte := fun k : Nat => field (wordAt ws ((576 + 80 * i + k) / 4)) (8 * (k % 4)) 8
    let half := fun k : Nat => field (wordAt ws ((576 + 80 * i + k) / 4)) (8 * (k % 4)) 16
    let count := byte 5
    let note : Nat → Note := fun j =>
      { freq := half (16 + 8 * j), dur := half (18 + 8 * j), level := byte (20 + 8 * j), attack := byte (21 + 8 * j),
        release := byte (22 + 8 * j), square := decide (byte (23 + 8 * j) = 1) }
    let good := byte 1 ≤ 7 ∧ byte 2 ≤ 1 ∧ byte 4 ≤ 15 ∧ half 6 ≤ 2000 ∧ (1 ≤ count ∧ count ≤ 8) ∧
      ∀ j < count, ((note j).freq = 0 ∨ (100 ≤ (note j).freq ∧ (note j).freq ≤ 4000)) ∧
        (10 ≤ (note j).dur ∧ (note j).dur ≤ 2000) ∧ byte (23 + 8 * j) ≤ 1
    (byte 0 % 2 = 0 → chimeSlotOf ws i = some none) ∧
    (byte 0 % 2 = 1 → good → chimeSlotOf ws i = some (some
      { priority := byte 1, drop := decide (byte 2 = 1), notify := decide (byte 3 % 2 = 1), repeats := byte 4, gap := half 6,
        notes := (List.range count).map note })) ∧
    (byte 0 % 2 = 1 → ¬good → chimeSlotOf ws i = none)) ∧
  (∀ ws : List Word,
    let n := fun i => (wordAt ws i).toNat
    let wave := field (wordAt ws 0) 24 8
    let x : Proximity :=
      { freq := field (wordAt ws 0) 0 16, level := field (wordAt ws 0) 16 8, square := decide (wave = 1), beep := n 1, stop := n 2,
        d1 := n 3, d2 := n 4, d3 := n 5, d4 := n 6, g1 := n 7, g2 := n 8, g3 := n 9, g4 := n 10, enable := decide (n 11 = 1) }
    let good := (100 ≤ x.freq ∧ x.freq ≤ 4000) ∧ wave ≤ 1 ∧ (20 ≤ x.beep ∧ x.beep ≤ 500) ∧
      (x.stop < x.d1 ∧ x.d1 < x.d2 ∧ x.d2 < x.d3 ∧ x.d3 < x.d4 ∧ x.d4 ≤ 10000) ∧
      (x.g1 ≤ x.g2 ∧ x.g2 ≤ x.g3 ∧ x.g3 ≤ x.g4 ∧ x.g4 ≤ 2000) ∧ n 11 ≤ 1
    (good → proximityOf ws = some x) ∧ (¬good → proximityOf ws = none))

/-- R52, R53, R57: in every step the capture buffer keeps at most 4096 pixel bytes, at most one slot is SHOWN, and a slot that is
WRITING is the open frame's, so at most one is. -/
def Obligations.CaptureStaysSound : Prop :=
  ∀ s t : State, CaptureOk s → step s = .next t → CaptureOk t

/-- R46, R61, R64, R65, R69, R70, R71, R74, R75, R76, R86, R130: an evaluation of R: no event, a rise, a fall, in every reverse state.
At an engagement the raises of the Reverse Controller keep their order, and those of the port and of the Chime Unit stand anywhere
among them (R167). The order between the raises of different blocks is free (log entry 29); a granted write is in memory at the end
of its burst otherwise (log entry 8, DEDUCED). -/
def Obligations.RequestEvaluation : Prop :=
  ∀ s t : State, t = evaluateR s →
    let r := s.rvc
    let pin := r.debounced
    let vehicle := s.ppw.taken.vehicle.getLsbD 0
    let now := match r.setup.source with
      | .pin => pin
      | .vehicle => vehicle
      | .either => pin || vehicle
    let active := r.st = .engaging ∨ r.st = .live ∨ r.st = .blanked
    let rises := now = true ∧ r.request = false
    let falls := now = false ∧ r.request = true
    let engages := rises ∧ r.st = .normal
    let releases := falls ∧ active ∧ r.setup.linger = 0
    (now = r.request → t = s) ∧
    (now ≠ r.request → t.rvc.request = now ∧ t.seu.dirty = true ∧ t.rvc.setup = r.setup ∧ t.rvc.rev = r.rev ∧
      t.rvc.debounced = r.debounced ∧ t.rvc.revTimer = r.revTimer ∧ t.time = s.time ∧ t.cmu = s.cmu ∧
      t.scn = s.scn ∧ t.menu = s.menu ∧ t.links = s.links ∧ t.fqu = s.fqu ∧ t.layout = s.layout) ∧
    (engages → t.rvc.st = .engaging ∧ t.rvc.engageTimer = some r.setup.engage ∧ t.rvc.staleTimer = none ∧
      t.rvc.releaseAtStop = false ∧
      t.gde = (trigger { s with rvc := { r with st := .engaging }, gde := { s.gde with outdated := true } }).gde ∧
      (let capture := if s.ccu.setup.isSome && !s.ccu.enable then startCapture s else (s, [])
       let chime := match r.setup.chime with
         | none => (s, [])
         | some id => requestEngage id s
       let own : List Raise := ⟨.revEngaged, if pin then 1 else 0, if vehicle then 1 else 0⟩ ::
         if s.scn.ctr.st = .running then [] else [⟨.revNoOutput, 1, if s.scn.ctr.st = .stopped then 0 else 2⟩]
       t.mem = capture.1.mem ∧ t.ppw = capture.1.ppw ∧ t.ccu = capture.1.ccu ∧ t.fma = capture.1.fma ∧
       t.chu.q = chime.1.chu.q ∧ t.chu.queue = chime.1.chu.queue ∧
       ∃ rs, own.Sublist rs ∧ rs.Perm (own ++ capture.2 ++ chime.2) ∧ Raises rs s t) ∧
      ∀ id, r.setup.chime = some id →
        (31 < id ∨ s.chimeDef id = none → requestEngage id s = (s, [⟨.chimeDropped, BitVec.ofNat 32 id, 4⟩])) ∧
        (id < 32 → s.chimeDef id ≠ none → s.chu.q.st = .idle → s.chu.queue = [] →
          t.chu.q.st = .playing ∧ t.chu.q.id = id ∧ t.chu.q.engage = true)) ∧
    (rises → r.st = .linger → t.rvc.lingerTimer = none ∧ Raises [] s t ∧ t.chu.q = s.chu.q ∧ t.chu.queue = s.chu.queue ∧
      (r.staleTimer ≠ none → t.rvc.st = .live ∧ t.rvc.engageTimer = r.engageTimer) ∧
      (r.staleTimer = none → t.rvc.st = .engaging ∧ t.rvc.engageTimer = some r.setup.engage)) ∧
    (rises → active → t.rvc.st = r.st) ∧
    (falls → active → r.setup.linger ≠ 0 → t.rvc.st = .linger ∧ t.rvc.lingerTimer = some r.setup.linger ∧
      t.rvc.engageTimer = none ∧ t.rvc.staleTimer = r.staleTimer ∧ t.rvc.heldBlanked = decide (r.st = .blanked) ∧
      t.chu.p.st = .off ∧ Raises [] s t) ∧
    (releases → t.rvc.st = .normal ∧ t.rvc.engageTimer = none ∧ t.rvc.staleTimer = none ∧ t.rvc.lingerTimer = none ∧
      t.rvc.releaseAtStop = decide (s.scn.ctr.st = .stopping) ∧ t.chu.p.st = .off ∧ Raises [⟨.revReleased, if r.st = .engaging then 1 else if r.st = .live then 2 else 3, 0⟩] s t ∧
      t.gde = (syncGuide true { s with rvc := { r with st := .normal } }).gde ∧
      (let c := if s.ccu.setup.isSome && !s.ccu.enable then (stopCapture s).ccu else s.ccu
       t.ccu = if s.scn.ctr.st = .stopped
         then { c with slots := c.slots.map fun x => if x.st = .shown then { x with st := .free } else x } else c)) ∧
    (falls → ¬active → t.rvc.st = r.st) ∧
    (¬engages → ¬releases → t.gde = s.gde ∧ t.ccu = s.ccu) ∧
    (¬engages → t.mem = s.mem ∧ t.ppw = s.ppw ∧ t.fma = s.fma ∧ t.chu.q = s.chu.q ∧ t.chu.queue = s.chu.queue) ∧
    (t.rvc.st ≠ r.st → t.chu.p = (syncVoiceP s.zone { s with rvc := { r with st := t.rvc.st } }).chu.p)

/-- R67, R68, R70, R71, R74, R86: the expiries of the engage, stale and linger timers. R75: the couplings are levels of the reverse
state. Couplings as levels are DEDUCED (log entry 30). -/
def Obligations.ReverseTimers : Prop :=
  (∀ s : State, s.phase ≠ .held →
    (s.rvc.engageTimer = some 0 → s.rvc.st = .engaging → ∃ t, exec .engageTimerExpiry s = .next t ∧ t.rvc.st = .blanked ∧
      t.rvc.engageTimer = none ∧ t.rvc.staleTimer = s.rvc.staleTimer ∧ t.rvc.setup = s.rvc.setup ∧
      Raises [⟨.revDegraded, 1, if s.ccu.present then 1 else 0⟩] s t ∧ t.ccu.slots = s.ccu.slots ∧ t.gde = s.gde ∧ t.scn = s.scn ∧
      t.fqu = s.fqu ∧ t.mem = s.mem ∧ t.ppw = s.ppw ∧ t.cmu = s.cmu ∧ t.time = s.time) ∧
    (s.rvc.staleTimer = some 0 → s.rvc.st = .live → ∃ t, exec .staleTimerExpiry s = .next t ∧ t.rvc.st = .blanked ∧
      t.rvc.staleTimer = none ∧ t.rvc.setup = s.rvc.setup ∧ Raises [⟨.revDegraded, 2, if s.ccu.present then 1 else 0⟩] s t ∧
      t.ccu.slots = s.ccu.slots ∧ t.gde = s.gde ∧ t.scn = s.scn ∧ t.fqu = s.fqu ∧ t.mem = s.mem ∧ t.ppw = s.ppw ∧
      t.cmu = s.cmu ∧ t.time = s.time) ∧
    (s.rvc.staleTimer = some 0 → s.rvc.st = .linger → Answers .staleTimerExpiry s
      { s with rvc := { s.rvc with staleTimer := none }, seu := { s.seu with dirty := true } }) ∧
    (s.rvc.lingerTimer = some 0 → s.rvc.st = .linger → ∃ t, exec .lingerTimerExpiry s = .next t ∧ t.rvc.st = .normal ∧
      t.rvc.engageTimer = none ∧ t.rvc.staleTimer = none ∧ t.rvc.lingerTimer = none ∧ t.rvc.setup = s.rvc.setup ∧
      t.rvc.releaseAtStop = decide (s.scn.ctr.st = .stopping) ∧ Raises [⟨.revReleased, 4, 0⟩] s t ∧ t.gde = (syncGuide true { s with rvc := { s.rvc with st := .normal } }).gde ∧
      (let c := if s.ccu.setup.isSome && !s.ccu.enable then (stopCapture s).ccu else s.ccu
       t.ccu.frame = c.frame ∧ t.ccu.slots = if s.scn.ctr.st = .stopped
         then c.slots.map fun x => if x.st = .shown then { x with st := .free } else x else c.slots) ∧
      t.scn = s.scn ∧ t.fqu = s.fqu ∧ t.mem = s.mem ∧ t.ppw = s.ppw ∧ t.cmu = s.cmu ∧ t.time = s.time)) ∧
  (∀ s : State,
    (s.rvc.st ≠ .normal → s.profile = s.fma.reverse ∧ (s.ccu.setup ≠ none → s.capturing = true) ∧
      s.filmHeld = s.rvc.setup.filmHold ∧ ∀ g : GuardRange, g.cond = .reverse → s.rangeActive g = true) ∧
    (s.rvc.st = .normal → s.profile = s.fma.normal ∧ (s.ccu.enable = false → s.capturing = false) ∧ s.filmHeld = false ∧
      ∀ g : GuardRange, g.cond = .reverse → s.rangeActive g = false) ∧
    (s.voicePEnabled = true ↔ s.rvc.st = .engaging ∨ s.rvc.st = .live ∨ s.rvc.st = .blanked))

/-- R66, R72, R74, R99: the frame start of CTR: slot selection, the reverse layout latched after it, release in NORMAL; in every case
the Guide Engine's swap and its waiting recompute. Ages of slots are modulo 2^32, which is DEDUCED (log entry 17). -/
def Obligations.CentreFrameStart : Prop :=
  ∀ (s : State) (tm : Timing), s.phase ≠ .held → s.scn.ctr.st ≠ .stopped → s.scn.ctr.frameOpen = false →
    s.scn.ctr.timing = some tm →
    let r := s.rvc
    let slots := s.ccu.slots
    let ready := fun j => j < slots.length ∧ (slotAt slots j).st = .ready
    let shows := fun (slot : Option Nat) (mode : DisplayMode) => some
      ({ strip := min r.setup.strip (tm.ha / 2), x := r.setup.x, y := r.setup.y, scale := r.setup.scale, fill := r.setup.fill,
         unavailable := r.setup.unavailable, slot := slot, mode := mode } : Layout)
    let selecting := r.st = .engaging ∨ r.st = .live ∨ r.st = .blanked
    let held := shownSlot slots
    (∃ t, exec (.frameStart .ctr) s = .next t ∧ t.gde = (guideFrameStart s).gde) ∧
    (selecting → (∃ j, ready j) → ∃ t i, exec (.frameStart .ctr) s = .next t ∧ ready i ∧
      (∀ j, ready j → slotAge s.ccu.seen (slotAt slots i) ≤ slotAge s.ccu.seen (slotAt slots j)) ∧
      t.ccu.slots.length = slots.length ∧ (slotAt t.ccu.slots i).st = .shown ∧
      (∀ j, j < slots.length → j ≠ i → (slotAt t.ccu.slots j).st =
        if (slotAt slots j).st = .shown ∨ (slotAt slots j).st = .ready then .free else (slotAt slots j).st) ∧
      t.rvc.st = .live ∧ t.rvc.staleTimer = some r.setup.stale ∧ t.rvc.engageTimer = none ∧
      t.layout = shows (some i) .camera) ∧
    (selecting → (¬∃ j, ready j) → ∃ t, exec (.frameStart .ctr) s = .next t ∧ t.ccu.slots = slots ∧ t.rvc = r ∧
      t.layout = shows held (if r.st = .blanked then .unavailable else if held ≠ none then .camera else .fill)) ∧
    (r.st = .linger → ∃ t, exec (.frameStart .ctr) s = .next t ∧ t.ccu.slots = slots ∧ t.rvc = r ∧
      t.layout = shows held (if r.heldBlanked then .unavailable else if held ≠ none then .camera else .fill)) ∧
    (r.st = .normal → ∃ t, exec (.frameStart .ctr) s = .next t ∧ t.layout = none ∧ t.rvc = { r with releaseAtStop := false } ∧
      t.ccu.slots = slots.map fun x => if x.st = .shown then { x with st := .free } else x)

/-- R61, R62, R63, R87: the checks of REVERSE_SETUP; the setup replaced at once, R evaluated again where the request source changed, and
a trigger where K, x, y or the scale did. That the evaluation of R comes before the trigger is DEDUCED (log entry 32). -/
def Obligations.ReverseSetupInstalls : Prop :=
  ∀ (r : Rec) (s : State), Arrives s →
    let chime := field r.op3 24 8
    let good := field r.op4 28 2 ≤ 2 ∧ (100 ≤ field r.op1 0 16 ∧ field r.op1 0 16 ≤ 2000) ∧
      (100 ≤ field r.op1 16 16 ∧ field r.op1 16 16 ≤ 1000) ∧ field r.op2 0 16 ≤ 10000 ∧ field r.op2 16 16 ≤ 540 ∧
      (field r.op3 0 12 ≤ 1919 ∧ field r.op3 12 12 ≤ 1079) ∧ (field r.op4 24 4 = 1 ∨ field r.op4 24 4 = 2) ∧
      (chime ≤ 31 ∨ chime = 255)
    (¬good → Answers (.reverseSetup r) s (completed 17 r resBadParam 0 s)) ∧
    (good → ∀ new : RevSetup, new =
        { source := if field r.op4 28 2 = 0 then .pin else if field r.op4 28 2 = 1 then .vehicle else .either,
          engage := field r.op1 0 16, stale := field r.op1 16 16, linger := field r.op2 0 16, strip := field r.op2 16 16,
          x := field r.op3 0 12, y := field r.op3 12 12, scale := field r.op4 24 4, fill := r.op4.setWidth 24,
          unavailable := r.op5.setWidth 24, chime := if chime = 255 then none else some chime, filmHold := r.op4.getLsbD 31 } →
      (let u := { s with rvc := { s.rvc with setup := new }, seu := { s.seu with dirty := true } }
       let x := s.rvc.setup
       let moved := decide (new.strip ≠ x.strip ∨ new.x ≠ x.x ∨ new.y ≠ x.y ∨ new.scale ≠ x.scale)
       Answers (.reverseSetup r) s
         (completed 17 r resDone 0 (triggerIf moved (if new.source = x.source then u else evaluateR u)))) ∧
      (s.rvc.st = .normal → new.source = s.rvc.setup.source →
        Answers (.reverseSetup r) s (completed 17 r resDone 0 { s with rvc := { s.rvc with setup := new } })) ∧
      (∃ t, exec (.reverseSetup r) s = .next t ∧ t.rvc.setup = new ∧ t.cmu.st = .writing ∧ t.cmu.code = resDone ∧
        t.cmu.detail = 0 ∧ t.seu.dirty = true ∧ t.scn = s.scn ∧ t.fqu = s.fqu ∧ t.mem = s.mem ∧ t.time = s.time ∧
        (new.source = s.rvc.setup.source → t.rvc.st = s.rvc.st ∧ t.rvc.request = s.rvc.request ∧
          t.rvc.engageTimer = s.rvc.engageTimer ∧ t.rvc.staleTimer = s.rvc.staleTimer ∧ t.rvc.lingerTimer = s.rvc.lingerTimer)))

/-- R64, R67 to R71: every step keeps each reverse timer to the states in which it runs. -/
def Obligations.ReverseTimersStaySound : Prop :=
  ∀ s t : State, ReverseTimersOk s → step s = .next t → ReverseTimersOk t

/-- R79, R80, R87: the takes of STEER and OBSTACLE: what is stored, and when the take is a trigger. R81, R87: the stale expiries of the
two inputs. That a change of usability at a take sets status-dirty is DEDUCED (log entry 22). -/
def Obligations.GuideInputs : Prop :=
  (∀ (v : Word) (s : State), s.phase ≠ .held →
    let limit := match s.gde.setup with
      | none => 500
      | some g => g.vehicle.stale
    let hysteresis := match s.gde.setup with
      | none => 20
      | some g => g.vehicle.hysteresis
    let c := s.gde.captured
    (∀ i j : Steering, i = s.gde.steering →
      j = ⟨max (-4500) (min 4500 (v.setWidth 16).toInt), v.getLsbD 31, true, some limit, limit⟩ →
      let changed := decide (i.fresh = false) || decide ((i.valid && i.fresh) ≠ j.valid)
      let due := decide (j.valid ≠ c.steerOk) || (j.valid && decide (hysteresis ≤ (j.angle - c.angle).natAbs))
      Answers (.steer v) s (triggerIf due { s with
        ppw := { s.ppw with taken := { s.ppw.taken with steer := v } },
        gde := { s.gde with steering := j }, seu := { s.seu with dirty := s.seu.dirty || changed } })) ∧
    (∀ i j : Obstacle, i = s.gde.obstacle →
      j = ⟨min 10000 (field v 0 16), v.getLsbD 31, true, some limit, limit⟩ →
      let changed := decide (i.fresh = false) || decide ((i.valid && i.fresh) ≠ j.valid)
      let due := decide (j.valid ≠ c.obstacleOk) || (j.valid && decide (50 ≤ ((j.dist : Int) - c.dist).natAbs))
      Answers (.obstacle v) s (syncVoiceP s.zone (triggerIf due { s with
        ppw := { s.ppw with taken := { s.ppw.taken with obstacle := v } },
        gde := { s.gde with obstacle := j }, seu := { s.seu with dirty := s.seu.dirty || changed } })))) ∧
  (∀ s : State, s.phase ≠ .held →
    (∀ i, i = s.gde.steering → i.timer = some 0 →
      let u := { s with gde := { s.gde with steering := { i with timer := none, fresh := false } }, seu := { s.seu with dirty := true } }
      Answers .steeringStaleTimerExpiry s (triggerIf s.gde.captured.steerOk
        (if s.rvc.st = .normal then u else raise .guideStale (BitVec.ofNat 32 i.limit) (if i.valid then 1 else 0) u))) ∧
    (∀ i, i = s.gde.obstacle → i.timer = some 0 →
      let u := { s with gde := { s.gde with obstacle := { i with timer := none, fresh := false } }, seu := { s.seu with dirty := true } }
      Answers .obstacleStaleTimerExpiry s (syncVoiceP s.zone (triggerIf s.gde.captured.obstacleOk u))))

/-- R88: what a trigger does, by the activity and the recompute state, and what a recompute captures at its start. R86: the engine
becoming active and inactive with the reverse state. R99: the Guide Engine at a CTR frame start: swap, else emptying, then the
waiting recompute. The captured strip K without a timing record of CTR is the choice of the model (log entry 37). -/
def Obligations.GuideTriggers : Prop :=
  (∀ s : State,
    let g := s.gde
    let k := s.rvc.setup.strip
    let captured : Captured :=
      { angle := g.steering.angle, steerOk := g.steering.valid && g.steering.fresh, dist := g.obstacle.dist,
        obstacleOk := g.obstacle.valid && g.obstacle.fresh, setup := g.setup,
        area := s.scn.ctr.timing.map fun t => (t.wa, t.ha),
        strip := match s.scn.ctr.timing with
          | some t => min k (t.ha / 2)
          | none => k }
    let dirty := { s.seu with dirty := true }
    (s.rvc.st = .normal → trigger s = s) ∧
    (s.rvc.st ≠ .normal → g.recompute = .idle → g.idle ≠ .complete → trigger s = { s with seu := dirty, gde :=
      { g with captured := captured, idle := .drawing, recompute := .running, pendingFlag := false,
               bank0 := if g.shown1 then [] else g.bank0, bank1 := if g.shown1 then g.bank1 else [] } }) ∧
    (s.rvc.st ≠ .normal → g.recompute = .idle → g.idle = .complete →
      trigger s = { s with seu := dirty, gde := { g with recompute := .waiting } }) ∧
    (s.rvc.st ≠ .normal → g.recompute = .running →
      trigger s = { s with seu := { s.seu with dirty := s.seu.dirty || !g.pendingFlag }, gde := { g with pendingFlag := true } }) ∧
    (s.rvc.st ≠ .normal → g.recompute = .waiting → trigger s = s)) ∧
  (∀ (was : Bool) (s : State), let t := syncGuide was s
    (s.rvc.st ≠ .normal → was = false → t = trigger { s with gde := { s.gde with outdated := true },
                                                             seu := { s.seu with dirty := true } }) ∧
    (s.rvc.st = .normal → was = true → t.gde.recompute = .idle ∧ t.gde.pendingFlag = false ∧ t.gde.pendingSetup = none ∧
      t.gde.setup = (if s.gde.pendingSetup = none then s.gde.setup else s.gde.pendingSetup) ∧ t.gde.shown1 = s.gde.shown1 ∧
      t.gde.bank0 = s.gde.bank0 ∧ t.gde.bank1 = s.gde.bank1 ∧ t.gde.idle ≠ .complete ∧
      (s.gde.recompute = .running → t.gde.idle = .clear) ∧ t.gde.steering = s.gde.steering ∧ t.gde.obstacle = s.gde.obstacle) ∧
    ((s.rvc.st ≠ .normal ↔ was = true) → t = s)) ∧
  (∀ s : State, let g := s.gde; let t := guideFrameStart s
    (g.idle = .complete → t.gde.shown1 = !g.shown1 ∧ t.gde.outdated = false ∧
      (if t.gde.shown1 then t.gde.bank1 else t.gde.bank0) = (if g.shown1 then g.bank0 else g.bank1)) ∧
    (g.idle ≠ .complete → t.gde.shown1 = g.shown1 ∧ t.gde.outdated = false ∧
      (if g.shown1 then t.gde.bank1 else t.gde.bank0) = if g.outdated then [] else if g.shown1 then g.bank1 else g.bank0) ∧
    (g.recompute = .waiting → t.gde.recompute = .running ∧ t.gde.idle = .drawing ∧ t.gde.pendingFlag = false ∧
      (if t.gde.shown1 then t.gde.bank0 else t.gde.bank1) = []) ∧
    (g.recompute ≠ .waiting → t.gde.recompute = g.recompute ∧ (g.idle = .complete → t.gde.idle = .clear) ∧
      (g.idle ≠ .complete → t.gde.idle = g.idle)) ∧
    t.rvc = s.rvc ∧ t.ccu = s.ccu ∧ t.scn = s.scn ∧ t.seu.pending = s.seu.pending)

/-- R82, R89, R98: GUIDE_SETUP when its records have been read, and the completion of a recompute. That the drawing is filed at the
completion is DEDUCED (log entry 26). -/
def Obligations.GuideSetupAndCompletion : Prop :=
  (∀ (ws : List Word) (s : State), ReadEnds 18 ws s →
    (guideSetupOf ws = none → Answers .guideSetupReadEnd s (finish resBadParam 0 (markEnded s))) ∧
    ∀ g, guideSetupOf ws = some g →
      (s.gde.recompute = .running → Answers .guideSetupReadEnd s
        (finish resDone 1 (markEnded { s with gde := { s.gde with pendingSetup := some g } }))) ∧
      (s.gde.recompute ≠ .running → Answers .guideSetupReadEnd s
        (finish resDone 0 (trigger (markEnded { s with gde := { s.gde with setup := some g } }))))) ∧
  ∀ s : State, s.phase ≠ .held → s.gde.recompute = .running →
    let d := drawCaptured s.gde.captured
    let due := s.gde.pendingFlag = true ∨ s.gde.pendingSetup ≠ none
    ∃ t, exec .recomputeCompletion s = .next t ∧ t.gde.idle = .complete ∧
      (if t.gde.shown1 then t.gde.bank0 else t.gde.bank1) = d.bank ∧
      (if t.gde.shown1 then t.gde.bank1 else t.gde.bank0) = (if s.gde.shown1 then s.gde.bank1 else s.gde.bank0) ∧
      t.gde.shown1 = s.gde.shown1 ∧ t.gde.pendingFlag = false ∧ t.gde.pendingSetup = none ∧
      t.gde.setup = (if s.gde.pendingSetup = none then s.gde.setup else s.gde.pendingSetup) ∧
      (due → t.gde.recompute = .waiting) ∧ (¬due → t.gde.recompute = .idle) ∧
      Raises (if d.dropped = 0 then [] else [⟨.guideOverflow, BitVec.ofNat 32 d.dropped, BitVec.ofInt 32 d.lowest⟩]) s t ∧ t.gde.captured = s.gde.captured ∧ t.gde.steering = s.gde.steering ∧
      t.gde.obstacle = s.gde.obstacle ∧ t.rvc = s.rvc ∧ t.scn = s.scn ∧ t.chu = s.chu ∧ t.fqu = s.fqu ∧ t.mem = s.mem ∧
      t.ppw = s.ppw ∧ t.cmu = s.cmu ∧ t.time = s.time ∧ t.ccu.slots = s.ccu.slots

/-- R90, R91, R92: the tangent at every angle, the radius, and the square root rounded to nearest. R93: a ground point projected by the
captured calibration. R92, R94, R95: the segments of a drawing in draw order: the static lines, the dynamic lines, the marks, the
obstacle bar, each between two points that were kept, with its colour and width. R96: the spans of a segment, row by row in rising
order, whichever way round its ends are given. R97, R98: the rows of a drawing: on each row below the strip the first 8 of the spans
that reach the active area, clipped to it, in the order they are produced; how many had no room, and the lowest row with one of
those. Without a setup or without a timing record of CTR nothing is drawn. R97, R98: every span of a drawing lies on the captured
area below the strip, and no row holds more than 8. -/
def Obligations.GuideGeometry : Prop :=
  ((tangents.length = 91 ∧ [0, 1, 20, 21, 30, 40, 45, 60, 80, 90].map (fun i => tangents.getD i 0) =
    [0, 572, 11556, 12146, 17560, 23853, 27146, 37837, 54991, 65536]) ∧
  (∀ i f, f < 50 → 50 * i + f ≤ 4500 → tangentOf (50 * i + f) =
    tangents.getD i 0 + ((tangents.getD (i + 1) 0 - tangents.getD i 0) * f + 25) / 50) ∧
  (∀ (w : Nat) (a : Int) (ok : Bool), (radiusOf w a ok = none ↔ a.natAbs < 10 ∨ ok = false) ∧
    ∀ r, radiusOf w a ok = some r → radiusOf w (-a) ok = some (-r) ∧
      (0 < a → r = ((2 * w * 65536 + tangentOf a.natAbs) / (2 * tangentOf a.natAbs) : Nat))) ∧
  (∀ q, q < 2 ^ 64 → 4 * q < (2 * roundSqrt q + 1) ^ 2 ∧ (q ≠ 0 → (2 * roundSqrt q - 1) ^ 2 < 4 * q)) ∧
  (∀ (e y : Int), lineX none e y = some e) ∧
  ∀ (r e y : Int), (lineX (some r) e y = none ↔ (r - e) * (r - e) < y * y) ∧
    ∀ x, lineX (some r) e y = some x →
      x = if r < 0 then r + roundSqrt ((r - e) * (r - e) - y * y).toNat else r - roundSqrt ((r - e) * (r - e) - y * y).toNat) ∧
  (∀ (c : CalibRec) (x y : Int),
    let un := c.h11 * x + c.h12 * y + c.h13
    let vn := c.h21 * x + c.h22 * y + c.h23
    let den := c.h31 * x + c.h32 * y + c.h33
    let place := fun n : Int => max (-32768) (min 32767 ((2 * n + den) / (2 * den)))
    projectPoint c x y = if den ≤ 0 then none else some (place un, place vn)) ∧
  (∀ (c : Captured) (g : GuideSetup),
    let v := g.vehicle
    let st := g.style
    let path := radiusOf v.wheelbase c.angle c.steerOk
    let onLine := fun (e : Int) (yb : Nat) => match lineX path e (v.overhang + yb) with
      | none => none
      | some x => projectPoint g.calib x yb
    let beside := fun (e : Int) (yb : Nat) => projectPoint g.calib e yb
    let joined := fun (p q : Option (Int × Int)) (colour : Word) (width : Nat) => match p, q with
      | some a, some b => [(⟨a, b, colour, width⟩ : Segment)]
      | _, _ => []
    let static := fun e : Int => joined (beside e 0) (beside e st.lmax) st.static st.width
    let colour := fun yb : Nat => if st.d1 = 0 ∨ yb < st.d1 then st.near else if st.d2 = 0 ∨ yb < st.d2 then st.mid else st.far
    let dynamic := fun e : Int => ((List.range (st.lmax / st.delta)).map fun k =>
      joined (onLine e (k * st.delta)) (onLine e ((k + 1) * st.delta)) (colour (k * st.delta)) st.width).flatten
    let across := fun (d : Nat) (colour : Word) (width : Nat) => if c.steerOk
      then joined (onLine (-(v.half : Int)) d) (onLine v.half d) colour width
      else joined (beside (-(v.staticHalf : Int)) d) (beside v.staticHalf d) colour width
    let mark := fun d : Nat => if d = 0 then [] else across d st.mark st.width
    segmentsOf c g = static (-(v.staticHalf : Int)) ++ static v.staticHalf ++
      (if c.steerOk then dynamic (-(v.half : Int)) ++ dynamic v.half else []) ++ mark st.d1 ++ mark st.d2 ++ mark st.d3 ++
      (if c.obstacleOk = true ∧ c.dist ≤ st.lmax then across c.dist st.obstacle (st.width + 2) else [])) ∧
  (∀ (u0 v0 u1 v1 : Int) (colour : Word) (width : Nat), v0 ≤ v1 →
    let spans := spansOf ⟨(u0, v0), (u1, v1), colour, width⟩
    let h : Int := (width / 2 : Nat)
    let dv := v1 - v0
    let u := fun v : Int => u0 + ((u1 - u0) * (v - v0) * 2 + dv) / (2 * dv)
    let first := fun v : Int => if dv = 0 then min u0 u1 - h else if v < v1 then min (u v) (u (v + 1)) - h else u1 - h
    let last := fun v : Int => if dv = 0 then max u0 u1 + h else if v < v1 then max (u v) (u (v + 1)) + h else u1 + h
    let more := if dv < |u1 - u0| then h else 0
    spansOf ⟨(u1, v1), (u0, v0), colour, width⟩ = spans ∧ (spans.Pairwise fun a b => a.row < b.row) ∧
    ∀ sp : Span, sp ∈ spans ↔ v0 - more ≤ sp.row ∧ sp.row ≤ v1 + more ∧ sp.first = first (max v0 (min v1 sp.row)) ∧
      sp.last = last (max v0 (min v1 sp.row)) ∧ sp.colour = colour) ∧
  (∀ c : Captured,
    (c.setup = none ∨ c.area = none → drawCaptured c = ⟨[], 0, 0⟩) ∧
    ∀ (g : GuideSetup) (wa ha : Nat), c.setup = some g → c.area = some (wa, ha) →
      let made := ((segmentsOf c g).map spansOf).flatten
      let reach := fun r : Int => made.filter fun sp => decide (sp.row = r ∧ (c.strip : Int) ≤ r ∧ r < ha ∧ 0 ≤ sp.last ∧ sp.first < (wa : Int))
      let clip := fun sp : Span => { sp with first := max 0 sp.first, last := min ((wa : Int) - 1) sp.last }
      let d := drawCaptured c
      (∀ r, rowSpans d.bank r = ((reach r).take 8).map clip) ∧
      d.dropped = ((List.range ha).map fun r => (reach r).length - 8).sum ∧
      (d.dropped ≠ 0 → 8 < (reach d.lowest).length ∧ ∀ r < d.lowest, (reach r).length ≤ 8)) ∧
  (∀ (c : Captured) (wa ha : Nat), c.area = some (wa, ha) →
    (∀ row, (rowSpans (drawCaptured c).bank row).length ≤ 8) ∧
    ∀ sp ∈ (drawCaptured c).bank, (c.strip : Int) ≤ sp.row ∧ sp.row < ha ∧ 0 ≤ sp.first ∧ sp.last < wa)

/-- R98: every step keeps at most 8 spans on each row of either bank. -/
def Obligations.BanksStayBounded : Prop :=
  ∀ s t : State, BanksOk s → step s = .next t → BanksOk t

/-- R105, R106, R107: CHIME_PLAY step by step. That a refusal carries the queue count too is DEDUCED (log entry 33). -/
def Obligations.ChimePlay : Prop :=
  ∀ (r : Rec) (s : State), Arrives s →
    let id := r.op1.toNat
    let q := s.chu.queue
    let v := s.chu.q
    let prio := s.chimePriority
    let answers := fun (code : Word) (u : State) =>
      Answers (.chimePlay r) s (completed 20 r code (BitVec.ofNat 32 u.chu.queue.length) u)
    let queued := fun (l : List ChimeEntry) (u : State) => { u with chu := { u.chu with queue := l } }
    let inserted := fun l : List ChimeEntry => (l.takeWhile fun x => decide (prio id ≤ prio x.id)) ++
      ⟨id, false⟩ :: l.dropWhile fun x => decide (prio id ≤ prio x.id)
    let reinserted := (q.takeWhile fun x => decide (prio v.id < prio x.id)) ++
      ⟨v.id, v.engage⟩ :: q.dropWhile fun x => decide (prio v.id < prio x.id)
    (31 < id ∨ s.chimeDef id = none → answers resBadParam s) ∧
    ∀ d, id ≤ 31 → s.chimeDef id = some d →
      let starts := fun u : State => { u with chu := { u.chu with q :=
        ⟨.playing, id, false, 0, 0, false, 0, 48 * (d.noteAt 0).dur, 0, v.env, 0⟩ } }
      ((∃ x ∈ q, x.id = id) → answers resMerged s) ∧
      ((∀ x ∈ q, x.id ≠ id) →
        (v.st = .playing → v.id = id → r.op2.getLsbD 0 = false → answers resMerged s) ∧
        ((v.st = .playing ∧ v.id = id ∧ r.op2.getLsbD 0 = true) ∨ (v.st = .releasing ∧ v.id = id) ∨ v.st = .idle →
          answers resDone (starts s)) ∧
        (v.st ≠ .idle → v.id ≠ id → prio v.id < prio id → ∀ w, s.chimeDef v.id = some w →
          (v.st = .releasing → answers resDone (starts s)) ∧
          (v.st = .playing → w.drop = true → answers resDone (starts (raise .chimeDropped (BitVec.ofNat 32 v.id) 2 s))) ∧
          (v.st = .playing → w.drop = false → q.length < 16 → answers resDone (starts (queued reinserted s))) ∧
          (v.st = .playing → w.drop = false → q.length = 16 → ∀ x, reinserted.getLast? = some x →
            answers resDone (starts (raise .chimeDropped (BitVec.ofNat 32 x.id) 3 (queued reinserted.dropLast s))))) ∧
        (v.st ≠ .idle → v.id ≠ id → prio id ≤ prio v.id →
          (q.length < 16 → answers resDone (queued (inserted q) s)) ∧
          (16 ≤ q.length → ∀ x, q.getLast? = some x →
            (prio x.id < prio id → answers resDone
              (raise .chimeDropped (BitVec.ofNat 32 x.id) 1 (queued (inserted q.dropLast) s))) ∧
            (prio id ≤ prio x.id → answers resFull s))))

/-- R110, R111: CHIME_CANCEL: the entries removed, and the chime on voice Q ended or put into its release. The envelope held where the
last sample has none is a free value, the choice of the model (log entry 13): the clause holds for every value of it. -/
def Obligations.ChimeCancel : Prop :=
  ∀ (r : Rec) (s : State), Arrives s →
    let n := r.op1.toNat
    let hit := fun id : Nat => decide (n = 256 ∨ n = id)
    let kept := s.chu.queue.filter fun e => !hit e.id
    let v := s.chu.q
    let note := s.noteOnVoice
    let answers := fun c : Chu => Answers (.chimeCancel r) s
      (completed 21 r resDone (BitVec.ofNat 32 (s.chu.queue.length - kept.length)) { s with chu := c })
    let atOnce := v.inGap = true ∨ note.freq = 0 ∨ note.release = 0
    (31 < n → n ≠ 256 → Answers (.chimeCancel r) s (completed 21 r resBadParam 0 s)) ∧
    (n ≤ 31 ∨ n = 256 →
      (v.st ≠ .playing ∨ hit v.id = false → answers { s.chu with queue := kept }) ∧
      (v.st = .playing → hit v.id = true →
        (atOnce → kept = [] → answers { s.chu with queue := [], q := { Reset.voiceQ with env := v.env } }) ∧
        (atOnce → ∀ e rest d, kept = e :: rest → s.chimeDef e.id = some d → answers { s.chu with queue := rest, q :=
          ⟨.playing, e.id, e.engage, 0, 0, false, 0, 48 * (d.noteAt 0).dur, 0, v.env, 0⟩ }) ∧
        (¬atOnce → ∀ e0, v.env = some e0 → answers { s.chu with queue := kept, q :=
          { v with st := .releasing, n := 0, total := 48 * note.release, held := e0 } }) ∧
        (¬atOnce → v.env = none → ∃ t, exec (.chimeCancel r) s = .next t ∧ t.chu.queue = kept ∧ t.chu.q.st = .releasing ∧
          t.chu.q.n = 0 ∧ t.chu.q.total = 48 * note.release ∧ t.chu.q.phase = v.phase ∧ t.chu.q.held ≤ 256)))

/-- R108, R109, R111: the ends of the parts of voice Q: a note, a gap, the chime, a cancel release. -/
def Obligations.VoiceQParts : Prop :=
  ∀ (s : State) (d : ChimeDef) (v : VoiceQ), s.phase ≠ .held → v = s.chu.q → s.chimeDef v.id = some d → v.total ≤ v.n →
    let note := fun k : Nat => { v with note := k, inGap := false, n := 0, total := 48 * (d.noteAt k).dur, phase := 0 }
    let sets := fun v' : VoiceQ => { s with chu := { s.chu with q := v' } }
    let next := fun u : State => match u.chu.queue with
      | [] => { u with chu := { u.chu with q := { Reset.voiceQ with env := v.env } }, seu := { u.seu with dirty := true } }
      | e :: rest => { u with chu := { u.chu with queue := rest, q := ⟨.playing, e.id, e.engage, 0, 0, false, 0,
          48 * (((u.chimeDef e.id).map fun x => (x.noteAt 0).dur).getD 0), 0, v.env, 0⟩ }, seu := { u.seu with dirty := true } }
    let last := d.notes.length ≤ v.note + 1
    let remain := d.repeats = 0 ∨ v.played + 1 < d.repeats
    (v.st = .playing → v.inGap = false →
      (¬last → Answers .noteEnd s (sets (note (v.note + 1)))) ∧
      (last → remain → d.gap = 0 → Answers .noteEnd s (sets { note 0 with played := v.played + 1 })) ∧
      (last → remain → d.gap ≠ 0 → Answers .noteEnd s
        (sets { v with played := v.played + 1, inGap := true, n := 0, total := 48 * d.gap })) ∧
      (last → ¬remain → Answers .chimeFinish s (next (if d.notify then
        raise .chimeDone (BitVec.ofNat 32 v.id) (if v.engage then 1 else 0) s else s)))) ∧
    (v.st = .playing → v.inGap = true → Answers .gapEnd s (sets (note 0))) ∧
    (v.st = .releasing → Answers .cancelReleaseEnd s (next s))

/-- R111, R112, R113, R114, R119: one output sample while no part of either voice has run out. -/
def Obligations.LineSample : Prop :=
  ∀ (s : State) (v : VoiceQ) (p : VoiceP) (x : Proximity) (note : Note), s.phase ≠ .held → v = s.chu.q → p = s.chu.p →
    x = s.chu.prox → note = s.noteOnVoice → (v.st ≠ .idle → v.n < v.total) →
    (p.st = .beep ∨ p.st = .gap ∨ p.st = .release → p.n < p.total) →
    let wave := fun (square : Bool) (phase : Word) => if square then (if phase.toNat < 2147483648 then (24576 : Int) else -24576)
      else (s.chu.wave.getD (phase.toNat / 16777216) 0).toInt
    let ramp := fun count ms : Nat => if ms = 0 then 256 else count * 256 / (ms * 48)
    let step := fun f : Nat => BitVec.ofNat 32 ((f * 8589934592 + 48000) / 96000)
    let qSounds := v.st = .releasing ∨ (v.st = .playing ∧ v.inGap = false ∧ note.freq ≠ 0)
    let qEnv := if v.st = .releasing then min v.held (ramp (v.total - 1 - v.n) note.release)
      else min 256 (min (ramp v.n note.attack) (ramp (v.total - 1 - v.n) note.release))
    let q : Int := if qSounds then wave note.square v.phase * note.level * qEnv / 65536 else 0
    let pSounds := p.st = .beep ∨ p.st = .tone ∨ p.st = .release
    let pEnv := if p.st = .beep then min 256 (min (ramp p.n 5) (ramp (p.total - 1 - p.n) 5))
      else if p.st = .tone then min 256 (ramp p.n 5) else min p.held (ramp (p.total - 1 - p.n) 5)
    let pv : Int := if pSounds then wave x.square p.phase * x.level * pEnv / 65536 else 0
    ∃ t, exec .lineSample s = .next t ∧ t.chu.line = max (-32768) (min 32767 ((q + pv) * s.chu.master / 256)) ∧
      t.chu.lineBefore = s.chu.line ∧ t.chu.q.st = v.st ∧ t.chu.q.note = v.note ∧
      t.chu.q.n = (if v.st = .idle then v.n else v.n + 1) ∧ t.chu.q.total = v.total ∧
      t.chu.q.phase = (if qSounds then v.phase + step note.freq else v.phase) ∧
      t.chu.q.env = (if qSounds then some qEnv else none) ∧ t.chu.q.held = v.held ∧
      t.chu.p.st = p.st ∧ t.chu.p.n = (if p.st = .off ∨ p.st = .quiet then p.n else p.n + 1) ∧ t.chu.p.total = p.total ∧
      t.chu.p.phase = (if pSounds then p.phase + step x.freq else p.phase) ∧ (p.st = .tone → t.chu.p.env = some pEnv) ∧
      t.chu.queue = s.chu.queue ∧ t.chu.defs = s.chu.defs ∧ t.chu.prox = s.chu.prox ∧ t.chu.master = s.chu.master ∧
      t.chu.wave = s.chu.wave ∧ t.seu.pending = s.seu.pending ∧ t.rvc = s.rvc ∧ t.gde = s.gde ∧ t.mem = s.mem ∧
      t.cmu = s.cmu ∧ t.scn = s.scn ∧ t.fqu = s.fqu ∧ t.time = s.time ∧ t.ppw = s.ppw

/-- R118: the ends of a beep, of a gap and of the tone's release, by the zone at that moment. R117, R118: voice P after an event that
may change its conditions or its zone, which was `z`. -/
def Obligations.ProximityVoice : Prop :=
  (∀ (s : State) (p : VoiceP) (x : Proximity), s.phase ≠ .held → p = s.chu.p → x = s.chu.prox → p.total ≤ p.n →
    let sets := fun v : VoiceP => { s with chu := { s.chu with p := v }, seu := { s.seu with dirty := true } }
    let gap := x.gapOf s.zone
    let beep := { p with st := .beep, n := 0, total := 48 * x.beep, phase := 0, env := none }
    let quiet := { p with st := .quiet, n := 0, total := 0, env := none }
    let tone := { p with st := .tone, n := 0, total := 0, phase := 0, env := none }
    let paused := if gap = 0 then beep else { p with st := .gap, n := 0, total := 48 * gap, env := none }
    (p.st = .beep → (1 ≤ s.zone → s.zone ≤ 4 → Answers .beepEnd s (sets paused)) ∧
      (s.zone = 5 → Answers .beepEnd s (sets quiet))) ∧
    (p.st = .gap → (1 ≤ s.zone → s.zone ≤ 4 → Answers .proximityGapEnd s (sets beep)) ∧
      (s.zone = 5 → Answers .proximityGapEnd s (sets quiet))) ∧
    (p.st = .release → (s.zone = 0 → Answers .toneReleaseEnd s (sets tone)) ∧
      (1 ≤ s.zone → s.zone ≤ 4 → Answers .toneReleaseEnd s (sets paused)) ∧
      (s.zone = 5 → Answers .toneReleaseEnd s (sets quiet)))) ∧
  (∀ (z : Nat) (s t : State) (p : VoiceP), t = syncVoiceP z s → p = s.chu.p →
    let active := (s.rvc.st = .engaging ∨ s.rvc.st = .live ∨ s.rvc.st = .blanked) ∧
      (s.gde.obstacle.valid = true ∧ s.gde.obstacle.fresh = true) ∧ s.chu.prox.enable = true
    let q := t.chu.p
    (¬active → q.st = .off) ∧
    (active → p.st = .off → (s.zone = 0 → q.st = .tone ∧ q.phase = 0) ∧
      (1 ≤ s.zone → s.zone ≤ 4 → q.st = .beep ∧ q.phase = 0 ∧ q.n = 0 ∧ q.total = 48 * s.chu.prox.beep) ∧
      (s.zone = 5 → q.st = .quiet)) ∧
    (active → p.st ≠ .off → s.zone = z → q = p) ∧
    (active → s.zone ≠ z →
      (p.st = .beep → (s.zone = 0 → q.st = .tone ∧ q.n = p.n ∧ q.phase = p.phase) ∧ (s.zone ≠ 0 → q = p)) ∧
      (p.st = .gap → (s.zone = 0 → q.st = .tone ∧ q.n = 0 ∧ q.phase = 0) ∧ (s.zone ≠ 0 → q = p)) ∧
      (p.st = .tone → s.zone ≠ 0 → q.st = .release ∧ q.n = 0 ∧ q.total = 240 ∧ q.phase = p.phase ∧
        ∀ e, p.env = some e → q.held = e) ∧
      (p.st = .release → q = p) ∧
      (p.st = .quiet → (s.zone = 0 → q.st = .tone ∧ q.n = 0 ∧ q.phase = 0) ∧
        (1 ≤ s.zone → s.zone ≤ 4 → q.st = .beep ∧ q.n = 0 ∧ q.phase = 0))) ∧
    t.chu.q = s.chu.q ∧ t.chu.queue = s.chu.queue ∧ t.rvc = s.rvc ∧ t.gde = s.gde ∧ t.seu.pending = s.seu.pending)

/-- R104: every step keeps the chime queue in order, with no id twice, and none that goes before the chime on voice Q. -/
def Obligations.ChimeQueueStaysOrdered : Prop :=
  ∀ s t : State, ChimesOk s → step s = .next t → ChimesOk t

/-- R121, R122, R123, R125, R148, R150: a request taken at a FREE port: refused out of range, dropped by the guard, or sent to request
PROC, with what the sampling monitor makes of it in each of its states; a request at a port that is NOT_READY waits. R125, R126,
R129, R58: the ranges that are active and cover an address, the lowest-numbered first. -/
def Obligations.TakeChecks : Prop :=
  (∀ (q : Request) (s : State),
    let a := q.wordAddr.toNat * 4
    let outside := s.memSize < a + 4 * q.len ∨ 8 < q.wordAddr.toNat % 8 + q.len
    let counted := fun u : State => let m := u.fma.mon
      if m.st = .counting then
        { u with fma := { u.fma with mon :=
          { m with count := m.count + 1, st := if m.period ≤ m.count + 1 then .armed else .counting } } }
      else u
    let tagged := fun u : State => let m := u.fma.mon
      if m.st = .armed then
        let holder := match u.fma.memory with
          | .notReady | .idle => 7
          | .refresh => 6
          | .data g => g.client.code
        { u with fma := { u.fma with mon := { m with st := .tagged, tag := ⟨holder, 0, false, 0, false⟩ } } }
      else u
    let done := fun (ok : Bool) (data : List Word) (u : State) => counted
      { u with ppw := { u.ppw with port := .free, tx := none, waiting := none, response := some ⟨ok, data⟩ } }
    let requests := tagged { s with ppw := { s.ppw with port := .pending, tx := some q, waiting := none } }
    (q.wf = true → s.ppw.port = .notReady → s.ppw.waiting = none →
      Answers (.take q) s { s with ppw := { s.ppw with waiting := some q } }) ∧
    (q.wf = true → s.ppw.port = .free → Answers (.take q) s (takeNow q s)) ∧
    (1 ≤ q.len → outside → takeNow q s = done false (if q.write then [] else List.replicate q.len 0)
      (raise .procRange (BitVec.ofNat 32 a) (BitVec.ofNat 32 (if q.write then q.len + 16 else q.len)) s)) ∧
    (1 ≤ q.len → ¬outside → q.write = false ∨ (∀ i < q.len, s.coveringRanges (a + 4 * i) = []) → takeNow q s = requests) ∧
    (¬outside → q.write = true → ∀ i r fault rest, i < q.len →
      (∀ j < i, s.coveringRanges (a + 4 * j) = []) → s.coveringRanges (a + 4 * i) = (r, fault) :: rest →
      takeNow q s = done (!fault) [] (raise .guardHit (BitVec.ofNat 32 (a + 4 * i)) (BitVec.ofNat 32 r) s))) ∧
  (∀ (s : State) (a : Nat) (r : Nat) (fault : Bool),
    ((r, fault) ∈ s.coveringRanges a ↔
      (r < 8 ∧ (let g := s.ppw.guard.getD r Reset.guardRange
        (g.cond = .always ∨ (g.cond = .reverse ∧ s.rvc.st ≠ .normal)) ∧ g.base.toNat ≤ a ∧
        a < g.base.toNat + g.length.toNat * 65536 ∧ fault = decide (g.response = 1))) ∨
      (r = 8 ∧ s.caBase + 256 ≤ a ∧ a < s.caBase + 2048 ∧ fault = false) ∨
      (r = 9 ∧ s.capturing = true ∧ ∃ c, s.ccu.setup = some c ∧ c.base ≤ a ∧ a < c.base + c.slots * 1048576 ∧ fault = c.fault)) ∧
    (s.coveringRanges a).Pairwise fun x y => x.1 < y.1)

/-- R121, R124, R125, R132, R148, R151, R152: the completions of a read and of a write that reached memory, in every state of the
sampling monitor: a tagged one takes the sample, any other is counted, but for a write that carries a full word to SAMPLE_CLR. R125:
of a write's words the bytes with their enables set are written, every other byte is left as it was. That a write is in memory at
the end of its burst, with the row that names it, is DEDUCED (log entries 7 and 8). -/
def Obligations.TransactionCompletes : Prop :=
  (∀ (s : State) (q : Request), s.phase ≠ .held → s.burstInside = true → s.ppw.tx = some q →
    let ends := fun (data : List Word) (counts : Bool) (u : State) => let m := u.fma.mon
      let v := if m.st = .tagged then
          raise .sampleReady (BitVec.ofNat 32 (q.wordAddr.toNat * 4)) (m.tag.wait.setWidth 32) { u with fma := { u.fma with mon :=
            { m with st := .held, valid := true, sample :=
              { addr := BitVec.ofNat 32 (q.wordAddr.toNat * 4), write := q.write, len := q.len, wait := m.tag.wait,
                holder := m.tag.holder, others := m.tag.others, urgent := m.tag.urgent, reverse := m.tag.reverse } } } }
        else if counts = true ∧ m.st = .counting then
          { u with fma := { u.fma with mon :=
            { m with count := m.count + 1, st := if m.period ≤ m.count + 1 then .armed else .counting } } }
        else u
      { v with ppw := { v.ppw with port := .free, tx := none, response := some ⟨true, data⟩ } }
    (∀ ws, s.burst = some (.procRead ws) → Answers .procReadCompletion s (ends ws true (markEnded s))) ∧
    (s.burst = some .procWrite → ∀ u, u = markEnded { s with mem := writeCells s.mem (requestCells (requestAddr q) q.data),
                                                             ppw := { s.ppw with tx := none } } →
      (∀ counts : Bool,
        (counts = false ↔ ∃ i w, q.data[i]? = some w ∧ requestAddr q + 4 * i = s.caBase + 36 ∧ w.enables = 15) →
        Answers .procWriteCompletion s (ends [] counts (deliverWords (requestAddr q) q.data u))) ∧
      ((∀ i < q.data.length, ¬(s.caBase ≤ requestAddr q + 4 * i ∧ requestAddr q + 4 * i < s.caBase + 40)) →
        deliverWords (requestAddr q) q.data u = u))) ∧
  (∀ (m : List Host.Cell) (base : Nat) (data : List WriteWord) (a : Nat), Memory.wf m = true →
    (∀ i j w, j < 4 → data[i]? = some w → a = base + 4 * i + j →
      readByte (writeCells m (requestCells base data)) a = if w.enables.getLsbD j then (w.data >>> (8 * j)).setWidth 8 else readByte m a) ∧
    (a < base ∨ base + 4 * data.length ≤ a → readByte (writeCells m (requestCells base data)) a = readByte m a))

/-- R131, R132: each word of a completed write that lies on a watched word is taken if it is a full write, reported if it is a partial
one; words are handled in ascending address order. R61, R131, R133: the take of VEHICLE: the value is kept and R evaluated again.
That a changed vehicle flag sets status-dirty is DEDUCED (log entry 22). -/
def Obligations.WatchedWords : Prop :=
  ((∀ (a : Nat) (w : WriteWord) (ws : List WriteWord) (s : State),
    deliverWords a (w :: ws) s = deliverWords (a + 4) ws (deliverWord a w s) ∧ deliverWords a [] s = s) ∧
  ∀ (off : Nat) (w : WriteWord) (s : State), off < 40 → off % 4 = 0 →
    let n := (if w.enables.getLsbD 0 then 1 else 0) + (if w.enables.getLsbD 1 then 1 else 0) +
      (if w.enables.getLsbD 2 then 1 else 0) + (if w.enables.getLsbD 3 then 1 else 0)
    let at' := deliverWord (s.caBase + off) w s
    (n = 0 → at' = s) ∧
    (1 ≤ n → n ≤ 3 → at' = raise .watchPartial (BitVec.ofNat 32 off) (BitVec.ofNat 32 n) s) ∧
    (n = 4 → at' =
      if off = 0 then takeCmdPost w.data s else if off = 4 then takeEvtAck w.data s
      else if off = 8 then takePendClr false w.data s else if off = 12 then takePendClr true w.data s
      else if off = 16 then takeOccClr false w.data s else if off = 20 then takeOccClr true w.data s
      else if off = 24 then takeSteerWord w.data s else if off = 28 then takeObstacleWord w.data s
      else if off = 32 then takeVehicle w.data s else takeSampleClrWord w.data s)) ∧
  (∀ (v : Word) (s : State), s.phase ≠ .held → Answers (.vehicle v) s
    (evaluateR { s with ppw := { s.ppw with taken := { s.ppw.taken with vehicle := v } },
                        seu := { s.seu with dirty := s.seu.dirty || decide (s.ppw.taken.vehicle.getLsbD 0 ≠ v.getLsbD 0) } }))

/-- R134, R135, R136: POR, the assertion and the release of RESET_N: every block in its reset state, the straps, the memory. R121, R135,
R136, R146: the SDRAM is initialised, or has left self-refresh: the port is FREE, the arbiter grants, a request that waits is taken,
and otherwise the first grant writes the status block. An empty memory after POR is the choice of the model (log entry 2); that the
granted burst ends in the step of the assertion is DEDUCED (log entry 24); a request that waits at POR, a POR while RESET_N is
asserted and a RESET_N during the initialisation are the choice of the model (log entries 41, 40 and 39). -/
def Obligations.Resets : Prop :=
  (∀ (s : State) (memsz : Bool) (ca : BitVec 4),
    let blocks := fun (phase : Phase) (straps : Straps) (mem : List Host.Cell) (waiting : Option Request) =>
      State.blocksReset phase straps mem s.rvc.rev s.links.rl.level s.links.rr.level waiting s.free s.pending
    exec (.por memsz ca) s =
      .next { blocks (if s.phase = .held then .held else .init) ⟨memsz, ca⟩ [] none with initDue := true } ∧
    (s.phase ≠ .held → s.burstInside = true →
      exec .resetNAssert s = .next { blocks .held s.straps s.memAfterBurst s.ppw.waiting with initDue := s.initDue } ∧
      (s.burst = none → s.memAfterBurst = s.mem) ∧
      (∀ q, s.burst = some .procWrite → s.ppw.tx = some q →
        s.memAfterBurst = writeCells s.mem (requestCells (requestAddr q) q.data))) ∧
    (s.phase = .held → exec (.resetNRelease memsz ca) s =
      .next (blocks (if s.initDue then .init else .exit) ⟨memsz, ca⟩ s.mem s.ppw.waiting)) ∧
    (∀ t : State, t.straps = ⟨memsz, ca⟩ → t.memSize = (if memsz then 134217728 else 67108864) ∧
      t.caBase = (if memsz then ca.toNat else ca.toNat % 8) * 8388608 ∧ t.caBase + 65536 ≤ t.memSize)) ∧
  (∀ s : State,
    let ready := { s with phase := .run, initDue := false, ppw := { s.ppw with port := .free },
                          fma := { s.fma with memory := .idle, refreshOn := true } }
    let taken := match s.ppw.waiting with
      | none => ready
      | some q => takeNow q ready
    (s.phase = .init → Answers .sdramInitComplete s taken) ∧ (s.phase = .exit → Answers .selfRefreshExit s taken) ∧
    (∀ mem rev l r,
      (s = State.blocksReset .init s.straps mem rev l r none s.free s.pending →
        ∃ t, exec .sdramInitComplete s = .next t ∧ t.seu.generation = 1 ∧ t.seu.dirty = false ∧
          t.burst = some (.status 0 ((statusWords ready 1).take 8))) ∧
      (s = State.blocksReset .exit s.straps mem rev l r none s.free s.pending →
        ∃ t, exec .selfRefreshExit s = .next t ∧ t.seu.generation = 1 ∧ t.seu.dirty = false ∧
          t.burst = some (.status 0 ((statusWords ready 1).take 8)))))

/-- R27, R177: a millisecond with no timer due: part time, the media clocks, the running timers. R146: the expiry of the refresh timer. -/
def Obligations.TimePasses : Prop :=
  (∀ s : State, s.phase ≠ .held → TimersNotDue s → ∃ t, exec .partTimeTick s = .next t ∧ t.time = s.time + 1 ∧
    (∀ src, t.fqu.film src = { s.fqu.film src with clock := if (s.fqu.film src).playing = true ∧
      ¬(s.rvc.setup.filmHold = true ∧ s.rvc.st ≠ .normal) then (s.fqu.film src).clock + 1 else (s.fqu.film src).clock }) ∧
    t.fqu.rear = s.fqu.rear ∧
    (∀ o, t.links.get o = { s.links.get o with timer := (s.links.get o).timer.map (· - 1) }) ∧
    t.ccu.presenceTimer = s.ccu.presenceTimer.map (· - 1) ∧
    t.rvc = { s.rvc with revTimer := s.rvc.revTimer.map (· - 1), engageTimer := s.rvc.engageTimer.map (· - 1),
                         staleTimer := s.rvc.staleTimer.map (· - 1), lingerTimer := s.rvc.lingerTimer.map (· - 1) } ∧
    t.gde = { s.gde with steering := { s.gde.steering with timer := s.gde.steering.timer.map (· - 1) },
                         obstacle := { s.gde.obstacle with timer := s.gde.obstacle.timer.map (· - 1) } } ∧
    t.seu.pending = s.seu.pending ∧ t.chu = s.chu ∧ t.scn = s.scn ∧ t.menu = s.menu ∧ t.mem = s.mem ∧ t.ppw = s.ppw ∧
    t.cmu = s.cmu ∧ t.ccu.slots = s.ccu.slots ∧ t.ccu.frame = s.ccu.frame ∧ t.layout = s.layout ∧ t.pending = s.pending) ∧
  (∀ s : State, s.phase ≠ .held → s.fma.refreshOn = true →
    (s.fma.owed < 8 → Answers .refreshTimerExpiry s { s with fma := { s.fma with owed := s.fma.owed + 1 } }) ∧
    (s.fma.owed = 0 → s.fma.memory = .idle → (∀ c, s.requests c = false) →
      ∃ t, exec .refreshTimerExpiry s = .next t ∧ t.fma.memory = .refresh ∧ t.fma.owed = 0) ∧
    (s.fma.owed = 8 → s.fma.memory ≠ .idle →
      let n := min 65535 (s.fma.lateRun + 1)
      Answers .refreshTimerExpiry s (raise .refreshLate (BitVec.ofNat 32 n)
        (match s.fma.memory with
          | .refresh => 6
          | .data g => BitVec.ofNat 32 g.client.code
          | _ => 7) { s with fma := { s.fma with lateRun := n } })))

/-- R139, R142, R143: the steps of a decision in their order, and who is URGENT. R11, R52, R138, R141, R143, R146, R158, R165: the end
of a refresh, and of every burst whose end no other row names: its effect, and then the decision, which is carried out. R138, R141:
where a row names what the end of the burst in progress brings about, GRANT_END is that row and then GRANT_END. R141, R143: outside
reset a step leaves the memory IDLE only where no data client requests and no refresh is owed, and a client that does not request
has wait count 0. R138, R141: which burst an IDLE memory is given at the end of a step is in `Answers`. That a row and GRANT_END are
two steps of one end is the choice of the model (log entry 7); that bytes are written at the end of the burst is DEDUCED (log entry
8). -/
def Obligations.DecisionOrder : Prop :=
  (∀ s : State,
    let d := decisionTarget s.requests s
    let order := s.profile.order
    let first := fun (p : Client → Prop) (c : Client) => ∃ before after, order = before ++ c :: after ∧ p c ∧ ∀ x ∈ before, ¬p x
    let urgent := fun c => s.requests c = true ∧ s.urgent c = true
    (s.fma.owed = 8 → d = some .refresh) ∧
    (s.fma.owed ≠ 8 → ∀ c, first urgent c → d = some (.client c)) ∧
    (s.fma.owed ≠ 8 → (∀ c ∈ order, ¬urgent c) → s.requests .proc = true → d = some (.client .proc)) ∧
    (s.fma.owed ≠ 8 → (∀ c ∈ order, ¬urgent c) → s.requests .proc = false → ∀ c, first (fun x => s.requests x = true) c →
      d = some (.client c)) ∧
    (s.fma.owed ≠ 8 → (∀ c ∈ order, s.requests c = false) → s.requests .proc = false →
      d = if 1 ≤ s.fma.owed then some .refresh else none) ∧
    (∀ c, s.urgent c = true ↔ s.urgentByLevel c = true ∨
      (1 ≤ s.profile.ceil.get c ∧ s.profile.ceil.get c ≤ s.fma.waits.get c)) ∧
    s.urgentByLevel .proc = false ∧ s.urgentByLevel .serv = false ∧
    (s.urgentByLevel .capt = true ↔ 2048 ≤ pixelCount s.ccu.buffer) ∧
    (s.requests .capt = true ↔ 32 ≤ pixelCount s.ccu.buffer ∨ ∃ i ws h, CaptureItem.trailer i ws h ∈ s.ccu.buffer)) ∧
  (∀ s u : State, s.phase ≠ .held → s.burstInside = true → (s.ppw.port = .pending → s.ppw.tx ≠ none) →
    (u = s ∧ (s.fma.memory = .refresh ∨ ∃ g, s.fma.memory = .data g ∧ g.ended = true)) ∨
    (∃ cells, s.burst = some (.pixels cells) ∧ u = { s with mem := writeCells s.mem cells }) ∨
    (∃ ws slot all half rest, s.burst = some (.trailer false ws) ∧ s.ccu.buffer = .trailer slot all half :: rest ∧
      u = { s with mem := writeWords s.mem s.burstAddr ws, ccu := { s.ccu with buffer := .trailer slot all true :: rest } }) ∨
    (∃ o id num ws dropped, s.burst = some (.line o id num ws false dropped) ∧
      u = if dropped then s else s.setScan o { s.scan o with fetch := (s.scan o).fetch.map fun p =>
        if p.plane = id ∧ p.next = num then { p with got := p.got ++ ws } else p }) ∨
    (∃ ws, s.burst = some (.table ws false) ∧
      u = { s with cmu := { s.cmu with data := s.cmu.data ++ ws, plan := s.cmu.plan.tail } }) ∨
    (∃ k ws, s.burst = some (.status k ws) ∧ k < 23 ∧ u = { s with
      mem := writeWords s.mem s.burstAddr ws, seu := { s.seu with writing := s.seu.writing.map fun x => (x.1, k + 1) } }) →
    let m := u.fma.mon
    let follows := m.st = .tagged ∧ u.requests .proc = true
    let counted := decide (1 ≤ u.profile.ceil.get .proc ∧ u.profile.ceil.get .proc ≤ u.fma.waits.get .proc)
    let passed : Monitor := if follows
      then { m with tag := { m.tag with urgent := m.tag.urgent || counted, others := min 255 (m.tag.others + 1) } } else m
    ∃ t, exec .grantEnd s = .next t ∧
      (decisionTarget u.requests u = none → t.fma.memory = .idle ∧ t.fma.owed = u.fma.owed ∧ t.fma.lateRun = u.fma.lateRun ∧
        t.fma.mon = m ∧ t.ccu = u.ccu ∧ t.seu = u.seu) ∧
      (decisionTarget u.requests u = some .refresh → t.fma.memory = .refresh ∧ t.fma.owed = u.fma.owed - 1 ∧ t.ccu = u.ccu ∧
        (u.fma.owed ≤ 8 → t.fma.lateRun = 0) ∧ t.fma.mon = passed ∧ t.seu = u.seu ∧ (∀ c, t.fma.waits.get c = if u.requests c then min 31 (u.fma.waits.get c + 1) else 0)) ∧
      (∀ c, decisionTarget u.requests u = some (.client c) → (∃ g, t.fma.memory = .data g ∧ g.client = c ∧ g.ended = false) ∧
        t.fma.memory = (carryBurst c u).fma.memory ∧ t.ccu = (carryBurst c u).ccu ∧ t.seu = (carryBurst c u).seu ∧
        t.fma.owed = u.fma.owed ∧ t.fma.lateRun = u.fma.lateRun ∧ t.fma.waits.get c = 0 ∧
        (c ≠ .proc → t.fma.mon = passed) ∧ (c = .proc → ¬follows → t.fma.mon = m) ∧
        (c = .proc → follows → ∃ wait, t.fma.mon = { m with tag :=
          { m.tag with urgent := m.tag.urgent || counted, reverse := decide (u.rvc.st ≠ .normal), wait := wait } }) ∧
        ∀ c', c' ≠ c → t.fma.waits.get c' = if u.requests c' then min 31 (u.fma.waits.get c' + 1) else 0) ∧
      t.mem = u.mem ∧ t.ppw = u.ppw ∧ t.cmu = u.cmu ∧ t.scn = u.scn ∧ t.menu = u.menu ∧ t.rvc = u.rvc ∧ t.gde = u.gde ∧
      t.chu = u.chu ∧ t.fqu = u.fqu ∧ t.time = u.time ∧ t.fma.normal = u.fma.normal ∧ t.fma.reverse = u.fma.reverse) ∧
  (∀ (s v : State) (row : Instr), s.phase ≠ .held → s.burstInside = true → exec row s = .next v →
    (∃ ws, s.burst = some (.procRead ws) ∧ row = .procReadCompletion) ∨
    (s.burst = some .procWrite ∧ row = .procWriteCompletion) ∨
    (∃ o id num ws dropped, s.burst = some (.line o id num ws true dropped) ∧ row = .lineComplete) ∨
    (∃ ws, s.burst = some (.trailer true ws) ∧ row = .trailerWriteComplete) ∨
    (∃ ws, s.burst = some (.event ws) ∧ row = .eventRecordWritten) ∨
    (∃ ws, s.burst = some (.result ws) ∧ row = .consumption) ∨
    (∃ k ws, s.burst = some (.status k ws) ∧ 23 ≤ k ∧ row = .statusWriteEnd) ∨
    (∃ ws, s.burst = some (.table ws true) ∧ rowOfReadEnd s.cmu.cmd.kind = some row) ∨
    (∃ ws, s.burst = some (.record ws) ∧ s.cmu.st = .reading ∧ row = rowOfRecord (BitVec.ofNat 8 (field (wordAt ws 0) 0 8))
      ⟨(wordAt ws 0).getLsbD 8, BitVec.ofNat 8 (field (wordAt ws 0) 16 8), wordAt ws 1, wordAt ws 2, wordAt ws 3, wordAt ws 4,
        wordAt ws 5⟩) →
    exec .grantEnd s = exec .grantEnd v) ∧
  (∀ (c : Instr) (s t : State), s.phase ≠ .held → (∀ m a, c ≠ .resetNRelease m a) → exec c s = .next t →
    (ClientsOk s → t.fma.memory = .idle → (∀ x, t.requests x = false) ∧ t.fma.owed = 0) ∧
    ∀ x, t.requests x = false → t.fma.waits.get x = 0)

/-- R145: ARB_PROFILE, check by check. -/
def Obligations.ArbProfileChecks : Prop :=
  ∀ (r : Rec) (s : State), Arrives s →
    let byte := fun (lo hi : Word) (i : Nat) => if i < 4 then field lo (8 * i) 8 else field hi (8 * (i - 4)) 8
    let code := byte r.op2 r.op3
    let ceil := byte r.op4 r.op5
    let once := ∀ k < 6, ∃ i < 6, code i = k
    let ceils := ∀ i < 6, ceil i ≤ 31
    let front := (∃ i < 3, code i = 4) ∧ ∃ i < 3, code i = 1
    let fails := fun n => Answers (.arbProfile r) s (completed 24 r resBadParam n s)
    (1 < r.op1.toNat → fails 1) ∧ (r.op1.toNat ≤ 1 → ¬once → fails 2) ∧ (r.op1.toNat ≤ 1 → once → ¬ceils → fails 3) ∧
    (r.op1 = 1 → once → ceils → ¬front → fails 4) ∧
    (r.op1.toNat ≤ 1 → once → ceils → (r.op1 = 1 → front) → ∀ p : Profile,
      p.order.map Client.code = (List.range 6).map code → (∀ c : Client, p.ceil.get c = ceil c.code) →
      Answers (.arbProfile r) s (completed 24 r resDone 0 { s with fma :=
        if r.op1 = 1 then { s.fma with reverse := p } else { s.fma with normal := p } }))

/-- R148, R149, R150, R151, R152: the sampling monitor. R121, R138, R139, R141, R150, R151: a request that goes to memory, taken while
the memory is IDLE and nothing requests, is granted in the same step: PROC requests no longer, and a tagged one has waited 0, with
no client before it. That operand 1 of SAMPLE_SETUP is read whole is the choice of the model (log entry 43); a wait that no step
counts is a free value (log entry 11). -/
def Obligations.SampleMonitor : Prop :=
  ((∀ (v : Word) (s : State), s.phase ≠ .held → ∃ t, exec (.sampleClr v) s = .next t ∧ t.fma.mon.valid = false ∧
    t.fma.mon.count = 0 ∧ t.fma.mon.st = (if s.fma.mon.st = .off then .off else .counting) ∧
    t.fma.mon.sample = s.fma.mon.sample ∧ t.fma.mon.period = s.fma.mon.period ∧ t.ppw.taken.sampleClr = v ∧ t.cmu = s.cmu ∧
    t.rvc = s.rvc ∧ t.mem = s.mem ∧ t.seu.pending = s.seu.pending) ∧
  (∀ (r : Rec) (s : State), Arrives s →
    let on := r.op1.toNat
    let p := r.op2.toNat
    (1 < on ∨ (on = 1 ∧ (p < 1 ∨ 65535 < p)) → Answers (.sampleSetup r) s (completed 25 r resBadParam 0 s)) ∧
    (on = 0 → Answers (.sampleSetup r) s (completed 25 r resDone 0
      (s.setMon { s.fma.mon with tag := Reset.tag, count := 0, st := .off }))) ∧
    (on = 1 → 1 ≤ p → p ≤ 65535 → Answers (.sampleSetup r) s (completed 25 r resDone 0
      (s.setMon { s.fma.mon with
        tag := Reset.tag, count := 0, period := p, st := if s.fma.mon.valid then .held else .counting })))) ∧
  (∀ s : State, let m := s.fma.mon
    (m.st = .counting → countCompletion s = 
      s.setMon { m with count := m.count + 1, st := if m.period ≤ m.count + 1 then .armed else .counting }) ∧
    (m.st ≠ .counting → countCompletion s = s) ∧
    (m.st = .armed → tagTake s = s.setMon { m with st := .tagged, tag := { Reset.tag with holder := match s.fma.memory with
        | .notReady | .idle => 7
        | .refresh => 6
        | .data g => g.client.code } }) ∧
    (m.st ≠ .armed → tagTake s = s) ∧
    ∀ q : Request, (m.st ≠ .tagged → takeSample q s = s) ∧
      (m.st = .tagged → takeSample q s = raise .sampleReady (BitVec.ofNat 32 (q.wordAddr.toNat * 4)) (m.tag.wait.setWidth 32)
        (s.setMon { m with st := .held, valid := true, sample :=
          { addr := BitVec.ofNat 32 (q.wordAddr.toNat * 4), write := q.write, len := q.len, wait := m.tag.wait,
            holder := m.tag.holder, others := m.tag.others, urgent := m.tag.urgent, reverse := m.tag.reverse } })))) ∧
  (∀ (q : Request) (s : State), let a := q.wordAddr.toNat * 4
    s.phase ≠ .held → s.ppw.port = .free → s.fma.memory = .idle → s.fma.owed = 0 → (∀ c, s.requests c = false) →
    s.fma.waits.get .proc = 0 → q.wf = true → a + 4 * q.len ≤ s.memSize → q.wordAddr.toNat % 8 + q.len ≤ 8 →
    q.write = false ∨ (∀ i < q.len, s.coveringRanges (a + 4 * i) = []) →
    let m := s.fma.mon
    ∃ t, exec (.take q) s = .next t ∧ t.ppw.port = .pending ∧ t.ppw.tx = some q ∧ t.requests .proc = false ∧
      t.fma.memory = .data ⟨.proc, a, 4 * q.len, if q.write then .procWrite else .procRead (readWords s.mem a q.len), false⟩ ∧
      (m.st = .armed → t.fma.mon = { m with st := .tagged, tag :=
        { holder := 7, others := 0, urgent := false, wait := 0, reverse := decide (s.rvc.st ≠ .normal) } }) ∧
      (m.st ≠ .armed → m.st ≠ .tagged → t.fma.mon = m))

/-- R155: CMD_POST, case by case; an IDLE CMU takes the record at C. R157: a record whose kind names no command completes BAD_KIND.
R157, R158, R161: what completing a command as its record arrives, and beginning its read, mean: the record is copied, the result
decided or the read planned, and nothing else of the part changes but the end of the burst and status-dirty. -/
def Obligations.CommandUnit : Prop :=
  (∀ (v : Word) (s : State), s.phase ≠ .held →
    let n := v.toNat
    let p := s.cmu.p.toNat
    let c := s.cmu.c.toNat
    let u := { s with ppw := { s.ppw with taken := { s.ppw.taken with cmdPost := v } } }
    (255 < n → Answers (.cmdPost v) s (raise .cmdPostBad v 1 u)) ∧
    (n = p → Answers (.cmdPost v) s u) ∧
    (n ≤ 255 → n ≠ p → (n + 256 - c) % 256 < (p + 256 - c) % 256 → Answers (.cmdPost v) s (raise .cmdPostBad v 2 u)) ∧
    (n ≤ 255 → n ≠ p → (p + 256 - c) % 256 ≤ (n + 256 - c) % 256 →
      Answers (.cmdPost v) s { u with cmu := { s.cmu with p := v.setWidth 8, st := if s.cmu.st = .idle then .reading else s.cmu.st },
                                      seu := { s.seu with dirty := true } })) ∧
  (∀ (k : Byte) (r : Rec) (s : State), Arrives s → (k = 0 ∨ 27 < k.toNat) →
    Answers (.badKind k r) s (completed k r resBadKind (k.setWidth 32) s)) ∧
  (∀ (k : Byte) (r : Rec) (code detail : Word) (plan : List (Nat × Nat)) (s : State),
    completed k r code detail s = { s with
      cmu := { s.cmu with cmd := ⟨k, r⟩, st := .writing, code := code, detail := detail, plan := [], data := [] },
      seu := { s.seu with dirty := true }, fma := (markEnded s).fma } ∧
    reads k r plan s = { s with
      cmu := { s.cmu with cmd := ⟨k, r⟩, st := .executing, plan := plan, data := [] },
      seu := { s.seu with dirty := true }, fma := (markEnded s).fma } ∧
    (∀ addr words i, i < (burstsOf addr words).length →
      (burstsOf addr words)[i]? = some (addr + 32 * i, min 8 (words - 8 * i))) ∧
    (∀ addr words, ((burstsOf addr words).map Prod.snd).sum = words))

/-- R18, R19, R43, R51, R82, R102, R116, R127, R158: a command that reads memory begins its read as its record arrives, once the checks
at take pass; a source that does not fit gives SOURCE_ERR. -/
def Obligations.LoadsBegin : Prop :=
  ∀ (r : Rec) (s : State), Arrives s →
    let a := r.op1.toNat
    let n := r.op1.toNat
    (∀ o, rearOf r.target = some o →
      (SourceFits s r.op1 1024 → Answers (.paletteLoad r) s (reads 5 r (burstsOf a 256) s)) ∧
      (¬SourceFits s r.op1 1024 → Answers (.paletteLoad r) s (completed 5 r resSourceErr 0 s)) ∧
      (n < 2 ∨ 64 < n → Answers (.rampLoad r) s (completed 6 r resBadParam 0 s)) ∧
      (2 ≤ n → n ≤ 64 → ¬SourceFits s r.op2 n → Answers (.rampLoad r) s (completed 6 r resSourceErr 0 s)) ∧
      (2 ≤ n → n ≤ 64 → SourceFits s r.op2 n →
        ((s.menu.get o).motion = .fadingIn ∨ (s.menu.get o).motion = .fadingOut →
          Answers (.rampLoad r) s (completed 6 r resBusy 0 s)) ∧
        ((s.menu.get o).motion = .inRest ∨ (s.menu.get o).motion = .outRest →
          Answers (.rampLoad r) s (reads 6 r (burstsOf r.op2.toNat ((n + 3) / 4)) s)))) ∧
    (rearOf r.target = none → Answers (.paletteLoad r) s (completed 5 r resBadParam 0 s) ∧
      Answers (.rampLoad r) s (completed 6 r resBadParam 0 s)) ∧
    (let quiet := s.capturing = false ∧ (∀ x ∈ s.ccu.slots, x.st ≠ .shown) ∧ s.ccu.buffer = [];
      (¬quiet → Answers (.cameraSetup r) s (completed 14 r resWrongState 0 s)) ∧
      (quiet → ¬SourceFits s r.op1 64 → Answers (.cameraSetup r) s (completed 14 r resSourceErr 0 s)) ∧
      (quiet → SourceFits s r.op1 64 → Answers (.cameraSetup r) s (reads 14 r (burstsOf a 16) s))) ∧
    (SourceFits s r.op1 256 → Answers (.gammaLoad r) s (reads 15 r (burstsOf a 64) s)) ∧
    (¬SourceFits s r.op1 256 → Answers (.gammaLoad r) s (completed 15 r resSourceErr 0 s)) ∧
    (let all := SourceFits s r.op1 64 ∧ SourceFits s r.op2 64 ∧ SourceFits s r.op3 64;
      (all → Answers (.guideSetup r) s
        (reads 18 r (burstsOf a 16 ++ burstsOf r.op2.toNat 16 ++ burstsOf r.op3.toNat 16) s)) ∧
      (¬all → Answers (.guideSetup r) s (completed 18 r resSourceErr 0 s))) ∧
    (let quiet := s.chu.q.st = .idle ∧ s.chu.queue = [];
      (¬quiet → Answers (.chimeTable r) s (completed 19 r resBusy 0 s)) ∧
      (quiet → ¬SourceFits s r.op1 3136 → Answers (.chimeTable r) s (completed 19 r resSourceErr 0 s)) ∧
      (quiet → SourceFits s r.op1 3136 → Answers (.chimeTable r) s (reads 19 r (burstsOf a 784) s))) ∧
    (SourceFits s r.op1 64 → Answers (.proximitySetup r) s (reads 22 r (burstsOf a 16) s) ∧
      Answers (.guardSetup r) s (reads 23 r (burstsOf a 16) s)) ∧
    (¬SourceFits s r.op1 64 → Answers (.proximitySetup r) s (completed 22 r resSourceErr 0 s) ∧
      Answers (.guardSetup r) s (completed 23 r resSourceErr 0 s))

/-- R18 and R19: the ends of the reads of PALETTE_LOAD and RAMP_LOAD. R43, R44, R51: CAMERA_SETUP when its record has been read: check 1
again, the fields, and what is installed; and GAMMA_LOAD. R101, R102, R103, R116, R127, R128: the ends of the reads of CHIME_TABLE,
PROXIMITY_SETUP and GUARD_SETUP. -/
def Obligations.ReadsEnd : Prop :=
  (∀ (s : State) (ws : List Word) (o : Rear), rearOf s.cmu.cmd.fields.target = some o →
    (ReadEnds 5 ws s → Answers .paletteLoadReadEnd s
      (finish resDone 0 (markEnded { s with menu := s.menu.set o { s.menu.get o with pendingPalette := some ws } }))) ∧
    (ReadEnds 6 ws s → ∀ n, n = s.cmu.cmd.fields.op1.toNat → ∀ m, m = s.menu.get o →
      (m.motion = .inRest → Answers .rampLoadReadEnd s
        (finish resDone 0 (markEnded { s with menu := s.menu.set o { m with ramp := (bytesOf ws).take n, pos := n - 1 } }))) ∧
      (m.motion = .outRest → Answers .rampLoadReadEnd s
        (finish resDone 0 (markEnded { s with menu := s.menu.set o { m with ramp := (bytesOf ws).take n, pos := 0 } }))))) ∧
  (∀ (ws : List Word) (s : State),
    (ReadEnds 15 ws s → Answers .gammaLoadReadEnd s
      (finish resDone 0 (markEnded { s with ccu := { s.ccu with pendingGamma := some (bytesOf ws) } }))) ∧
    (ReadEnds 14 ws s →
      let quiet := s.capturing = false ∧ (∀ x ∈ s.ccu.slots, x.st ≠ .shown) ∧ s.ccu.buffer = []
      (¬quiet → Answers .cameraSetupReadEnd s (finish resWrongState 0 (markEnded s))) ∧
      (quiet → camSetupOf s.memSize s.caBase ws = none → Answers .cameraSetupReadEnd s (finish resBadParam 0 (markEnded s))) ∧
      ∀ c, quiet → camSetupOf s.memSize s.caBase ws = some c →
        let u := markEnded { s with ccu := { s.ccu with setup := some c, slots := List.replicate c.slots ⟨.free, 0⟩,
                                                        lastOpened := c.slots - 1, vpd := 256, seen := 0, accepted := 0 } }
        Answers .cameraSetupReadEnd s (finish resDone (BitVec.ofNat 32 ((2 * c.wc + 63) / 64 * 64))
          (if s.ccu.enable = true ∨ s.rvc.st ≠ .normal then raised (startCapture u) else u)))) ∧
  (∀ (ws : List Word) (s : State),
    (ReadEnds 19 ws s →
      let quiet := s.chu.q.st = .idle ∧ s.chu.queue = []
      (¬quiet → Answers .chimeTableReadEnd s (finish resBusy 0 (markEnded s))) ∧
      (quiet → ∀ i, i < 32 → chimeSlotOf ws i = none → (∀ j < i, chimeSlotOf ws j ≠ none) →
        Answers .chimeTableReadEnd s (finish resBadParam (BitVec.ofNat 32 i) (markEnded s))) ∧
      (quiet → ∀ defs : List (Option ChimeDef), (List.range 32).map (chimeSlotOf ws) = defs.map some →
        Answers .chimeTableReadEnd s (finish resDone (BitVec.ofNat 32 (defs.countP Option.isSome))
          (markEnded { s with chu := { s.chu with
            master := field (wordAt ws 0) 0 8, defs := defs
            wave := (List.range 256).map fun i => BitVec.ofNat 16 (field (wordAt ws (16 + i / 2)) (16 * (i % 2)) 16) } })))) ∧
    (ReadEnds 22 ws s →
      (proximityOf ws = none → Answers .proximitySetupReadEnd s (finish resBadParam 0 (markEnded s))) ∧
      ∀ x, proximityOf ws = some x → Answers .proximitySetupReadEnd s (finish resDone 0 (syncVoiceP s.zone
        (markEnded { s with chu := { s.chu with prox := x }, seu := { s.seu with dirty := true } })))) ∧
    (ReadEnds 23 ws s →
      (∀ i, i < 8 → guardEntryOf s.memSize s.caBase ws i = none → (∀ j < i, guardEntryOf s.memSize s.caBase ws j ≠ none) →
        Answers .guardSetupReadEnd s (finish resBadParam (BitVec.ofNat 32 i) (markEnded s))) ∧
      ∀ table : List GuardRange, (List.range 8).map (guardEntryOf s.memSize s.caBase ws) = table.map some →
        Answers .guardSetupReadEnd s (finish resDone (BitVec.ofNat 32 (table.countP fun g => decide (g.cond ≠ .off)))
          (markEnded { s with ppw := { s.ppw with guard := table } }))))

/-- R160: the result words have been written: the record is consumed, its events raised, the next record taken. That the result words
are in memory at the end of their burst is DEDUCED (log entry 8). -/
def Obligations.RecordConsumed : Prop :=
  ∀ (s : State) (ws : List Word), s.phase ≠ .held → s.burstInside = true → s.burst = some (.result ws) →
    let c := s.cmu.c
    let code := s.cmu.code
    let i : Word := c.setWidth 32
    let u := markEnded { s with mem := writeWords s.mem s.burstAddr ws }
    let e := if code = resDone ∨ code = resMerged then u else raise .cmdError i code u
    let n := if s.cmu.cmd.fields.notify then raise .cmdDone i code e else e
    Answers .consumption s { n with
      cmu := { s.cmu with c := c + 1, st := if s.cmu.p = c + 1 then .idle else .reading },
      seu := { n.seu with dirty := true } }

/-- R162, R14, R38, R120: SOFT_RESTART. The reports of the two rear outputs come in either order (R167). -/
def Obligations.SoftRestart : Prop :=
  ∀ (r : Rec) (s : State), Arrives s → ∃ t, exec (.softRestart r) s = .next t ∧ t.cmu.st = .writing ∧ t.cmu.code = resDone ∧
    t.cmu.detail = BitVec.ofNat 32 ((if s.scn.rl.st = .stopped then 0 else 1) + (if s.scn.rr.st = .stopped then 0 else 2)) ∧
    (∀ o : Rear, let x := t.scan (rearOutput o); let y := s.scan (rearOutput o)
      x.st = .stopped ∧ (y.st ≠ .stopped → x.fetch = [] ∧ x.frameOpen = false) ∧ x.timing = y.timing ∧ x.frames = y.frames ∧
      x.pacing = y.pacing ∧ x.asSet = { y.asSet with menu := { y.asSet.menu with enabled := false } } ∧ x.inUse = y.inUse ∧
      t.fqu.rear.get o = ⟨none, none, none⟩) ∧
    (let report := fun o : Rear => let y := s.scan (rearOutput o)
       if y.st ≠ .stopped ∧ y.frameOpen = true ∧ y.underruns ≠ 0
       then [(⟨underrunKind (rearOutput o), BitVec.ofNat 32 y.underruns, y.frames &&& 0xFFFF⟩ : Raise)] else []
     Raises (report .rl ++ report .rr) s t ∨ Raises (report .rr ++ report .rl) s t) ∧
    t.scn.ctr = { s.scn.ctr with asSet := { s.scn.ctr.asSet with ui := { s.scn.ctr.asSet.ui with enabled := false } } } ∧
    (∀ src, t.fqu.film src = { s.fqu.film src with queue := [], current := none } ∧ t.fqu.idle src = true) ∧
    t.chu = { s.chu with queue := [], q := { Reset.voiceQ with env := s.chu.q.env } } ∧ t.seu.dirty = true ∧ t.menu = s.menu ∧ t.links = s.links ∧
    t.rvc = s.rvc ∧ t.gde = s.gde ∧ t.ccu = s.ccu ∧ t.ppw = s.ppw ∧ t.fma.normal = s.fma.normal ∧ t.fma.reverse = s.fma.reverse ∧
    t.fma.mon = s.fma.mon ∧ t.mem = s.mem ∧ t.time = s.time ∧ t.cmu.p = s.cmu.p ∧ t.cmu.c = s.cmu.c ∧ t.layout = s.layout ∧
    t.seu.recMask = s.seu.recMask ∧ t.seu.attnMask = s.seu.attnMask ∧ t.seu.tag = s.seu.tag

/-- R164, R165: a status write: the snapshot at the grant of its first burst, one block after another, and its end. R163, R180: every
word of the status block, and 0 in every word without a field. R169: the oldest record is granted before any other work of SERV,
into the entry it was given, as one burst of 4 words; when it has been written it leaves the queue. That a write is in memory at the
end of its burst (log entry 8) and that the kind is shown in EXECUTING and WRITING alone (log entry 21) is DEDUCED; the tag 0
without a current buffer is the choice of the model (log entry 42). -/
def Obligations.StatusAndRecordWrites : Prop :=
  ((∀ s : State, s.seu.queue = [] → s.cmu.st = .idle → s.seu.writing = none →
    let t := grantServ s
    let g := s.seu.generation + 1
    t.seu = { s.seu with dirty := false, generation := g, writing := some (statusWords s g, 0) } ∧
    t.burst = some (.status 0 ((statusWords s g).take 8)) ∧ t.burstAddr = s.caBase + 256) ∧
  (∀ (s : State) (snap : List Word) (k : Nat), s.seu.queue = [] → s.cmu.st = .idle → s.seu.writing = some (snap, k) →
    (grantServ s).seu = s.seu ∧ (grantServ s).burst = some (.status k ((snap.drop (8 * k)).take 8)) ∧
    (grantServ s).burstAddr = s.caBase + 256 + 32 * k) ∧
  (∀ (s : State) (g : Word), (statusWords s g).length = 192 ∧ wordAt (statusWords s g) 0 = g ∧ wordAt (statusWords s g) 191 = g) ∧
  ∀ (s : State) (ws : List Word) (k : Nat), s.phase ≠ .held → s.burstInside = true → s.burst = some (.status k ws) → 23 ≤ k →
    Answers .statusWriteEnd s (markEnded { s with mem := writeWords s.mem s.burstAddr ws, seu := { s.seu with writing := none } })) ∧
  (∀ (s : State) (g : Word), s.ccu.slots.length ≤ 8 →
    let w := fun off : Nat => wordAt (statusWords s g) (off / 4)
    let n := fun x : Nat => BitVec.ofNat 32 x
    let b := fun x : Bool => if x then 1 else 0
    let outState := fun o : Output => n (match (s.scan o).st with
      | .stopped => 0
      | .running => 1
      | .stopping => 2)
    let source := fun r : Option FilmSource => match r with
      | some .a => 0
      | some .b => 1
      | none => 2
    let reversing := decide (s.rvc.st ≠ .normal)
    let guard := fun i : Nat => s.ppw.guard.getD i Reset.guardRange
    let v := s.chu.q
    let m := s.fma.mon
    (w 0x000 = g ∧ w 0x004 = n (0x3140 + 2 ^ 16 + s.straps.caSel.toNat * 2 ^ 24 + b s.straps.memsz * 2 ^ 28) ∧ w 0x008 = s.time ∧
      w 0x00C = n (s.cmu.p.toNat + s.cmu.c.toNat * 2 ^ 8 + (match s.cmu.st with
        | .idle => 0
        | .reading => 1
        | .executing => 2
        | .writing => 3) * 2 ^ 16 + (if s.cmu.st = .executing ∨ s.cmu.st = .writing then s.cmu.cmd.kind.toNat else 0) * 2 ^ 24) ∧
      w 0x010 = n (s.seu.w.toNat + s.seu.a.toNat * 2 ^ 8) ∧
      w 0x014 = n (s.seu.pending.toNat % 2 ^ 32) ∧ w 0x018 = n (s.seu.pending.toNat / 2 ^ 32) ∧
      w 0x01C = n (s.seu.occurred.toNat % 2 ^ 32) ∧ w 0x020 = n (s.seu.occurred.toNat / 2 ^ 32) ∧
      w 0x030 = outState .ctr ∧ w 0x034 = s.scn.ctr.frames ∧ w 0x038 = outState .rl ∧ w 0x03C = s.scn.rl.frames ∧
      w 0x040 = outState .rr ∧ w 0x044 = s.scn.rr.frames) ∧
    (∀ src off, (src = .a ∧ off = 0x060) ∨ (src = .b ∧ off = 0x080) → let f := s.fqu.film src
      w off = n (b (!s.fqu.idle src) + b f.playing * 2 + b (s.rvc.setup.filmHold && reversing) * 4 + f.queue.length * 2 ^ 8 +
        f.bases.length * 2 ^ 16 +
        ((List.range f.bases.length).map fun i => if s.fqu.bufFree src i then 2 ^ i else 0).sum * 2 ^ 24) ∧
      w (off + 4) = f.clock ∧
      w (off + 8) = n (match f.current with
        | none => 255
        | some c => c.1 + c.2.toNat * 2 ^ 16)) ∧
    (∀ o off, (o = .rl ∧ off = 0x0A0) ∨ (o = .rr ∧ off = 0x0A4) → let x := s.fqu.rear.get o
      w off = n (source x.route + source (x.latched.map Prod.fst) * 2 ^ 8 + ((x.latched.map Prod.snd).getD 255) * 2 ^ 16)) ∧
    (w 0x0C0 = n (b s.ccu.setup.isSome + b s.ccu.enable * 2 + b reversing * 4 + b s.capturing * 8 + b s.ccu.present * 16 +
        s.ccu.slots.length * 2 ^ 8) ∧
      w 0x0C4 = s.ccu.seen ∧ w 0x0C8 = s.ccu.accepted ∧ w 0x0CC = n s.ccu.vpd) ∧
    (∀ i x, s.ccu.slots[i]? = some x → w (0x0E0 + 8 * i) = n (match x.st with
        | .free => 0
        | .writing => 1
        | .closing => 2
        | .ready => 3
        | .shown => 4) ∧ w (0x0E4 + 8 * i) = x.frame) ∧
    (w 0x120 = n ((match s.rvc.st with
        | .normal => 0
        | .engaging => 1
        | .live => 2
        | .blanked => 3
        | .linger => 4) + b s.rvc.request * 2 ^ 4 + b s.rvc.debounced * 2 ^ 5 + b (s.ppw.taken.vehicle.getLsbD 0) * 2 ^ 6 +
          (match s.rvc.setup.source with
            | .pin => 0
            | .vehicle => 1
            | .either => 2) * 2 ^ 8 + b s.rvc.heldBlanked * 2 ^ 12 + (shownSlot s.ccu.slots).getD 15 * 2 ^ 16 +
          b s.rvc.engageTimer.isSome * 2 ^ 24 + b s.rvc.staleTimer.isSome * 2 ^ 25 + b s.rvc.lingerTimer.isSome * 2 ^ 26)) ∧
    (w 0x130 = n (b s.gde.setup.isSome + b s.gde.pendingSetup.isSome * 2 + b reversing * 4 + (match s.gde.recompute with
        | .idle => 0
        | .running => 1
        | .waiting => 2) * 2 ^ 4 + b s.gde.pendingFlag * 2 ^ 6 + b s.gde.shown1 * 2 ^ 8 + (match s.gde.idle with
          | .clear => 0
          | .drawing => 1
          | .complete => 2) * 2 ^ 12 + b (s.gde.steering.valid && s.gde.steering.fresh) * 2 ^ 16 +
          b (s.gde.obstacle.valid && s.gde.obstacle.fresh) * 2 ^ 17) ∧
      w 0x134 = BitVec.ofInt 32 s.gde.captured.angle) ∧
    (w 0x140 = n ((match v.st with
        | .idle => 0
        | .playing => 1
        | .releasing => 2) + (if v.st = .idle then 255 else v.id) * 2 ^ 8 + s.chu.queue.length * 2 ^ 16 + (match s.chu.p.st with
          | .off => 0
          | .quiet => 1
          | .beep => 2
          | .gap => 3
          | .tone => 4
          | .release => 5) * 2 ^ 24 + b s.chu.prox.enable * 2 ^ 28) ∧
      w 0x144 = n s.chu.master) ∧
    (w 0x150 = n (((List.range 8).map fun i => (match (guard i).cond with
        | .off => 0
        | .always => 1
        | .reverse => 2) * 2 ^ (2 * i) + (match (guard i).cond with
          | .off => 0
          | .always => 1
          | .reverse => b reversing) * 2 ^ (16 + i)).sum + b s.capturing * 2 ^ 24)) ∧
    (w 0x160 = n (b reversing + (match m.st with
        | .off => 0
        | .counting => 1
        | .armed => 2
        | .tagged => 3
        | .held => 4) * 2 ^ 8 + b m.valid * 2 ^ 12 + s.fma.owed * 2 ^ 16) ∧
      w 0x164 = n m.period ∧ w 0x168 = m.sample.addr ∧
      w 0x16C = n (b m.sample.write + m.sample.len * 2 ^ 8 + m.sample.holder * 2 ^ 16 + b m.sample.urgent * 2 ^ 20 +
        b m.sample.reverse * 2 ^ 21 + m.sample.others * 2 ^ 24) ∧
      w 0x170 = n m.sample.wait.toNat ∧ w 0x2FC = g) ∧
    ∀ off, off % 4 = 0 → off < 0x300 → off ∉ [0x000, 0x004, 0x008, 0x00C, 0x010, 0x014, 0x018, 0x01C, 0x020, 0x030, 0x034, 0x038,
      0x03C, 0x040, 0x044, 0x060, 0x064, 0x068, 0x080, 0x084, 0x088, 0x0A0, 0x0A4, 0x0C0, 0x0C4, 0x0C8, 0x0CC, 0x120, 0x130, 0x134,
      0x140, 0x144, 0x150, 0x160, 0x164, 0x168, 0x16C, 0x170, 0x2FC] →
      (∀ i < s.ccu.slots.length, off ≠ 0x0E0 + 8 * i ∧ off ≠ 0x0E4 + 8 * i) → w off = 0) ∧
  ((∀ (s : State) (r : QueuedRecord) (rest : List QueuedRecord), s.seu.queue = r :: rest →
    let t := grantServ s
    t.burst = some (.event r.words) ∧ t.burstAddr = s.caBase + 1024 + 16 * r.entry.toNat ∧ t.seu = s.seu) ∧
  ∀ (s : State) (ws : List Word), s.phase ≠ .held → s.burstInside = true → s.burst = some (.event ws) →
    Answers .eventRecordWritten s
      (markEnded { s with mem := writeWords s.mem s.burstAddr ws, seu := { s.seu with queue := s.seu.queue.tail } }))

/-- R171, R172, R173, R176: EVT_ACK, the pending and occurrence clears, EVENT_SETUP, and the masks, enables and tag after a reset. -/
def Obligations.EventCommands : Prop :=
  (∀ phase straps mem rev rlp rrp waiting free pending,
    let e := (State.blocksReset phase straps mem rev rlp rrp waiting free pending).seu
    e.recMask = BitVec.allOnes 36 ∧ e.attnMask = 0 ∧ e.attnOn = true ∧ e.alertOn = false ∧ e.tag = 0) ∧
  (∀ (v : Word) (s : State), s.phase ≠ .held →
    let n := v.toNat
    let a := s.seu.a.toNat
    let w := s.seu.w.toNat
    let u := { s with ppw := { s.ppw with taken := { s.ppw.taken with evtAck := v } } }
    (63 < n ∨ (w + 64 - a) % 64 < (n + 64 - a) % 64 → Answers (.evtAck v) s u) ∧
    (n ≤ 63 → (n + 64 - a) % 64 ≤ (w + 64 - a) % 64 →
      Answers (.evtAck v) s { u with seu := { s.seu with a := v.setWidth 6, dirty := true } })) ∧
  (∀ (second : Bool) (v : Word) (s : State), s.phase ≠ .held →
    let named := fun k : EvKind => if second then decide (32 ≤ k.code) && v.getLsbD (k.code - 32)
      else decide (k.code < 32) && v.getLsbD k.code
    let e := s.seu
    (∃ p : BitVec 36, (∀ k : EvKind, p.getLsbD k.code = (e.pending.getLsbD k.code && !named k)) ∧
      Answers (.pendClr second v) s { s with
        ppw := { s.ppw with taken := if second then { s.ppw.taken with pendClr1 := v } else { s.ppw.taken with pendClr0 := v } },
        seu := { e with pending := p, attnN := !(e.attnOn && decide (p &&& e.attnMask ≠ 0)),
                        alertN := !(e.alertOn && (p.getLsbD 21 || p.getLsbD 22 || p.getLsbD 24)),
                        dirty := e.dirty || decide (p ≠ e.pending) } }) ∧
    (∃ o : BitVec 36, (∀ k : EvKind, o.getLsbD k.code =
        (e.occurred.getLsbD k.code && !(named k && !e.pending.getLsbD k.code))) ∧
      Answers (.occClr second v) s { s with
        ppw := { s.ppw with taken := if second then { s.ppw.taken with occClr1 := v } else { s.ppw.taken with occClr0 := v } },
        seu := { e with occurred := o, dirty := e.dirty || decide (o ≠ e.occurred) } })) ∧
  ∀ (r : Rec) (s : State), Arrives s →
    let mask := fun lo hi : Word => BitVec.ofNat 36 (lo.toNat + hi.toNat % 16 * 4294967296)
    let p := s.seu.pending
    Answers (.eventSetup r) s (completed 27 r resDone 0 { s with seu := { s.seu with
      recMask := mask r.op1 r.op2, attnMask := mask r.op3 r.op4, attnOn := r.op5.getLsbD 0, alertOn := r.op5.getLsbD 1,
      tag := BitVec.ofNat 8 (field r.op5 8 8), attnN := !(r.op5.getLsbD 0 && decide (p &&& mask r.op3 r.op4 ≠ 0)),
      alertN := !(r.op5.getLsbD 1 && (p.getLsbD 21 || p.getLsbD 22 || p.getLsbD 24)) } })

/-- R167, R168, R170, R174, R175: a raise: the flags, the record placed or lost, EVENT_RING_FULL for a lost one, the lines,
status-dirty; and nothing else. With it the codes, classes and safety marks of R166. -/
def Obligations.RaiseEffect : Prop :=
  (∀ (k : EvKind) (d a : Word) (s t : State), t = raise k d a s →
    let e := s.seu
    let wants := e.recMask.getLsbD k.code = true ∧ k ≠ .eventRingFull
    let full := e.w + 1 = e.a ∨ ∃ x ∈ e.queue, x.entry = e.w
    let words : List Word := [BitVec.ofNat 32 (k.code + (if k.isError then 256 else 0) + (if k.isSafety then 512 else 0) +
      e.tag.toNat * 16777216), d, a &&& 0xFFFF, s.time]
    (∀ j : EvKind, (t.seu.pending.getLsbD j.code = true ↔ e.pending.getLsbD j.code = true ∨ j = k ∨
        (wants ∧ full ∧ j = .eventRingFull)) ∧
      (t.seu.occurred.getLsbD j.code = true ↔ e.occurred.getLsbD j.code = true ∨ j = k ∨ (wants ∧ full ∧ j = .eventRingFull))) ∧
    (¬wants ∨ full → t.seu.w = e.w ∧ t.seu.queue = e.queue) ∧
    (wants → ¬full → t.seu.w = e.w + 1 ∧ t.seu.queue = e.queue ++ [⟨e.w, words⟩]) ∧
    t.seu.attnN = (!(e.attnOn && decide (t.seu.pending &&& e.attnMask ≠ 0))) ∧
    t.seu.alertN = (!(e.alertOn && (t.seu.pending.getLsbD 21 || t.seu.pending.getLsbD 22 || t.seu.pending.getLsbD 24))) ∧
    t = { s with seu := { e with pending := t.seu.pending, occurred := t.seu.occurred, w := t.seu.w, queue := t.seu.queue,
                                 attnN := t.seu.attnN, alertN := t.seu.alertN, dirty := true } }) ∧
  (∀ j k : EvKind, j.code = k.code → j = k) ∧ (∀ k : EvKind, k.code < 36) ∧
  (∀ k : EvKind, k.isError = true ↔ k.code ∈ [0, 1, 2, 6, 7, 15, 16, 17, 18, 21, 22, 24, 27, 28, 30, 32, 33]) ∧
  ∀ k : EvKind, k.isSafety = true ↔ k.code ∈ [21, 22, 24]

/-- R167, R168, R169, R173, R174, R175: every step keeps a pending kind occurred, keeps the lines as their rules have them, and gives no
two records that wait the same entry. -/
def Obligations.EventStateStaysSound : Prop :=
  ∀ s t : State, step s = .next t → (FlagsOk s → FlagsOk t) ∧ (LinesOk s → LinesOk t) ∧
    ((s.seu.queue.map QueuedRecord.entry).Nodup → (t.seu.queue.map QueuedRecord.entry).Nodup)

/-- R11, R12, R52, R124, R125, R157, R158, R160: the burst that a granted client takes up: whose it is, its place, its length and its
words. Which plane of an output is served, and which bytes of the capture buffer go together. Words of a read are those the SDRAM
holds at the grant (log entry 8), and a burst of CAPT ends where the next byte does not follow in its slot, half words included (log
entry 18): both are DEDUCED. -/
def Obligations.GrantContents : Prop :=
  (∀ p : Fetch, (p.requests = true ↔ p.lines.length < 4 ∧ p.next < p.stop ∧ p.got.length < p.words) ∧
    (p.urgent = true ↔ p.requests = true ∧ p.lines.length < 2)) ∧
  ∀ s : State,
    let carries := fun (c : Client) (a bytes : Nat) (x : Burst) => (carryBurst c s).fma.memory = .data ⟨c, a, bytes, x, false⟩
    (∀ q, s.ppw.tx = some q → let a := q.wordAddr.toNat * 4
      carries .proc a (4 * q.len) (if q.write then .procWrite else .procRead (readWords s.mem a q.len))) ∧
    (∀ o c p below above, (o = .ctr ∧ c = .scanC) ∨ (o = .rl ∧ c = .scanL) ∨ (o = .rr ∧ c = .scanR) →
      (s.scan o).fetch = below ++ p :: above → p.requests = true →
      (∀ x ∈ below, x.requests = true → p.lines.length < x.lines.length) →
      (∀ x ∈ above, x.requests = true → p.lines.length ≤ x.lines.length) →
      let n := min 8 (p.words - p.got.length)
      let a := p.base + p.next * p.pitch + 4 * p.got.length
      carries c a (4 * n) (.line o p.plane p.next (readWords s.mem a n) (decide (p.got.length + n = p.words)) false)) ∧
    (∀ slot a first rest, s.ccu.buffer = .pixel slot a first :: rest → ∃ (more : List Byte) (left : List CaptureItem),
      rest = (more.zipIdx.map fun x => CaptureItem.pixel slot (a + 1 + x.2) x.1) ++ left ∧ a % 32 + more.length ≤ 31 ∧
      (a % 32 + more.length = 31 ∨ ∀ y l, left ≠ .pixel slot (a + 1 + more.length) y :: l) ∧
      carries .capt a (more.length + 1) (.pixels ((first :: more).zipIdx.map fun x => (a + x.2, x.1))) ∧
      (carryBurst .capt s).ccu = { s.ccu with buffer := left }) ∧
    (∀ slot ws half rest c, s.ccu.buffer = .trailer slot ws half :: rest → s.ccu.setup = some c →
      let a := c.base + slot * 1048576 + 1048512
      (if half then carries .capt (a + 32) 32 (.trailer true (ws.drop 8)) else carries .capt a 32 (.trailer false (ws.take 8))) ∧
      (carryBurst .capt s).ccu = s.ccu) ∧
    (s.seu.queue = [] → let a := s.caBase + 2048 + 32 * s.cmu.c.toNat
      (s.cmu.st = .reading → carries .serv a 32 (.record (readWords s.mem a 8)) ∧ (carryBurst .serv s).seu = s.seu) ∧
      (s.cmu.st = .executing → ∀ b n rest, s.cmu.plan = (b, n) :: rest →
        carries .serv b (4 * n) (.table (readWords s.mem b n) (decide (rest = []))) ∧ (carryBurst .serv s).seu = s.seu) ∧
      (s.cmu.st = .writing → carries .serv (a + 24) 8 (.result [s.cmu.code, s.cmu.detail]) ∧ (carryBurst .serv s).seu = s.seu))

end
end

