-- ==== Sys2Proof/Laws/Memory.lean ====
section
/-! SUPPORT. The laws of the SDRAM: every write keeps the canonical form, a byte written is the byte read, and every other byte is
as it was. -/

namespace Sys2Proof.Machine

theorem memWfFrom_cons {lo : Option Nat} {k : Nat} {v : Byte} {rest : List Host.Cell} :
    memWfFrom lo ((k, v) :: rest) = true ↔ (∀ l, lo = some l → l < k) ∧ v ≠ unlistedByte ∧ memWfFrom (some k) rest = true := by
  cases lo <;> simp [memWfFrom, and_assoc]

/-- A lower bound may be lowered. -/
theorem memWfFrom_mono {m : List Host.Cell} {lo hi : Nat} (h : memWfFrom (some hi) m = true) (hl : lo ≤ hi) :
    memWfFrom (some lo) m = true := by
  cases m with
  | nil => rfl
  | cons c rest =>
    obtain ⟨k, v⟩ := c
    rw [memWfFrom_cons] at h ⊢
    exact ⟨fun l e => by have := h.1 hi rfl; simp only [Option.some.injEq] at e; omega, h.2⟩

/-- What lies below every listed address reads as an unlisted byte. -/
theorem readByte_below {m : List Host.Cell} {lo a : Nat} (h : memWfFrom (some lo) m = true) (ha : a ≤ lo) :
    readByte m a = unlistedByte := by
  induction m generalizing lo with
  | nil => rfl
  | cons c rest ih =>
    obtain ⟨k, v⟩ := c
    rw [memWfFrom_cons] at h
    have hk := h.1 lo rfl
    have hne : k ≠ a := by omega
    simp only [readByte, if_neg hne]
    exact ih h.2.2 (by omega)

/-- A write keeps the canonical form. -/
theorem wf_writeByte_from {m : List Host.Cell} {lo : Option Nat} {a : Nat} {v : Byte} (h : memWfFrom lo m = true)
    (ha : ∀ l, lo = some l → l < a) : memWfFrom lo (writeByte m a v) = true := by
  induction m generalizing lo with
  | nil =>
    unfold writeByte
    split
    · rfl
    · exact memWfFrom_cons.2 ⟨ha, by assumption, rfl⟩
  | cons c rest ih =>
    obtain ⟨k, w⟩ := c
    have h' := memWfFrom_cons.1 h
    unfold writeByte
    split
    · split
      · exact h
      · exact memWfFrom_cons.2 ⟨ha, by assumption, memWfFrom_cons.2 ⟨fun l e => by simp only [Option.some.injEq] at e; omega, h'.2⟩⟩
    · split
      · split
        · cases lo with
          | none =>
            cases rest with
            | nil => rfl
            | cons d r =>
              obtain ⟨k2, w2⟩ := d
              have h2 := memWfFrom_cons.1 h'.2.2
              exact memWfFrom_cons.2 ⟨by simp, h2.2⟩
          | some l => exact memWfFrom_mono h'.2.2 (Nat.le_of_lt (h'.1 l rfl))
        · exact memWfFrom_cons.2 ⟨ha, by assumption, by subst_vars; exact h'.2.2⟩
      · exact memWfFrom_cons.2 ⟨h'.1, h'.2.1, ih h'.2.2 (fun l e => by simp only [Option.some.injEq] at e; omega)⟩

/-- A byte write keeps the canonical form. -/
theorem wf_writeByte {m : List Host.Cell} (a : Nat) (v : Byte) (h : Memory.wf m = true) : Memory.wf (writeByte m a v) = true :=
  wf_writeByte_from h (by simp)

theorem wf_writeBytes {m : List Host.Cell} (a : Nat) (bs : List Byte) (h : Memory.wf m = true) :
    Memory.wf (writeBytes m a bs) = true := by
  induction bs generalizing m a with
  | nil => exact h
  | cons b bs ih => exact ih (a + 1) (wf_writeByte a b h)

theorem wf_writeWords {m : List Host.Cell} (a : Nat) (ws : List Word) (h : Memory.wf m = true) :
    Memory.wf (writeWords m a ws) = true := wf_writeBytes a _ h

theorem wf_writeCells {m : List Host.Cell} (cs : List Host.Cell) (h : Memory.wf m = true) :
    Memory.wf (writeCells m cs) = true := by
  induction cs generalizing m with
  | nil => exact h
  | cons c cs ih => exact ih (wf_writeByte c.1 c.2 h)

/-- A byte written is the byte read, and every other address reads as before. -/
theorem readByte_writeByte_from {m : List Host.Cell} {lo : Option Nat} (h : memWfFrom lo m = true) (a b : Nat) (v : Byte) :
    readByte (writeByte m a v) b = if a = b then v else readByte m b := by
  induction m generalizing lo with
  | nil =>
    unfold writeByte
    split
    · simp_all [readByte]
    · simp [readByte]
  | cons c rest ih =>
    obtain ⟨k, w⟩ := c
    have h' := memWfFrom_cons.1 h
    unfold writeByte
    split
    · rename_i hlt
      split
      · rename_i hv
        by_cases e : a = b
        · subst e
          have : k ≠ a := by omega
          simp only [readByte, if_neg this, if_true]
          rw [hv, readByte_below h'.2.2 (by omega)]
        · simp [e]
      · simp only [readByte]
    · split
      · rename_i _ heq
        subst heq
        split
        · rename_i hv
          by_cases e : a = b
          · subst e
            simp only [if_true]
            rw [hv, readByte_below h'.2.2 (le_refl _)]
          · simp [readByte, e]
        · by_cases e : a = b <;> simp [readByte, e]
      · rename_i h1 h2
        simp only [readByte]
        by_cases e : k = b
        · have : a ≠ b := by omega
          simp [e, this]
        · simp only [if_neg e]
          exact ih h'.2.2

theorem readByte_writeByte {m : List Host.Cell} (h : Memory.wf m = true) (a b : Nat) (v : Byte) :
    readByte (writeByte m a v) b = if a = b then v else readByte m b := readByte_writeByte_from h a b v

/-- The byte at an address inside a run of bytes written, and outside it. -/
theorem readByte_writeBytes {m : List Host.Cell} (h : Memory.wf m = true) (a : Nat) (bs : List Byte) (b : Nat) :
    readByte (writeBytes m a bs) b = if a ≤ b ∧ b < a + bs.length then bs.getD (b - a) 0 else readByte m b := by
  induction bs generalizing m a with
  | nil => simp [writeBytes]
  | cons x xs ih =>
    simp only [writeBytes]
    rw [ih (wf_writeByte a x h), readByte_writeByte h]
    by_cases e : a = b
    · subst e; simp
    · by_cases hlt : a < b
      · have hs : b - a = b - (a + 1) + 1 := by omega
        rw [hs]
        simp only [List.getD_cons_succ, List.length_cons, if_neg e]
        by_cases h2 : b < a + 1 + xs.length
        · rw [if_pos ⟨by omega, h2⟩, if_pos ⟨by omega, by omega⟩]
        · rw [if_neg (by omega), if_neg (by omega)]
      · rw [if_neg (by omega), if_neg e, if_neg (by omega)]

/-- Bytes not among the cells written read as before. -/
theorem readByte_writeCells_frame {m : List Host.Cell} (h : Memory.wf m = true) (cs : List Host.Cell) (b : Nat)
    (hb : ∀ c ∈ cs, c.1 ≠ b) : readByte (writeCells m cs) b = readByte m b := by
  induction cs generalizing m with
  | nil => rfl
  | cons c cs ih =>
    have hc : c.1 ≠ b := hb c (by simp)
    have := ih (m := writeByte m c.1 c.2) (wf_writeByte _ _ h) (fun d hd => hb d (by simp [hd]))
    simp only [writeCells]
    rw [this, readByte_writeByte h, if_neg hc]

/-- The SDRAM is in canonical form after power-on reset. -/
theorem wf_reset : Memory.wf State.reset.mem = true := rfl

end Sys2Proof.Machine
end

