-- ==== Sys2Proof/Laws/State.lean ====
section
/-! SUPPORT. One lemma per field of the state for each update of it, so that no proof unfolds a record update. -/

namespace Sys2Proof.Machine

@[simp] theorem State.markDirty_phase (s : State) : s.markDirty.phase = s.phase := rfl
@[simp] theorem State.markDirty_initDue (s : State) : s.markDirty.initDue = s.initDue := rfl
@[simp] theorem State.markDirty_straps (s : State) : s.markDirty.straps = s.straps := rfl
@[simp] theorem State.markDirty_time (s : State) : s.markDirty.time = s.time := rfl
@[simp] theorem State.markDirty_mem (s : State) : s.markDirty.mem = s.mem := rfl
@[simp] theorem State.markDirty_ppw (s : State) : s.markDirty.ppw = s.ppw := rfl
@[simp] theorem State.markDirty_fma (s : State) : s.markDirty.fma = s.fma := rfl
@[simp] theorem State.markDirty_cmu (s : State) : s.markDirty.cmu = s.cmu := rfl
@[simp] theorem State.markDirty_seu (s : State) : s.markDirty.seu = { s.seu with dirty := true } := rfl
@[simp] theorem State.markDirty_scn (s : State) : s.markDirty.scn = s.scn := rfl
@[simp] theorem State.markDirty_menu (s : State) : s.markDirty.menu = s.menu := rfl
@[simp] theorem State.markDirty_links (s : State) : s.markDirty.links = s.links := rfl
@[simp] theorem State.markDirty_layout (s : State) : s.markDirty.layout = s.layout := rfl
@[simp] theorem State.markDirty_fqu (s : State) : s.markDirty.fqu = s.fqu := rfl
@[simp] theorem State.markDirty_ccu (s : State) : s.markDirty.ccu = s.ccu := rfl
@[simp] theorem State.markDirty_rvc (s : State) : s.markDirty.rvc = s.rvc := rfl
@[simp] theorem State.markDirty_gde (s : State) : s.markDirty.gde = s.gde := rfl
@[simp] theorem State.markDirty_chu (s : State) : s.markDirty.chu = s.chu := rfl
@[simp] theorem State.markDirty_free (s : State) : s.markDirty.free = s.free := rfl
@[simp] theorem State.markDirty_pending (s : State) : s.markDirty.pending = s.pending := rfl

@[simp] theorem State.carry_phase (s : State) (g : Grant) : (s.carry g).phase = s.phase := rfl
@[simp] theorem State.carry_initDue (s : State) (g : Grant) : (s.carry g).initDue = s.initDue := rfl
@[simp] theorem State.carry_straps (s : State) (g : Grant) : (s.carry g).straps = s.straps := rfl
@[simp] theorem State.carry_time (s : State) (g : Grant) : (s.carry g).time = s.time := rfl
@[simp] theorem State.carry_mem (s : State) (g : Grant) : (s.carry g).mem = s.mem := rfl
@[simp] theorem State.carry_ppw (s : State) (g : Grant) : (s.carry g).ppw = s.ppw := rfl
@[simp] theorem State.carry_fma (s : State) (g : Grant) : (s.carry g).fma = { s.fma with memory := .data g } := rfl
@[simp] theorem State.carry_cmu (s : State) (g : Grant) : (s.carry g).cmu = s.cmu := rfl
@[simp] theorem State.carry_seu (s : State) (g : Grant) : (s.carry g).seu = s.seu := rfl
@[simp] theorem State.carry_scn (s : State) (g : Grant) : (s.carry g).scn = s.scn := rfl
@[simp] theorem State.carry_menu (s : State) (g : Grant) : (s.carry g).menu = s.menu := rfl
@[simp] theorem State.carry_links (s : State) (g : Grant) : (s.carry g).links = s.links := rfl
@[simp] theorem State.carry_layout (s : State) (g : Grant) : (s.carry g).layout = s.layout := rfl
@[simp] theorem State.carry_fqu (s : State) (g : Grant) : (s.carry g).fqu = s.fqu := rfl
@[simp] theorem State.carry_ccu (s : State) (g : Grant) : (s.carry g).ccu = s.ccu := rfl
@[simp] theorem State.carry_rvc (s : State) (g : Grant) : (s.carry g).rvc = s.rvc := rfl
@[simp] theorem State.carry_gde (s : State) (g : Grant) : (s.carry g).gde = s.gde := rfl
@[simp] theorem State.carry_chu (s : State) (g : Grant) : (s.carry g).chu = s.chu := rfl
@[simp] theorem State.carry_free (s : State) (g : Grant) : (s.carry g).free = s.free := rfl
@[simp] theorem State.carry_pending (s : State) (g : Grant) : (s.carry g).pending = s.pending := rfl

@[simp] theorem State.setScan_phase (s : State) (o : Output) (v : Scan) : (s.setScan o v).phase = s.phase := rfl
@[simp] theorem State.setScan_initDue (s : State) (o : Output) (v : Scan) : (s.setScan o v).initDue = s.initDue := rfl
@[simp] theorem State.setScan_straps (s : State) (o : Output) (v : Scan) : (s.setScan o v).straps = s.straps := rfl
@[simp] theorem State.setScan_time (s : State) (o : Output) (v : Scan) : (s.setScan o v).time = s.time := rfl
@[simp] theorem State.setScan_mem (s : State) (o : Output) (v : Scan) : (s.setScan o v).mem = s.mem := rfl
@[simp] theorem State.setScan_ppw (s : State) (o : Output) (v : Scan) : (s.setScan o v).ppw = s.ppw := rfl
@[simp] theorem State.setScan_fma (s : State) (o : Output) (v : Scan) : (s.setScan o v).fma = s.fma := rfl
@[simp] theorem State.setScan_cmu (s : State) (o : Output) (v : Scan) : (s.setScan o v).cmu = s.cmu := rfl
@[simp] theorem State.setScan_seu (s : State) (o : Output) (v : Scan) : (s.setScan o v).seu = s.seu := rfl
@[simp] theorem State.setScan_scn (s : State) (o : Output) (v : Scan) : (s.setScan o v).scn = s.scn.set o v := rfl
@[simp] theorem State.setScan_menu (s : State) (o : Output) (v : Scan) : (s.setScan o v).menu = s.menu := rfl
@[simp] theorem State.setScan_links (s : State) (o : Output) (v : Scan) : (s.setScan o v).links = s.links := rfl
@[simp] theorem State.setScan_layout (s : State) (o : Output) (v : Scan) : (s.setScan o v).layout = s.layout := rfl
@[simp] theorem State.setScan_fqu (s : State) (o : Output) (v : Scan) : (s.setScan o v).fqu = s.fqu := rfl
@[simp] theorem State.setScan_ccu (s : State) (o : Output) (v : Scan) : (s.setScan o v).ccu = s.ccu := rfl
@[simp] theorem State.setScan_rvc (s : State) (o : Output) (v : Scan) : (s.setScan o v).rvc = s.rvc := rfl
@[simp] theorem State.setScan_gde (s : State) (o : Output) (v : Scan) : (s.setScan o v).gde = s.gde := rfl
@[simp] theorem State.setScan_chu (s : State) (o : Output) (v : Scan) : (s.setScan o v).chu = s.chu := rfl
@[simp] theorem State.setScan_free (s : State) (o : Output) (v : Scan) : (s.setScan o v).free = s.free := rfl
@[simp] theorem State.setScan_pending (s : State) (o : Output) (v : Scan) : (s.setScan o v).pending = s.pending := rfl

@[simp] theorem State.modMenu_phase (s : State) (o : Rear) (f : Menu → Menu) : (s.modMenu o f).phase = s.phase := rfl
@[simp] theorem State.modMenu_initDue (s : State) (o : Rear) (f : Menu → Menu) : (s.modMenu o f).initDue = s.initDue := rfl
@[simp] theorem State.modMenu_straps (s : State) (o : Rear) (f : Menu → Menu) : (s.modMenu o f).straps = s.straps := rfl
@[simp] theorem State.modMenu_time (s : State) (o : Rear) (f : Menu → Menu) : (s.modMenu o f).time = s.time := rfl
@[simp] theorem State.modMenu_mem (s : State) (o : Rear) (f : Menu → Menu) : (s.modMenu o f).mem = s.mem := rfl
@[simp] theorem State.modMenu_ppw (s : State) (o : Rear) (f : Menu → Menu) : (s.modMenu o f).ppw = s.ppw := rfl
@[simp] theorem State.modMenu_fma (s : State) (o : Rear) (f : Menu → Menu) : (s.modMenu o f).fma = s.fma := rfl
@[simp] theorem State.modMenu_cmu (s : State) (o : Rear) (f : Menu → Menu) : (s.modMenu o f).cmu = s.cmu := rfl
@[simp] theorem State.modMenu_seu (s : State) (o : Rear) (f : Menu → Menu) : (s.modMenu o f).seu = s.seu := rfl
@[simp] theorem State.modMenu_scn (s : State) (o : Rear) (f : Menu → Menu) : (s.modMenu o f).scn = s.scn := rfl
@[simp] theorem State.modMenu_menu (s : State) (o : Rear) (f : Menu → Menu) : (s.modMenu o f).menu = s.menu.set o (f (s.menu.get o)) := rfl
@[simp] theorem State.modMenu_links (s : State) (o : Rear) (f : Menu → Menu) : (s.modMenu o f).links = s.links := rfl
@[simp] theorem State.modMenu_layout (s : State) (o : Rear) (f : Menu → Menu) : (s.modMenu o f).layout = s.layout := rfl
@[simp] theorem State.modMenu_fqu (s : State) (o : Rear) (f : Menu → Menu) : (s.modMenu o f).fqu = s.fqu := rfl
@[simp] theorem State.modMenu_ccu (s : State) (o : Rear) (f : Menu → Menu) : (s.modMenu o f).ccu = s.ccu := rfl
@[simp] theorem State.modMenu_rvc (s : State) (o : Rear) (f : Menu → Menu) : (s.modMenu o f).rvc = s.rvc := rfl
@[simp] theorem State.modMenu_gde (s : State) (o : Rear) (f : Menu → Menu) : (s.modMenu o f).gde = s.gde := rfl
@[simp] theorem State.modMenu_chu (s : State) (o : Rear) (f : Menu → Menu) : (s.modMenu o f).chu = s.chu := rfl
@[simp] theorem State.modMenu_free (s : State) (o : Rear) (f : Menu → Menu) : (s.modMenu o f).free = s.free := rfl
@[simp] theorem State.modMenu_pending (s : State) (o : Rear) (f : Menu → Menu) : (s.modMenu o f).pending = s.pending := rfl

@[simp] theorem State.setFqu_phase (q : Fqu) (s : State) : (s.setFqu q).phase = s.phase := rfl
@[simp] theorem State.setFqu_initDue (q : Fqu) (s : State) : (s.setFqu q).initDue = s.initDue := rfl
@[simp] theorem State.setFqu_straps (q : Fqu) (s : State) : (s.setFqu q).straps = s.straps := rfl
@[simp] theorem State.setFqu_time (q : Fqu) (s : State) : (s.setFqu q).time = s.time := rfl
@[simp] theorem State.setFqu_mem (q : Fqu) (s : State) : (s.setFqu q).mem = s.mem := rfl
@[simp] theorem State.setFqu_ppw (q : Fqu) (s : State) : (s.setFqu q).ppw = s.ppw := rfl
@[simp] theorem State.setFqu_fma (q : Fqu) (s : State) : (s.setFqu q).fma = s.fma := rfl
@[simp] theorem State.setFqu_cmu (q : Fqu) (s : State) : (s.setFqu q).cmu = s.cmu := rfl
@[simp] theorem State.setFqu_seu (q : Fqu) (s : State) : (s.setFqu q).seu = s.seu := rfl
@[simp] theorem State.setFqu_scn (q : Fqu) (s : State) : (s.setFqu q).scn = s.scn := rfl
@[simp] theorem State.setFqu_menu (q : Fqu) (s : State) : (s.setFqu q).menu = s.menu := rfl
@[simp] theorem State.setFqu_links (q : Fqu) (s : State) : (s.setFqu q).links = s.links := rfl
@[simp] theorem State.setFqu_layout (q : Fqu) (s : State) : (s.setFqu q).layout = s.layout := rfl
@[simp] theorem State.setFqu_fqu (q : Fqu) (s : State) : (s.setFqu q).fqu = q := rfl
@[simp] theorem State.setFqu_ccu (q : Fqu) (s : State) : (s.setFqu q).ccu = s.ccu := rfl
@[simp] theorem State.setFqu_rvc (q : Fqu) (s : State) : (s.setFqu q).rvc = s.rvc := rfl
@[simp] theorem State.setFqu_gde (q : Fqu) (s : State) : (s.setFqu q).gde = s.gde := rfl
@[simp] theorem State.setFqu_chu (q : Fqu) (s : State) : (s.setFqu q).chu = s.chu := rfl
@[simp] theorem State.setFqu_free (q : Fqu) (s : State) : (s.setFqu q).free = s.free := rfl
@[simp] theorem State.setFqu_pending (q : Fqu) (s : State) : (s.setFqu q).pending = s.pending := rfl

@[simp] theorem State.setCcu_phase (c : Ccu) (s : State) : (s.setCcu c).phase = s.phase := rfl
@[simp] theorem State.setCcu_initDue (c : Ccu) (s : State) : (s.setCcu c).initDue = s.initDue := rfl
@[simp] theorem State.setCcu_straps (c : Ccu) (s : State) : (s.setCcu c).straps = s.straps := rfl
@[simp] theorem State.setCcu_time (c : Ccu) (s : State) : (s.setCcu c).time = s.time := rfl
@[simp] theorem State.setCcu_mem (c : Ccu) (s : State) : (s.setCcu c).mem = s.mem := rfl
@[simp] theorem State.setCcu_ppw (c : Ccu) (s : State) : (s.setCcu c).ppw = s.ppw := rfl
@[simp] theorem State.setCcu_fma (c : Ccu) (s : State) : (s.setCcu c).fma = s.fma := rfl
@[simp] theorem State.setCcu_cmu (c : Ccu) (s : State) : (s.setCcu c).cmu = s.cmu := rfl
@[simp] theorem State.setCcu_seu (c : Ccu) (s : State) : (s.setCcu c).seu = s.seu := rfl
@[simp] theorem State.setCcu_scn (c : Ccu) (s : State) : (s.setCcu c).scn = s.scn := rfl
@[simp] theorem State.setCcu_menu (c : Ccu) (s : State) : (s.setCcu c).menu = s.menu := rfl
@[simp] theorem State.setCcu_links (c : Ccu) (s : State) : (s.setCcu c).links = s.links := rfl
@[simp] theorem State.setCcu_layout (c : Ccu) (s : State) : (s.setCcu c).layout = s.layout := rfl
@[simp] theorem State.setCcu_fqu (c : Ccu) (s : State) : (s.setCcu c).fqu = s.fqu := rfl
@[simp] theorem State.setCcu_ccu (c : Ccu) (s : State) : (s.setCcu c).ccu = c := rfl
@[simp] theorem State.setCcu_rvc (c : Ccu) (s : State) : (s.setCcu c).rvc = s.rvc := rfl
@[simp] theorem State.setCcu_gde (c : Ccu) (s : State) : (s.setCcu c).gde = s.gde := rfl
@[simp] theorem State.setCcu_chu (c : Ccu) (s : State) : (s.setCcu c).chu = s.chu := rfl
@[simp] theorem State.setCcu_free (c : Ccu) (s : State) : (s.setCcu c).free = s.free := rfl
@[simp] theorem State.setCcu_pending (c : Ccu) (s : State) : (s.setCcu c).pending = s.pending := rfl

@[simp] theorem State.setRvc_phase (r : Rvc) (s : State) : (s.setRvc r).phase = s.phase := rfl
@[simp] theorem State.setRvc_initDue (r : Rvc) (s : State) : (s.setRvc r).initDue = s.initDue := rfl
@[simp] theorem State.setRvc_straps (r : Rvc) (s : State) : (s.setRvc r).straps = s.straps := rfl
@[simp] theorem State.setRvc_time (r : Rvc) (s : State) : (s.setRvc r).time = s.time := rfl
@[simp] theorem State.setRvc_mem (r : Rvc) (s : State) : (s.setRvc r).mem = s.mem := rfl
@[simp] theorem State.setRvc_ppw (r : Rvc) (s : State) : (s.setRvc r).ppw = s.ppw := rfl
@[simp] theorem State.setRvc_fma (r : Rvc) (s : State) : (s.setRvc r).fma = s.fma := rfl
@[simp] theorem State.setRvc_cmu (r : Rvc) (s : State) : (s.setRvc r).cmu = s.cmu := rfl
@[simp] theorem State.setRvc_seu (r : Rvc) (s : State) : (s.setRvc r).seu = s.seu := rfl
@[simp] theorem State.setRvc_scn (r : Rvc) (s : State) : (s.setRvc r).scn = s.scn := rfl
@[simp] theorem State.setRvc_menu (r : Rvc) (s : State) : (s.setRvc r).menu = s.menu := rfl
@[simp] theorem State.setRvc_links (r : Rvc) (s : State) : (s.setRvc r).links = s.links := rfl
@[simp] theorem State.setRvc_layout (r : Rvc) (s : State) : (s.setRvc r).layout = s.layout := rfl
@[simp] theorem State.setRvc_fqu (r : Rvc) (s : State) : (s.setRvc r).fqu = s.fqu := rfl
@[simp] theorem State.setRvc_ccu (r : Rvc) (s : State) : (s.setRvc r).ccu = s.ccu := rfl
@[simp] theorem State.setRvc_rvc (r : Rvc) (s : State) : (s.setRvc r).rvc = r := rfl
@[simp] theorem State.setRvc_gde (r : Rvc) (s : State) : (s.setRvc r).gde = s.gde := rfl
@[simp] theorem State.setRvc_chu (r : Rvc) (s : State) : (s.setRvc r).chu = s.chu := rfl
@[simp] theorem State.setRvc_free (r : Rvc) (s : State) : (s.setRvc r).free = s.free := rfl
@[simp] theorem State.setRvc_pending (r : Rvc) (s : State) : (s.setRvc r).pending = s.pending := rfl

@[simp] theorem State.setGde_phase (g : Gde) (s : State) : (s.setGde g).phase = s.phase := rfl
@[simp] theorem State.setGde_initDue (g : Gde) (s : State) : (s.setGde g).initDue = s.initDue := rfl
@[simp] theorem State.setGde_straps (g : Gde) (s : State) : (s.setGde g).straps = s.straps := rfl
@[simp] theorem State.setGde_time (g : Gde) (s : State) : (s.setGde g).time = s.time := rfl
@[simp] theorem State.setGde_mem (g : Gde) (s : State) : (s.setGde g).mem = s.mem := rfl
@[simp] theorem State.setGde_ppw (g : Gde) (s : State) : (s.setGde g).ppw = s.ppw := rfl
@[simp] theorem State.setGde_fma (g : Gde) (s : State) : (s.setGde g).fma = s.fma := rfl
@[simp] theorem State.setGde_cmu (g : Gde) (s : State) : (s.setGde g).cmu = s.cmu := rfl
@[simp] theorem State.setGde_seu (g : Gde) (s : State) : (s.setGde g).seu = s.seu := rfl
@[simp] theorem State.setGde_scn (g : Gde) (s : State) : (s.setGde g).scn = s.scn := rfl
@[simp] theorem State.setGde_menu (g : Gde) (s : State) : (s.setGde g).menu = s.menu := rfl
@[simp] theorem State.setGde_links (g : Gde) (s : State) : (s.setGde g).links = s.links := rfl
@[simp] theorem State.setGde_layout (g : Gde) (s : State) : (s.setGde g).layout = s.layout := rfl
@[simp] theorem State.setGde_fqu (g : Gde) (s : State) : (s.setGde g).fqu = s.fqu := rfl
@[simp] theorem State.setGde_ccu (g : Gde) (s : State) : (s.setGde g).ccu = s.ccu := rfl
@[simp] theorem State.setGde_rvc (g : Gde) (s : State) : (s.setGde g).rvc = s.rvc := rfl
@[simp] theorem State.setGde_gde (g : Gde) (s : State) : (s.setGde g).gde = g := rfl
@[simp] theorem State.setGde_chu (g : Gde) (s : State) : (s.setGde g).chu = s.chu := rfl
@[simp] theorem State.setGde_free (g : Gde) (s : State) : (s.setGde g).free = s.free := rfl
@[simp] theorem State.setGde_pending (g : Gde) (s : State) : (s.setGde g).pending = s.pending := rfl

@[simp] theorem State.setMon_phase (m : Monitor) (s : State) : (s.setMon m).phase = s.phase := rfl
@[simp] theorem State.setMon_initDue (m : Monitor) (s : State) : (s.setMon m).initDue = s.initDue := rfl
@[simp] theorem State.setMon_straps (m : Monitor) (s : State) : (s.setMon m).straps = s.straps := rfl
@[simp] theorem State.setMon_time (m : Monitor) (s : State) : (s.setMon m).time = s.time := rfl
@[simp] theorem State.setMon_mem (m : Monitor) (s : State) : (s.setMon m).mem = s.mem := rfl
@[simp] theorem State.setMon_ppw (m : Monitor) (s : State) : (s.setMon m).ppw = s.ppw := rfl
@[simp] theorem State.setMon_fma (m : Monitor) (s : State) : (s.setMon m).fma = { s.fma with mon := m } := rfl
@[simp] theorem State.setMon_cmu (m : Monitor) (s : State) : (s.setMon m).cmu = s.cmu := rfl
@[simp] theorem State.setMon_seu (m : Monitor) (s : State) : (s.setMon m).seu = s.seu := rfl
@[simp] theorem State.setMon_scn (m : Monitor) (s : State) : (s.setMon m).scn = s.scn := rfl
@[simp] theorem State.setMon_menu (m : Monitor) (s : State) : (s.setMon m).menu = s.menu := rfl
@[simp] theorem State.setMon_links (m : Monitor) (s : State) : (s.setMon m).links = s.links := rfl
@[simp] theorem State.setMon_layout (m : Monitor) (s : State) : (s.setMon m).layout = s.layout := rfl
@[simp] theorem State.setMon_fqu (m : Monitor) (s : State) : (s.setMon m).fqu = s.fqu := rfl
@[simp] theorem State.setMon_ccu (m : Monitor) (s : State) : (s.setMon m).ccu = s.ccu := rfl
@[simp] theorem State.setMon_rvc (m : Monitor) (s : State) : (s.setMon m).rvc = s.rvc := rfl
@[simp] theorem State.setMon_gde (m : Monitor) (s : State) : (s.setMon m).gde = s.gde := rfl
@[simp] theorem State.setMon_chu (m : Monitor) (s : State) : (s.setMon m).chu = s.chu := rfl
@[simp] theorem State.setMon_free (m : Monitor) (s : State) : (s.setMon m).free = s.free := rfl
@[simp] theorem State.setMon_pending (m : Monitor) (s : State) : (s.setMon m).pending = s.pending := rfl

@[simp] theorem State.setQueue_phase (q : List ChimeEntry) (s : State) : (s.setQueue q).phase = s.phase := rfl
@[simp] theorem State.setQueue_initDue (q : List ChimeEntry) (s : State) : (s.setQueue q).initDue = s.initDue := rfl
@[simp] theorem State.setQueue_straps (q : List ChimeEntry) (s : State) : (s.setQueue q).straps = s.straps := rfl
@[simp] theorem State.setQueue_time (q : List ChimeEntry) (s : State) : (s.setQueue q).time = s.time := rfl
@[simp] theorem State.setQueue_mem (q : List ChimeEntry) (s : State) : (s.setQueue q).mem = s.mem := rfl
@[simp] theorem State.setQueue_ppw (q : List ChimeEntry) (s : State) : (s.setQueue q).ppw = s.ppw := rfl
@[simp] theorem State.setQueue_fma (q : List ChimeEntry) (s : State) : (s.setQueue q).fma = s.fma := rfl
@[simp] theorem State.setQueue_cmu (q : List ChimeEntry) (s : State) : (s.setQueue q).cmu = s.cmu := rfl
@[simp] theorem State.setQueue_seu (q : List ChimeEntry) (s : State) : (s.setQueue q).seu = { s.seu with dirty := true } := rfl
@[simp] theorem State.setQueue_scn (q : List ChimeEntry) (s : State) : (s.setQueue q).scn = s.scn := rfl
@[simp] theorem State.setQueue_menu (q : List ChimeEntry) (s : State) : (s.setQueue q).menu = s.menu := rfl
@[simp] theorem State.setQueue_links (q : List ChimeEntry) (s : State) : (s.setQueue q).links = s.links := rfl
@[simp] theorem State.setQueue_layout (q : List ChimeEntry) (s : State) : (s.setQueue q).layout = s.layout := rfl
@[simp] theorem State.setQueue_fqu (q : List ChimeEntry) (s : State) : (s.setQueue q).fqu = s.fqu := rfl
@[simp] theorem State.setQueue_ccu (q : List ChimeEntry) (s : State) : (s.setQueue q).ccu = s.ccu := rfl
@[simp] theorem State.setQueue_rvc (q : List ChimeEntry) (s : State) : (s.setQueue q).rvc = s.rvc := rfl
@[simp] theorem State.setQueue_gde (q : List ChimeEntry) (s : State) : (s.setQueue q).gde = s.gde := rfl
@[simp] theorem State.setQueue_chu (q : List ChimeEntry) (s : State) : (s.setQueue q).chu = { s.chu with queue := q } := rfl
@[simp] theorem State.setQueue_free (q : List ChimeEntry) (s : State) : (s.setQueue q).free = s.free := rfl
@[simp] theorem State.setQueue_pending (q : List ChimeEntry) (s : State) : (s.setQueue q).pending = s.pending := rfl

@[simp] theorem State.setVoiceQ_phase (v : VoiceQ) (s : State) : (s.setVoiceQ v).phase = s.phase := rfl
@[simp] theorem State.setVoiceQ_initDue (v : VoiceQ) (s : State) : (s.setVoiceQ v).initDue = s.initDue := rfl
@[simp] theorem State.setVoiceQ_straps (v : VoiceQ) (s : State) : (s.setVoiceQ v).straps = s.straps := rfl
@[simp] theorem State.setVoiceQ_time (v : VoiceQ) (s : State) : (s.setVoiceQ v).time = s.time := rfl
@[simp] theorem State.setVoiceQ_mem (v : VoiceQ) (s : State) : (s.setVoiceQ v).mem = s.mem := rfl
@[simp] theorem State.setVoiceQ_ppw (v : VoiceQ) (s : State) : (s.setVoiceQ v).ppw = s.ppw := rfl
@[simp] theorem State.setVoiceQ_fma (v : VoiceQ) (s : State) : (s.setVoiceQ v).fma = s.fma := rfl
@[simp] theorem State.setVoiceQ_cmu (v : VoiceQ) (s : State) : (s.setVoiceQ v).cmu = s.cmu := rfl
@[simp] theorem State.setVoiceQ_seu (v : VoiceQ) (s : State) : (s.setVoiceQ v).seu = s.seu := rfl
@[simp] theorem State.setVoiceQ_scn (v : VoiceQ) (s : State) : (s.setVoiceQ v).scn = s.scn := rfl
@[simp] theorem State.setVoiceQ_menu (v : VoiceQ) (s : State) : (s.setVoiceQ v).menu = s.menu := rfl
@[simp] theorem State.setVoiceQ_links (v : VoiceQ) (s : State) : (s.setVoiceQ v).links = s.links := rfl
@[simp] theorem State.setVoiceQ_layout (v : VoiceQ) (s : State) : (s.setVoiceQ v).layout = s.layout := rfl
@[simp] theorem State.setVoiceQ_fqu (v : VoiceQ) (s : State) : (s.setVoiceQ v).fqu = s.fqu := rfl
@[simp] theorem State.setVoiceQ_ccu (v : VoiceQ) (s : State) : (s.setVoiceQ v).ccu = s.ccu := rfl
@[simp] theorem State.setVoiceQ_rvc (v : VoiceQ) (s : State) : (s.setVoiceQ v).rvc = s.rvc := rfl
@[simp] theorem State.setVoiceQ_gde (v : VoiceQ) (s : State) : (s.setVoiceQ v).gde = s.gde := rfl
@[simp] theorem State.setVoiceQ_chu (v : VoiceQ) (s : State) : (s.setVoiceQ v).chu = { s.chu with q := v } := rfl
@[simp] theorem State.setVoiceQ_free (v : VoiceQ) (s : State) : (s.setVoiceQ v).free = s.free := rfl
@[simp] theorem State.setVoiceQ_pending (v : VoiceQ) (s : State) : (s.setVoiceQ v).pending = s.pending := rfl

@[simp] theorem State.setTaken_phase (f : Taken → Taken) (s : State) : (s.setTaken f).phase = s.phase := rfl
@[simp] theorem State.setTaken_initDue (f : Taken → Taken) (s : State) : (s.setTaken f).initDue = s.initDue := rfl
@[simp] theorem State.setTaken_straps (f : Taken → Taken) (s : State) : (s.setTaken f).straps = s.straps := rfl
@[simp] theorem State.setTaken_time (f : Taken → Taken) (s : State) : (s.setTaken f).time = s.time := rfl
@[simp] theorem State.setTaken_mem (f : Taken → Taken) (s : State) : (s.setTaken f).mem = s.mem := rfl
@[simp] theorem State.setTaken_ppw (f : Taken → Taken) (s : State) : (s.setTaken f).ppw = { s.ppw with taken := f s.ppw.taken } := rfl
@[simp] theorem State.setTaken_fma (f : Taken → Taken) (s : State) : (s.setTaken f).fma = s.fma := rfl
@[simp] theorem State.setTaken_cmu (f : Taken → Taken) (s : State) : (s.setTaken f).cmu = s.cmu := rfl
@[simp] theorem State.setTaken_seu (f : Taken → Taken) (s : State) : (s.setTaken f).seu = s.seu := rfl
@[simp] theorem State.setTaken_scn (f : Taken → Taken) (s : State) : (s.setTaken f).scn = s.scn := rfl
@[simp] theorem State.setTaken_menu (f : Taken → Taken) (s : State) : (s.setTaken f).menu = s.menu := rfl
@[simp] theorem State.setTaken_links (f : Taken → Taken) (s : State) : (s.setTaken f).links = s.links := rfl
@[simp] theorem State.setTaken_layout (f : Taken → Taken) (s : State) : (s.setTaken f).layout = s.layout := rfl
@[simp] theorem State.setTaken_fqu (f : Taken → Taken) (s : State) : (s.setTaken f).fqu = s.fqu := rfl
@[simp] theorem State.setTaken_ccu (f : Taken → Taken) (s : State) : (s.setTaken f).ccu = s.ccu := rfl
@[simp] theorem State.setTaken_rvc (f : Taken → Taken) (s : State) : (s.setTaken f).rvc = s.rvc := rfl
@[simp] theorem State.setTaken_gde (f : Taken → Taken) (s : State) : (s.setTaken f).gde = s.gde := rfl
@[simp] theorem State.setTaken_chu (f : Taken → Taken) (s : State) : (s.setTaken f).chu = s.chu := rfl
@[simp] theorem State.setTaken_free (f : Taken → Taken) (s : State) : (s.setTaken f).free = s.free := rfl
@[simp] theorem State.setTaken_pending (f : Taken → Taken) (s : State) : (s.setTaken f).pending = s.pending := rfl

@[simp] theorem raise_phase (k : EvKind) (d a : Word) (s : State) : (raise k d a s).phase = s.phase := rfl
@[simp] theorem raise_initDue (k : EvKind) (d a : Word) (s : State) : (raise k d a s).initDue = s.initDue := rfl
@[simp] theorem raise_straps (k : EvKind) (d a : Word) (s : State) : (raise k d a s).straps = s.straps := rfl
@[simp] theorem raise_time (k : EvKind) (d a : Word) (s : State) : (raise k d a s).time = s.time := rfl
@[simp] theorem raise_mem (k : EvKind) (d a : Word) (s : State) : (raise k d a s).mem = s.mem := rfl
@[simp] theorem raise_ppw (k : EvKind) (d a : Word) (s : State) : (raise k d a s).ppw = s.ppw := rfl
@[simp] theorem raise_fma (k : EvKind) (d a : Word) (s : State) : (raise k d a s).fma = s.fma := rfl
@[simp] theorem raise_cmu (k : EvKind) (d a : Word) (s : State) : (raise k d a s).cmu = s.cmu := rfl
@[simp] theorem raise_seu (k : EvKind) (d a : Word) (s : State) : (raise k d a s).seu = { ((s.seu.setKind k).placeRecord k (eventWords k d a s.time s.seu.tag)).evalLines with dirty := true } := rfl
@[simp] theorem raise_scn (k : EvKind) (d a : Word) (s : State) : (raise k d a s).scn = s.scn := rfl
@[simp] theorem raise_menu (k : EvKind) (d a : Word) (s : State) : (raise k d a s).menu = s.menu := rfl
@[simp] theorem raise_links (k : EvKind) (d a : Word) (s : State) : (raise k d a s).links = s.links := rfl
@[simp] theorem raise_layout (k : EvKind) (d a : Word) (s : State) : (raise k d a s).layout = s.layout := rfl
@[simp] theorem raise_fqu (k : EvKind) (d a : Word) (s : State) : (raise k d a s).fqu = s.fqu := rfl
@[simp] theorem raise_ccu (k : EvKind) (d a : Word) (s : State) : (raise k d a s).ccu = s.ccu := rfl
@[simp] theorem raise_rvc (k : EvKind) (d a : Word) (s : State) : (raise k d a s).rvc = s.rvc := rfl
@[simp] theorem raise_gde (k : EvKind) (d a : Word) (s : State) : (raise k d a s).gde = s.gde := rfl
@[simp] theorem raise_chu (k : EvKind) (d a : Word) (s : State) : (raise k d a s).chu = s.chu := rfl
@[simp] theorem raise_free (k : EvKind) (d a : Word) (s : State) : (raise k d a s).free = s.free := rfl
@[simp] theorem raise_pending (k : EvKind) (d a : Word) (s : State) : (raise k d a s).pending = s.pending := rfl

@[simp] theorem finish_phase (c d : Word) (s : State) : (finish c d s).phase = s.phase := rfl
@[simp] theorem finish_initDue (c d : Word) (s : State) : (finish c d s).initDue = s.initDue := rfl
@[simp] theorem finish_straps (c d : Word) (s : State) : (finish c d s).straps = s.straps := rfl
@[simp] theorem finish_time (c d : Word) (s : State) : (finish c d s).time = s.time := rfl
@[simp] theorem finish_mem (c d : Word) (s : State) : (finish c d s).mem = s.mem := rfl
@[simp] theorem finish_ppw (c d : Word) (s : State) : (finish c d s).ppw = s.ppw := rfl
@[simp] theorem finish_fma (c d : Word) (s : State) : (finish c d s).fma = s.fma := rfl
@[simp] theorem finish_cmu (c d : Word) (s : State) : (finish c d s).cmu = { s.cmu with st := .writing, code := c, detail := d, plan := [], data := [] } := rfl
@[simp] theorem finish_seu (c d : Word) (s : State) : (finish c d s).seu = { s.seu with dirty := true } := rfl
@[simp] theorem finish_scn (c d : Word) (s : State) : (finish c d s).scn = s.scn := rfl
@[simp] theorem finish_menu (c d : Word) (s : State) : (finish c d s).menu = s.menu := rfl
@[simp] theorem finish_links (c d : Word) (s : State) : (finish c d s).links = s.links := rfl
@[simp] theorem finish_layout (c d : Word) (s : State) : (finish c d s).layout = s.layout := rfl
@[simp] theorem finish_fqu (c d : Word) (s : State) : (finish c d s).fqu = s.fqu := rfl
@[simp] theorem finish_ccu (c d : Word) (s : State) : (finish c d s).ccu = s.ccu := rfl
@[simp] theorem finish_rvc (c d : Word) (s : State) : (finish c d s).rvc = s.rvc := rfl
@[simp] theorem finish_gde (c d : Word) (s : State) : (finish c d s).gde = s.gde := rfl
@[simp] theorem finish_chu (c d : Word) (s : State) : (finish c d s).chu = s.chu := rfl
@[simp] theorem finish_free (c d : Word) (s : State) : (finish c d s).free = s.free := rfl
@[simp] theorem finish_pending (c d : Word) (s : State) : (finish c d s).pending = s.pending := rfl

@[simp] theorem beginRead_phase (p : List (Nat × Nat)) (s : State) : (beginRead p s).phase = s.phase := rfl
@[simp] theorem beginRead_initDue (p : List (Nat × Nat)) (s : State) : (beginRead p s).initDue = s.initDue := rfl
@[simp] theorem beginRead_straps (p : List (Nat × Nat)) (s : State) : (beginRead p s).straps = s.straps := rfl
@[simp] theorem beginRead_time (p : List (Nat × Nat)) (s : State) : (beginRead p s).time = s.time := rfl
@[simp] theorem beginRead_mem (p : List (Nat × Nat)) (s : State) : (beginRead p s).mem = s.mem := rfl
@[simp] theorem beginRead_ppw (p : List (Nat × Nat)) (s : State) : (beginRead p s).ppw = s.ppw := rfl
@[simp] theorem beginRead_fma (p : List (Nat × Nat)) (s : State) : (beginRead p s).fma = s.fma := rfl
@[simp] theorem beginRead_cmu (p : List (Nat × Nat)) (s : State) : (beginRead p s).cmu = { s.cmu with st := .executing, plan := p, data := [] } := rfl
@[simp] theorem beginRead_seu (p : List (Nat × Nat)) (s : State) : (beginRead p s).seu = { s.seu with dirty := true } := rfl
@[simp] theorem beginRead_scn (p : List (Nat × Nat)) (s : State) : (beginRead p s).scn = s.scn := rfl
@[simp] theorem beginRead_menu (p : List (Nat × Nat)) (s : State) : (beginRead p s).menu = s.menu := rfl
@[simp] theorem beginRead_links (p : List (Nat × Nat)) (s : State) : (beginRead p s).links = s.links := rfl
@[simp] theorem beginRead_layout (p : List (Nat × Nat)) (s : State) : (beginRead p s).layout = s.layout := rfl
@[simp] theorem beginRead_fqu (p : List (Nat × Nat)) (s : State) : (beginRead p s).fqu = s.fqu := rfl
@[simp] theorem beginRead_ccu (p : List (Nat × Nat)) (s : State) : (beginRead p s).ccu = s.ccu := rfl
@[simp] theorem beginRead_rvc (p : List (Nat × Nat)) (s : State) : (beginRead p s).rvc = s.rvc := rfl
@[simp] theorem beginRead_gde (p : List (Nat × Nat)) (s : State) : (beginRead p s).gde = s.gde := rfl
@[simp] theorem beginRead_chu (p : List (Nat × Nat)) (s : State) : (beginRead p s).chu = s.chu := rfl
@[simp] theorem beginRead_free (p : List (Nat × Nat)) (s : State) : (beginRead p s).free = s.free := rfl
@[simp] theorem beginRead_pending (p : List (Nat × Nat)) (s : State) : (beginRead p s).pending = s.pending := rfl

@[simp] theorem State.dirtyIf_phase (b : Bool) (s : State) : (s.dirtyIf b).phase = s.phase := by cases b <;> rfl
@[simp] theorem State.dirtyIf_initDue (b : Bool) (s : State) : (s.dirtyIf b).initDue = s.initDue := by cases b <;> rfl
@[simp] theorem State.dirtyIf_straps (b : Bool) (s : State) : (s.dirtyIf b).straps = s.straps := by cases b <;> rfl
@[simp] theorem State.dirtyIf_time (b : Bool) (s : State) : (s.dirtyIf b).time = s.time := by cases b <;> rfl
@[simp] theorem State.dirtyIf_mem (b : Bool) (s : State) : (s.dirtyIf b).mem = s.mem := by cases b <;> rfl
@[simp] theorem State.dirtyIf_ppw (b : Bool) (s : State) : (s.dirtyIf b).ppw = s.ppw := by cases b <;> rfl
@[simp] theorem State.dirtyIf_fma (b : Bool) (s : State) : (s.dirtyIf b).fma = s.fma := by cases b <;> rfl
@[simp] theorem State.dirtyIf_cmu (b : Bool) (s : State) : (s.dirtyIf b).cmu = s.cmu := by cases b <;> rfl
@[simp] theorem State.dirtyIf_scn (b : Bool) (s : State) : (s.dirtyIf b).scn = s.scn := by cases b <;> rfl
@[simp] theorem State.dirtyIf_menu (b : Bool) (s : State) : (s.dirtyIf b).menu = s.menu := by cases b <;> rfl
@[simp] theorem State.dirtyIf_links (b : Bool) (s : State) : (s.dirtyIf b).links = s.links := by cases b <;> rfl
@[simp] theorem State.dirtyIf_layout (b : Bool) (s : State) : (s.dirtyIf b).layout = s.layout := by cases b <;> rfl
@[simp] theorem State.dirtyIf_fqu (b : Bool) (s : State) : (s.dirtyIf b).fqu = s.fqu := by cases b <;> rfl
@[simp] theorem State.dirtyIf_ccu (b : Bool) (s : State) : (s.dirtyIf b).ccu = s.ccu := by cases b <;> rfl
@[simp] theorem State.dirtyIf_rvc (b : Bool) (s : State) : (s.dirtyIf b).rvc = s.rvc := by cases b <;> rfl
@[simp] theorem State.dirtyIf_gde (b : Bool) (s : State) : (s.dirtyIf b).gde = s.gde := by cases b <;> rfl
@[simp] theorem State.dirtyIf_chu (b : Bool) (s : State) : (s.dirtyIf b).chu = s.chu := by cases b <;> rfl
@[simp] theorem State.dirtyIf_free (b : Bool) (s : State) : (s.dirtyIf b).free = s.free := by cases b <;> rfl
@[simp] theorem State.dirtyIf_pending (b : Bool) (s : State) : (s.dirtyIf b).pending = s.pending := by cases b <;> rfl

@[simp] theorem raiseIf_phase (b : Bool) (k : EvKind) (d a : Word) (s : State) : (raiseIf b k d a s).phase = s.phase := by cases b <;> rfl
@[simp] theorem raiseIf_initDue (b : Bool) (k : EvKind) (d a : Word) (s : State) : (raiseIf b k d a s).initDue = s.initDue := by cases b <;> rfl
@[simp] theorem raiseIf_straps (b : Bool) (k : EvKind) (d a : Word) (s : State) : (raiseIf b k d a s).straps = s.straps := by cases b <;> rfl
@[simp] theorem raiseIf_time (b : Bool) (k : EvKind) (d a : Word) (s : State) : (raiseIf b k d a s).time = s.time := by cases b <;> rfl
@[simp] theorem raiseIf_mem (b : Bool) (k : EvKind) (d a : Word) (s : State) : (raiseIf b k d a s).mem = s.mem := by cases b <;> rfl
@[simp] theorem raiseIf_ppw (b : Bool) (k : EvKind) (d a : Word) (s : State) : (raiseIf b k d a s).ppw = s.ppw := by cases b <;> rfl
@[simp] theorem raiseIf_fma (b : Bool) (k : EvKind) (d a : Word) (s : State) : (raiseIf b k d a s).fma = s.fma := by cases b <;> rfl
@[simp] theorem raiseIf_cmu (b : Bool) (k : EvKind) (d a : Word) (s : State) : (raiseIf b k d a s).cmu = s.cmu := by cases b <;> rfl
@[simp] theorem raiseIf_scn (b : Bool) (k : EvKind) (d a : Word) (s : State) : (raiseIf b k d a s).scn = s.scn := by cases b <;> rfl
@[simp] theorem raiseIf_menu (b : Bool) (k : EvKind) (d a : Word) (s : State) : (raiseIf b k d a s).menu = s.menu := by cases b <;> rfl
@[simp] theorem raiseIf_links (b : Bool) (k : EvKind) (d a : Word) (s : State) : (raiseIf b k d a s).links = s.links := by cases b <;> rfl
@[simp] theorem raiseIf_layout (b : Bool) (k : EvKind) (d a : Word) (s : State) : (raiseIf b k d a s).layout = s.layout := by cases b <;> rfl
@[simp] theorem raiseIf_fqu (b : Bool) (k : EvKind) (d a : Word) (s : State) : (raiseIf b k d a s).fqu = s.fqu := by cases b <;> rfl
@[simp] theorem raiseIf_ccu (b : Bool) (k : EvKind) (d a : Word) (s : State) : (raiseIf b k d a s).ccu = s.ccu := by cases b <;> rfl
@[simp] theorem raiseIf_rvc (b : Bool) (k : EvKind) (d a : Word) (s : State) : (raiseIf b k d a s).rvc = s.rvc := by cases b <;> rfl
@[simp] theorem raiseIf_gde (b : Bool) (k : EvKind) (d a : Word) (s : State) : (raiseIf b k d a s).gde = s.gde := by cases b <;> rfl
@[simp] theorem raiseIf_chu (b : Bool) (k : EvKind) (d a : Word) (s : State) : (raiseIf b k d a s).chu = s.chu := by cases b <;> rfl
@[simp] theorem raiseIf_free (b : Bool) (k : EvKind) (d a : Word) (s : State) : (raiseIf b k d a s).free = s.free := by cases b <;> rfl
@[simp] theorem raiseIf_pending (b : Bool) (k : EvKind) (d a : Word) (s : State) : (raiseIf b k d a s).pending = s.pending := by cases b <;> rfl

@[simp] theorem markEnded_phase (s : State) : (markEnded s).phase = s.phase := by unfold markEnded; split <;> rfl
@[simp] theorem markEnded_initDue (s : State) : (markEnded s).initDue = s.initDue := by unfold markEnded; split <;> rfl
@[simp] theorem markEnded_straps (s : State) : (markEnded s).straps = s.straps := by unfold markEnded; split <;> rfl
@[simp] theorem markEnded_time (s : State) : (markEnded s).time = s.time := by unfold markEnded; split <;> rfl
@[simp] theorem markEnded_mem (s : State) : (markEnded s).mem = s.mem := by unfold markEnded; split <;> rfl
@[simp] theorem markEnded_ppw (s : State) : (markEnded s).ppw = s.ppw := by unfold markEnded; split <;> rfl
@[simp] theorem markEnded_cmu (s : State) : (markEnded s).cmu = s.cmu := by unfold markEnded; split <;> rfl
@[simp] theorem markEnded_seu (s : State) : (markEnded s).seu = s.seu := by unfold markEnded; split <;> rfl
@[simp] theorem markEnded_scn (s : State) : (markEnded s).scn = s.scn := by unfold markEnded; split <;> rfl
@[simp] theorem markEnded_menu (s : State) : (markEnded s).menu = s.menu := by unfold markEnded; split <;> rfl
@[simp] theorem markEnded_links (s : State) : (markEnded s).links = s.links := by unfold markEnded; split <;> rfl
@[simp] theorem markEnded_layout (s : State) : (markEnded s).layout = s.layout := by unfold markEnded; split <;> rfl
@[simp] theorem markEnded_fqu (s : State) : (markEnded s).fqu = s.fqu := by unfold markEnded; split <;> rfl
@[simp] theorem markEnded_ccu (s : State) : (markEnded s).ccu = s.ccu := by unfold markEnded; split <;> rfl
@[simp] theorem markEnded_rvc (s : State) : (markEnded s).rvc = s.rvc := by unfold markEnded; split <;> rfl
@[simp] theorem markEnded_gde (s : State) : (markEnded s).gde = s.gde := by unfold markEnded; split <;> rfl
@[simp] theorem markEnded_chu (s : State) : (markEnded s).chu = s.chu := by unfold markEnded; split <;> rfl
@[simp] theorem markEnded_free (s : State) : (markEnded s).free = s.free := by unfold markEnded; split <;> rfl
@[simp] theorem markEnded_pending (s : State) : (markEnded s).pending = s.pending := by unfold markEnded; split <;> rfl

@[simp] theorem takeRecord_phase (s : State) : (takeRecord s).phase = s.phase := by unfold takeRecord; split <;> rfl
@[simp] theorem takeRecord_initDue (s : State) : (takeRecord s).initDue = s.initDue := by unfold takeRecord; split <;> rfl
@[simp] theorem takeRecord_straps (s : State) : (takeRecord s).straps = s.straps := by unfold takeRecord; split <;> rfl
@[simp] theorem takeRecord_time (s : State) : (takeRecord s).time = s.time := by unfold takeRecord; split <;> rfl
@[simp] theorem takeRecord_mem (s : State) : (takeRecord s).mem = s.mem := by unfold takeRecord; split <;> rfl
@[simp] theorem takeRecord_ppw (s : State) : (takeRecord s).ppw = s.ppw := by unfold takeRecord; split <;> rfl
@[simp] theorem takeRecord_fma (s : State) : (takeRecord s).fma = s.fma := by unfold takeRecord; split <;> rfl
@[simp] theorem takeRecord_scn (s : State) : (takeRecord s).scn = s.scn := by unfold takeRecord; split <;> rfl
@[simp] theorem takeRecord_menu (s : State) : (takeRecord s).menu = s.menu := by unfold takeRecord; split <;> rfl
@[simp] theorem takeRecord_links (s : State) : (takeRecord s).links = s.links := by unfold takeRecord; split <;> rfl
@[simp] theorem takeRecord_layout (s : State) : (takeRecord s).layout = s.layout := by unfold takeRecord; split <;> rfl
@[simp] theorem takeRecord_fqu (s : State) : (takeRecord s).fqu = s.fqu := by unfold takeRecord; split <;> rfl
@[simp] theorem takeRecord_ccu (s : State) : (takeRecord s).ccu = s.ccu := by unfold takeRecord; split <;> rfl
@[simp] theorem takeRecord_rvc (s : State) : (takeRecord s).rvc = s.rvc := by unfold takeRecord; split <;> rfl
@[simp] theorem takeRecord_gde (s : State) : (takeRecord s).gde = s.gde := by unfold takeRecord; split <;> rfl
@[simp] theorem takeRecord_chu (s : State) : (takeRecord s).chu = s.chu := by unfold takeRecord; split <;> rfl
@[simp] theorem takeRecord_free (s : State) : (takeRecord s).free = s.free := by unfold takeRecord; split <;> rfl
@[simp] theorem takeRecord_pending (s : State) : (takeRecord s).pending = s.pending := by unfold takeRecord; split <;> rfl

@[simp] theorem State.setVoiceP_phase (v : VoiceP) (s : State) : (s.setVoiceP v).phase = s.phase := by simp [State.setVoiceP]
@[simp] theorem State.setVoiceP_initDue (v : VoiceP) (s : State) : (s.setVoiceP v).initDue = s.initDue := by simp [State.setVoiceP]
@[simp] theorem State.setVoiceP_straps (v : VoiceP) (s : State) : (s.setVoiceP v).straps = s.straps := by simp [State.setVoiceP]
@[simp] theorem State.setVoiceP_time (v : VoiceP) (s : State) : (s.setVoiceP v).time = s.time := by simp [State.setVoiceP]
@[simp] theorem State.setVoiceP_mem (v : VoiceP) (s : State) : (s.setVoiceP v).mem = s.mem := by simp [State.setVoiceP]
@[simp] theorem State.setVoiceP_ppw (v : VoiceP) (s : State) : (s.setVoiceP v).ppw = s.ppw := by simp [State.setVoiceP]
@[simp] theorem State.setVoiceP_fma (v : VoiceP) (s : State) : (s.setVoiceP v).fma = s.fma := by simp [State.setVoiceP]
@[simp] theorem State.setVoiceP_cmu (v : VoiceP) (s : State) : (s.setVoiceP v).cmu = s.cmu := by simp [State.setVoiceP]
@[simp] theorem State.setVoiceP_scn (v : VoiceP) (s : State) : (s.setVoiceP v).scn = s.scn := by simp [State.setVoiceP]
@[simp] theorem State.setVoiceP_menu (v : VoiceP) (s : State) : (s.setVoiceP v).menu = s.menu := by simp [State.setVoiceP]
@[simp] theorem State.setVoiceP_links (v : VoiceP) (s : State) : (s.setVoiceP v).links = s.links := by simp [State.setVoiceP]
@[simp] theorem State.setVoiceP_layout (v : VoiceP) (s : State) : (s.setVoiceP v).layout = s.layout := by simp [State.setVoiceP]
@[simp] theorem State.setVoiceP_fqu (v : VoiceP) (s : State) : (s.setVoiceP v).fqu = s.fqu := by simp [State.setVoiceP]
@[simp] theorem State.setVoiceP_ccu (v : VoiceP) (s : State) : (s.setVoiceP v).ccu = s.ccu := by simp [State.setVoiceP]
@[simp] theorem State.setVoiceP_rvc (v : VoiceP) (s : State) : (s.setVoiceP v).rvc = s.rvc := by simp [State.setVoiceP]
@[simp] theorem State.setVoiceP_gde (v : VoiceP) (s : State) : (s.setVoiceP v).gde = s.gde := by simp [State.setVoiceP]
@[simp] theorem State.setVoiceP_free (v : VoiceP) (s : State) : (s.setVoiceP v).free = s.free := by simp [State.setVoiceP]
@[simp] theorem State.setVoiceP_pending (v : VoiceP) (s : State) : (s.setVoiceP v).pending = s.pending := by simp [State.setVoiceP]

@[simp] theorem withdrawWaits_phase (s : State) : (withdrawWaits s).phase = s.phase := by rfl
@[simp] theorem withdrawWaits_initDue (s : State) : (withdrawWaits s).initDue = s.initDue := by rfl
@[simp] theorem withdrawWaits_straps (s : State) : (withdrawWaits s).straps = s.straps := by rfl
@[simp] theorem withdrawWaits_time (s : State) : (withdrawWaits s).time = s.time := by rfl
@[simp] theorem withdrawWaits_mem (s : State) : (withdrawWaits s).mem = s.mem := by rfl
@[simp] theorem withdrawWaits_ppw (s : State) : (withdrawWaits s).ppw = s.ppw := by rfl
@[simp] theorem withdrawWaits_cmu (s : State) : (withdrawWaits s).cmu = s.cmu := by rfl
@[simp] theorem withdrawWaits_seu (s : State) : (withdrawWaits s).seu = s.seu := by rfl
@[simp] theorem withdrawWaits_scn (s : State) : (withdrawWaits s).scn = s.scn := by rfl
@[simp] theorem withdrawWaits_menu (s : State) : (withdrawWaits s).menu = s.menu := by rfl
@[simp] theorem withdrawWaits_links (s : State) : (withdrawWaits s).links = s.links := by rfl
@[simp] theorem withdrawWaits_layout (s : State) : (withdrawWaits s).layout = s.layout := by rfl
@[simp] theorem withdrawWaits_fqu (s : State) : (withdrawWaits s).fqu = s.fqu := by rfl
@[simp] theorem withdrawWaits_ccu (s : State) : (withdrawWaits s).ccu = s.ccu := by rfl
@[simp] theorem withdrawWaits_rvc (s : State) : (withdrawWaits s).rvc = s.rvc := by rfl
@[simp] theorem withdrawWaits_gde (s : State) : (withdrawWaits s).gde = s.gde := by rfl
@[simp] theorem withdrawWaits_chu (s : State) : (withdrawWaits s).chu = s.chu := by rfl
@[simp] theorem withdrawWaits_free (s : State) : (withdrawWaits s).free = s.free := by rfl
@[simp] theorem withdrawWaits_pending (s : State) : (withdrawWaits s).pending = s.pending := by rfl

@[simp] theorem State.dirtyIf_seu (b : Bool) (s : State) : (s.dirtyIf b).seu = { s.seu with dirty := s.seu.dirty || b } := by
  cases b <;> simp [State.dirtyIf]

@[simp] theorem State.setVoiceP_chu (v : VoiceP) (s : State) : (s.setVoiceP v).chu = { s.chu with p := v } := by
  simp [State.setVoiceP]

@[simp] theorem State.setVoiceP_seu (v : VoiceP) (s : State) :
    (s.setVoiceP v).seu = { s.seu with dirty := s.seu.dirty || decide (v.st ≠ s.chu.p.st) } := by
  simp [State.setVoiceP]

@[simp] theorem takeRecord_cmu (s : State) :
    (takeRecord s).cmu = { s.cmu with st := if s.cmu.pendingCount ≠ 0 then .reading else .idle } := by
  unfold takeRecord; split <;> simp_all

@[simp] theorem takeRecord_seu (s : State) : (takeRecord s).seu = { s.seu with dirty := true } := by
  unfold takeRecord; split <;> rfl

/-! One element of several. -/

@[simp] theorem PerOutput.get_set {α : Type} (p : PerOutput α) (o : Output) (v : α) : (p.set o v).get o = v := by
  cases o <;> rfl

theorem PerOutput.get_set_ne {α : Type} (p : PerOutput α) (o o' : Output) (v : α) (h : o' ≠ o) :
    (p.set o v).get o' = p.get o' := by
  cases o <;> cases o' <;> simp_all [PerOutput.set, PerOutput.get]

@[simp] theorem PerOutput.set_set {α : Type} (p : PerOutput α) (o : Output) (v w : α) : (p.set o v).set o w = p.set o w := by
  cases o <;> rfl

@[simp] theorem PerOutput.set_get {α : Type} (p : PerOutput α) (o : Output) : p.set o (p.get o) = p := by
  cases o <;> rfl

@[simp] theorem PerRear.get_set {α : Type} (p : PerRear α) (o : Rear) (v : α) : (p.set o v).get o = v := by
  cases o <;> rfl

theorem PerRear.get_set_ne {α : Type} (p : PerRear α) (o o' : Rear) (v : α) (h : o' ≠ o) :
    (p.set o v).get o' = p.get o' := by
  cases o <;> cases o' <;> simp_all [PerRear.set, PerRear.get]

@[simp] theorem PerRear.set_set {α : Type} (p : PerRear α) (o : Rear) (v w : α) : (p.set o v).set o w = p.set o w := by
  cases o <;> rfl

@[simp] theorem PerRear.set_get {α : Type} (p : PerRear α) (o : Rear) : p.set o (p.get o) = p := by
  cases o <;> rfl

@[simp] theorem PerClient.get_build {α : Type} (f : Client → α) (c : Client) : (PerClient.build f).get c = f c := by
  cases c <;> rfl

@[simp] theorem State.scan_setScan (s : State) (o : Output) (v : Scan) : (s.setScan o v).scan o = v := by
  simp [State.scan]

theorem State.scan_setScan_ne (s : State) (o o' : Output) (v : Scan) (h : o' ≠ o) : (s.setScan o v).scan o' = s.scan o' := by
  simp [State.scan, PerOutput.get_set_ne _ _ _ _ h]

@[simp] theorem Fqu.film_setFilm (q : Fqu) (src : FilmSource) (f : Film) : (q.setFilm src f).film src = f := by
  cases src <;> rfl

theorem Fqu.film_setFilm_ne (q : Fqu) (src src' : FilmSource) (f : Film) (h : src' ≠ src) :
    (q.setFilm src f).film src' = q.film src' := by
  cases src <;> cases src' <;> simp_all [Fqu.setFilm, Fqu.film]

@[simp] theorem Fqu.rear_setFilm (q : Fqu) (src : FilmSource) (f : Film) : (q.setFilm src f).rear = q.rear := by
  cases src <;> rfl

@[simp] theorem Fqu.film_setRear (q : Fqu) (o : Rear) (x : RearFilm) (src : FilmSource) :
    (q.setRear o x).film src = q.film src := by
  cases src <;> rfl

@[simp] theorem Fqu.rear_setRear (q : Fqu) (o : Rear) (x : RearFilm) : (q.setRear o x).rear = q.rear.set o x := rfl

end Sys2Proof.Machine
end

