-- ==== Sys2Proof/Laws/Ops.lean ====
section
/-! SUPPORT. What the shared operations can do, said once: the arbiter's part of a step changes nothing but what `Decided` allows,
a step under `live` or `liveBurst` answers its effect, a raise changes nothing but the events' state. -/

namespace Sys2Proof.Machine

open Sys2Proof.Safety

/-! ### Grants -/

/-- A grant may change the memory's holder, the refreshes owed, the late run, the wait counts and the tag's measurements, the bytes
CAPT takes, what a status write begins with, and the counter of free values. -/
def granted (s : State) (mem : MemState) (waits : PerClient Nat) (owed late : Nat) (tag : Tag) (d : Bool) (g : Word)
    (w : Option (List Word × Nat)) (b : List CaptureItem) (free : Nat) : State :=
  { s with fma := { s.fma with memory := mem, waits := waits, owed := owed, lateRun := late, mon := { s.fma.mon with tag := tag } },
           seu := { s.seu with dirty := d, generation := g, writing := w }, ccu := { s.ccu with buffer := b }, free := free }

/-- A state that a grant may leave, the refreshes owed not risen. -/
def Granted (s t : State) : Prop :=
  ∃ mem waits owed late tag d g w b free, owed ≤ s.fma.owed ∧ t = granted s mem waits owed late tag d g w b free

theorem Granted.refl (s : State) : Granted s s := ⟨_, _, _, _, _, _, _, _, _, _, le_refl _, rfl⟩

theorem Granted.trans {s t u : State} (h : Granted s t) (k : Granted t u) : Granted s u := by
  obtain ⟨m, wt, ow, lt, tg, d, g, w, b, f, ho, rfl⟩ := h
  obtain ⟨m', wt', ow', lt', tg', d', g', w', b', f', ho', rfl⟩ := k
  exact ⟨m', wt', ow', lt', tg', d', g', w', b', f', le_trans ho' ho, rfl⟩

theorem carry_granted (s : State) (g : Grant) : Granted s (s.carry g) :=
  ⟨_, _, _, _, _, _, _, _, _, _, le_refl _, rfl⟩

theorem grantServ_granted (s : State) : Granted s (grantServ s) := by
  unfold grantServ
  split
  · exact carry_granted ..
  · split
    · exact carry_granted ..
    · split
      · exact carry_granted ..
      · exact ⟨_, _, _, _, _, _, _, _, _, _, le_refl _, rfl⟩

theorem carryBurst_granted (c : Client) (s : State) : Granted s (carryBurst c s) := by
  unfold carryBurst
  cases c with
  | proc =>
    dsimp only
    split
    · exact Granted.refl s
    · exact carry_granted ..
  | capt =>
    dsimp only
    split
    · exact Granted.refl s
    · exact ⟨_, _, _, _, _, _, _, _, _, _, le_refl _, rfl⟩
  | serv => exact grantServ_granted s
  | _ =>
    dsimp only [Client.output]
    split
    · exact Granted.refl s
    · exact carry_granted ..

theorem noteGrant_granted (t : Target) (w : Bool) (s : State) : Granted s (noteGrant t w s) := by
  unfold noteGrant
  dsimp only
  split
  · split <;> exact ⟨_, _, _, _, _, _, _, _, _, _, le_refl _, rfl⟩
  · exact Granted.refl s

theorem giveGrant_granted (p : Client → Bool) (t : Target) (w : Bool) (s : State) : Granted s (giveGrant p t w s) := by
  unfold giveGrant
  cases t with
  | refresh => exact (noteGrant_granted _ _ _).trans ⟨_, _, _, _, _, _, _, _, _, _, by simp, rfl⟩
  | client c =>
    exact ((noteGrant_granted (.client c) w s).trans ⟨_, _, _, _, _, _, _, _, _, _, le_refl _, rfl⟩).trans (carryBurst_granted c _)

theorem decideFor_granted (c : Client) (s : State) : Granted s (decideFor c s) := by
  unfold decideFor
  dsimp only
  split
  · exact Granted.refl s
  · exact giveGrant_granted ..

theorem decideAtEnd_granted (s : State) : Granted s (decideAtEnd s) := by
  have h : Granted s { s with fma := { s.fma with memory := .idle } } := ⟨_, _, _, _, _, _, _, _, _, _, le_refl _, rfl⟩
  unfold decideAtEnd
  dsimp only
  split
  · exact h
  · exact h.trans (giveGrant_granted ..)

theorem withdrawWaits_granted (s : State) : Granted s (withdrawWaits s) := ⟨_, _, _, _, _, _, _, _, _, _, le_refl _, rfl⟩

theorem settle_granted (s : State) : Granted s (settle s) := by
  unfold settle
  dsimp only
  refine (withdrawWaits_granted s).trans ?_
  split
  · split
    · split
      · exact giveGrant_granted ..
      · exact Granted.refl _
    · exact decideFor_granted ..
    · exact Granted.trans ⟨_, _, _, _, _, _, _, _, _, _, le_refl _, rfl⟩ (decideFor_granted ..)
  all_goals exact Granted.refl _

/-- A state with other wait counts, other measurements of the tagged transaction and another counter of free values. -/
def State.recount (s : State) (w : PerClient Nat) (tag : Tag) (free : Nat) : State :=
  { s with fma := { s.fma with waits := w, mon := { s.fma.mon with tag := tag } }, free := free }

/-- The burst that a client carries does not depend on what a decision counts. -/
theorem carryBurst_memory (c : Client) (s : State) (w : PerClient Nat) (tag : Tag) (f : Nat) :
    (carryBurst c (s.recount w tag f)).fma.memory = (carryBurst c s).fma.memory := by
  have scan : ∀ o cl, (match choosePlane (s.scan o).fetch with
      | none => s.recount w tag f
      | some p => (s.recount w tag f).carry (lineGrant (s.recount w tag f) cl o p)).fma.memory =
      (match choosePlane (s.scan o).fetch with
        | none => s
        | some p => s.carry (lineGrant s cl o p)).fma.memory := fun o cl => by
    cases choosePlane (s.scan o).fetch <;> rfl
  cases c with
  | proc => unfold carryBurst; dsimp only [State.recount]; split <;> rfl
  | capt => 
    show (match captGrant s with
      | none => s.recount w tag f
      | some (g, rest) => _).fma.memory = (match captGrant s with
      | none => s
      | some (g, rest) => _).fma.memory
    cases captGrant s <;> rfl
  | serv =>
    have h : commandGrant (s.recount w tag f) = commandGrant s := rfl
    unfold carryBurst grantServ
    dsimp only
    rw [h]
    dsimp only [State.recount]
    cases s.seu.queue with
    | cons => rfl
    | nil =>
      cases commandGrant s with
      | some => rfl
      | none => rcases s.seu.writing with _ | ⟨snap, k⟩ <;> rfl
  | scanC => exact scan .ctr .scanC
  | scanL => exact scan .rl .scanL
  | scanR => exact scan .rr .scanR

theorem noteGrant_recount (t : Target) (w : Bool) (s : State) : ∃ tag f, noteGrant t w s = s.recount s.fma.waits tag f := by
  unfold noteGrant
  dsimp only
  split
  · split <;> exact ⟨_, _, rfl⟩
  · exact ⟨s.fma.mon.tag, s.free, rfl⟩

/-- After a grant the memory refreshes or carries the granted client's burst. -/
theorem giveGrant_memory (p : Client → Bool) (t : Target) (w : Bool) (s : State) :
    (giveGrant p t w s).fma.memory = match t with
      | .refresh => .refresh
      | .client c => (carryBurst c s).fma.memory := by
  cases t with
  | refresh => rfl
  | client c =>
    obtain ⟨tag, f, h⟩ := noteGrant_recount (.client c) w s
    show (carryBurst c { noteGrant (.client c) w s with fma := _ }).fma.memory = _
    rw [h]
    exact carryBurst_memory c s _ tag f

/-- A decision for one client grants that client, a refresh, or nothing. -/
theorem decideFor_memory (c : Client) (s : State) : (decideFor c s).fma.memory = s.fma.memory ∨
    (decideFor c s).fma.memory = .refresh ∨ (decideFor c s).fma.memory = (carryBurst c s).fma.memory := by
  unfold decideFor
  dsimp only
  split
  · exact .inl rfl
  · rename_i t h
    rw [giveGrant_memory]
    cases t with
    | refresh => exact .inr (.inl rfl)
    | client d =>
      have : d = c := by
        unfold decisionTarget at h
        split at h
        · cases h
        · split at h
          · rename_i e
            have := List.find?_some e
            simp_all
          · split at h
            · simp_all
            · split at h
              · rename_i e
                have := List.find?_some e
                simp_all
              · split at h <;> simp at h
      subst this
      exact .inr (.inr rfl)

/-- At the end of a step an IDLE memory stays so, refreshes, or carries the burst of a client that requests (R141). -/
theorem settle_holder {s : State} (h : s.fma.memory = .idle) : (settle s).fma.memory = .idle ∨ (settle s).fma.memory = .refresh ∨
    ∃ c, s.requests c = true ∧ (settle s).fma.memory = (carryBurst c s).fma.memory := by
  have hr : ∀ c, (withdrawWaits s).requests c = s.requests c := fun c => by cases c <;> rfl
  have hw : ∃ w, withdrawWaits s = s.recount w s.fma.mon.tag s.free := ⟨_, rfl⟩
  obtain ⟨w, hw⟩ := hw
  have mem : ∀ c f, (carryBurst c { withdrawWaits s with free := f }).fma.memory = (carryBurst c s).fma.memory := fun c f => by
    rw [hw]; exact carryBurst_memory c s w s.fma.mon.tag f
  have idle : ∀ f, ({ withdrawWaits s with free := f } : State).fma.memory = .idle := fun _ => h
  unfold settle
  dsimp only
  split
  · split
    · split
      · exact .inr (.inl (giveGrant_memory ..))
      · exact .inl h
    · rename_i c e
      have hc : c ∈ (withdrawWaits s).requesters := by rw [e]; simp
      rcases decideFor_memory c (withdrawWaits s) with k | k | k
      · exact .inl (k.trans h)
      · exact .inr (.inl k)
      · exact .inr (.inr ⟨c, by simpa [hr] using (List.mem_filter.mp hc).2, k.trans (mem c s.free)⟩)
    · rename_i c cs _ e
      generalize hd : (c :: cs).getD (Config.firstTaken (withdrawWaits s).free % (c :: cs).length) c = d
      have hm : d ∈ c :: cs := by
        have hl : Config.firstTaken (withdrawWaits s).free % (c :: cs).length < (c :: cs).length := Nat.mod_lt _ (by simp)
        rw [← hd, List.getD_eq_getElem _ _ hl]
        exact List.getElem_mem hl
      rw [← e] at hm
      rcases decideFor_memory d { withdrawWaits s with free := (withdrawWaits s).free + 1 } with k | k | k
      · exact .inl (k.trans h)
      · exact .inr (.inl k)
      · exact .inr (.inr ⟨d, by simpa [hr] using (List.mem_filter.mp hm).2, k.trans (mem d _)⟩)
  all_goals exact .inl h

/-- What a grant leaves alone. -/
theorem Granted.decided {u t : State} (h : Granted u t)
    (m : u.fma.memory = .idle → t.fma.memory = .idle ∨ t.fma.memory = .refresh ∨
      ∃ c, u.requests c = true ∧ t.fma.memory = (carryBurst c u).fma.memory)
    (q : u.fma.memory ≠ .idle → t = { u with fma := { u.fma with waits := t.fma.waits } }) : Decided u t := by
  obtain ⟨mm, wt, ow, lt, tg, d, g, w, b, f, ho, rfl⟩ := h
  exact ⟨rfl, rfl, rfl, rfl, rfl, rfl, rfl, rfl, rfl, rfl, rfl, rfl, rfl, rfl, rfl, rfl, rfl, rfl, rfl, rfl, rfl, ho, rfl, m, q⟩

/-- Where the memory is not IDLE, `settle` changes wait counts alone. -/
theorem settle_quiet {s : State} (h : s.fma.memory ≠ .idle) : settle s = withdrawWaits s := by
  unfold settle
  dsimp only
  split
  · rename_i e; exact absurd e h
  all_goals rfl

/-- The end of a step leaves the effect as it is but for the arbiter's part. -/
theorem settle_decided (s : State) : Decided s (settle s) :=
  (settle_granted s).decided settle_holder fun h => by rw [settle_quiet h]; rfl

/-! ### Steps -/

theorem live_eq {f : State → State} {s : State} (h : s.phase ≠ .held) : live f s = .next (settle (f s)) := by
  simp [live, h]

theorem liveBurst_eq {f : State → State} {s : State} (h : s.phase ≠ .held) (hb : s.burstInside = true) :
    liveBurst f s = .next (settle (f s)) := by
  simp [liveBurst, hb, live_eq h]

/-- A step under `live` answers its effect. -/
theorem answers_of_live {i : Instr} {f : State → State} {s u : State} (he : exec i s = live f s) (h : s.phase ≠ .held)
    (hu : f s = u) : Answers i s u := ⟨settle (f s), by rw [he, live_eq h], hu ▸ settle_decided _⟩

/-- A step that ends a burst answers its effect where the burst lies inside fitted memory. -/
theorem answers_of_liveBurst {i : Instr} {f : State → State} {s u : State} (he : exec i s = liveBurst f s) (h : s.phase ≠ .held)
    (hb : s.burstInside = true) (hu : f s = u) : Answers i s u :=
  ⟨settle (f s), by rw [he, liveBurst_eq h hb], hu ▸ settle_decided _⟩

/-- A command whose record arrives answers what it does to the state with the record's fields copied. -/
theorem answers_of_arrival {i : Instr} {k : Byte} {r : Rec} {f : Rec → State → State} {s u : State}
    (he : exec i s = live (onArrival k r f) s) (h : Arrives s) (hu : f r (arriveAs k r s) = u) : Answers i s u :=
  answers_of_live he h.1 (by simp [onArrival, h.2, hu])

/-- The end of a command's read answers what its rule says of the data. -/
theorem answers_of_readEnd {i : Instr} {k : Byte} {f : List Word → State → State} {ws : List Word} {s u : State}
    (he : exec i s = liveBurst (onReadEnd k f) s) (h : ReadEnds k ws s) (hu : f ws (markEnded s) = u) : Answers i s u :=
  answers_of_liveBurst he h.1 h.2.1 (by simp [onReadEnd, h.2.2.1, h.2.2.2, hu])

/-! ### Events -/

/-- A raise changes nothing but the events' state. -/
theorem raise_eq (k : EvKind) (d a : Word) (s : State) : raise k d a s = { s with seu := (raise k d a s).seu } := rfl

theorem raiseIf_true (k : EvKind) (d a : Word) (s : State) : raiseIf true k d a s = raise k d a s := rfl

theorem raiseIf_false (k : EvKind) (d a : Word) (s : State) : raiseIf false k d a s = s := rfl

/-- Raises change nothing but the events' state. -/
theorem raiseAll_eq (rs : List Raise) (s : State) : raiseAll rs s = { s with seu := (raiseAll rs s).seu } := by
  induction rs generalizing s with
  | nil => rfl
  | cons r rs ih =>
    show raiseAll rs (raise r.kind r.detail r.aux s) = _
    rw [ih]
    rfl

theorem raised_eq (r : WithRaises) : raised r = { r.1 with seu := (raised r).seu } := raiseAll_eq r.2 r.1

/-- Raises of several blocks change nothing but the events' state and the counter of free values. -/
theorem raiseTogether_eq (rss : List (List Raise)) (s : State) : raiseTogether rss s =
    { s with seu := (raiseTogether rss s).seu, free := s.free + rss.flatten.length } := by
  unfold raiseTogether
  rw [raiseAll_eq]

/-- Whatever the free values, the raises of two blocks are all made, once each. -/
theorem interleave_perm (k : Nat) (xs ys : List Raise) : (interleave k xs ys).Perm (xs ++ ys) := by
  induction xs generalizing k ys with
  | nil => simp [interleave]
  | cons x xs ih =>
    cases ys with
    | nil => simp [interleave]
    | cons y ys =>
      simp only [interleave]
      refine (List.perm_middle).trans ((List.Perm.cons x (((ih _ _).append_left _).trans ?_)).trans (List.Perm.refl _))
      rw [← List.append_assoc]
      refine (List.perm_append_comm.append_right _).trans ?_
      rw [List.append_assoc, List.take_append_drop]
      exact List.Perm.refl _

/-- Whatever the free values, each block's raises come in its own order. -/
theorem interleave_sublist (k : Nat) (xs ys : List Raise) :
    xs.Sublist (interleave k xs ys) ∧ ys.Sublist (interleave k xs ys) := by
  induction xs generalizing k ys with
  | nil => simp [interleave]
  | cons x xs ih =>
    cases ys with
    | nil => simp [interleave]
    | cons y ys =>
      have h := ih (k + 1) ((y :: ys).drop (Config.raisePlace k % (ys.length + 2)))
      simp only [interleave]
      refine ⟨(h.1.cons_cons x).trans (List.sublist_append_right _ _), ?_⟩
      conv => lhs; rw [← List.take_append_drop (Config.raisePlace k % (ys.length + 2)) (y :: ys)]
      exact (List.Sublist.refl _).append (h.2.cons x)

/-- The raises of one block alone come in its own order. -/
theorem interleaveAll_one (k : Nat) (rs : List Raise) : interleaveAll k [rs, []] = rs ∧ interleaveAll k [[], rs] = rs := by
  constructor <;> cases rs <;> simp [interleaveAll, interleave]

/-- The record step touches nothing but W, the record queue, and the flags of EVENT_RING_FULL. -/
theorem placeRecord_cases (k : EvKind) (ws : List Word) (e : Seu) :
    e.placeRecord k ws = e ∨ e.placeRecord k ws = e.setKind .eventRingFull ∨
      (e.ringFull = false ∧ e.placeRecord k ws = { e with w := e.w + 1, queue := e.queue ++ [⟨e.w, ws⟩] }) := by
  unfold Seu.placeRecord
  split
  · split
    · exact .inr (.inl rfl)
    · rename_i h; exact .inr (.inr ⟨by simpa using h, rfl⟩)
  · exact .inl rfl

/-- The lines are as the flags and enables say after they are evaluated. -/
theorem evalLines_ok (e : Seu) : e.evalLines.attnN = !e.evalLines.attnAsserted ∧ e.evalLines.alertN = !e.evalLines.alertAsserted :=
  ⟨rfl, rfl⟩

/-! ### Ends of bursts -/

/-- Marking a burst's end changes nothing but the memory's holder. -/
theorem markEnded_eq (s : State) : markEnded s = { s with fma := { s.fma with memory := (markEnded s).fma.memory } } := by
  unfold markEnded
  split <;> rfl

/-- The memory state after a burst's end is marked. -/
def endedMemory : MemState → MemState
  | .data g => .data { g with ended := true }
  | m => m

@[simp] theorem markEnded_fma (s : State) : (markEnded s).fma = { s.fma with memory := endedMemory s.fma.memory } := by
  cases h : s.fma.memory <;> simp [markEnded, h, endedMemory] <;> rw [← h]

/-- Marking a burst's end, as one update. -/
theorem markEnded_state (s : State) : markEnded s = { s with fma := { s.fma with memory := endedMemory s.fma.memory } } := by
  conv => lhs; rw [markEnded_eq, markEnded_fma]

/-- A record's arrival copies its fields and ends the burst. -/
theorem arriveAs_eq (k : Byte) (r : Rec) (s : State) : arriveAs k r s =
    { s with cmu := { s.cmu with cmd := ⟨k, r⟩ }, fma := { s.fma with memory := endedMemory s.fma.memory } } := by
  simp [arriveAs, markEnded_state]

/-- The end of a burst is made once. -/
theorem burst_markEnded (s : State) : (markEnded s).burst = none := by
  cases h : s.fma.memory <;> simp [markEnded, State.burst, h]

end Sys2Proof.Machine
end

