-- ==== Sys2Proof/Laws/PerInstr.lean ====
section
/-! SUPPORT. One statement about every command as syntax, made constructor by constructor: what makes it one the outside world can
send. TAKE needs a request the port can carry (R121), BAD_KIND a kind code that names no command (R157); every other command is
well-formed with all its operands. -/

namespace Sys2Proof.Laws.Fields

/-- What well-formedness of the command asks of its operands. -/
def Statement (i : Instr) : Prop :=
  (∀ q, i = .take q → (i.wf = true ↔ (1 ≤ q.len ∧ q.len ≤ 8) ∧ q.data.length = if q.write then q.len else 0)) ∧
  (∀ k r, i = .badKind k r → (i.wf = true ↔ k = 0 ∨ 27 < k.toNat)) ∧
  ((∀ q, i ≠ .take q) → (∀ k r, i ≠ .badKind k r) → i.wf = true)

/-- A command that neither carries a request nor an unknown kind is well-formed whatever its operands. -/
theorem of_wf {i : Instr} (hw : i.wf = true) (ht : ∀ q, i ≠ .take q) (hb : ∀ k r, i ≠ .badKind k r) : Statement i :=
  ⟨fun q h => absurd h (ht q), fun k r h => absurd h (hb k r), fun _ _ => hw⟩

theorem por (memsz : Bool) (caSel : BitVec 4) : Statement (.por memsz caSel) := of_wf rfl nofun nofun
theorem sdramInitComplete : Statement .sdramInitComplete := of_wf rfl nofun nofun
theorem resetNAssert : Statement .resetNAssert := of_wf rfl nofun nofun
theorem resetNRelease (memsz : Bool) (caSel : BitVec 4) : Statement (.resetNRelease memsz caSel) := of_wf rfl nofun nofun
theorem selfRefreshExit : Statement .selfRefreshExit := of_wf rfl nofun nofun
theorem partTimeTick : Statement .partTimeTick := of_wf rfl nofun nofun
theorem take (q : Request) : Statement (.take q) :=
  ⟨fun p h => by obtain rfl := Instr.take.inj h; simp [Instr.wf, Request.wf], (fun _ _ h => Instr.noConfusion h),
   fun h _ => absurd rfl (h q)⟩
theorem procReadCompletion : Statement .procReadCompletion := of_wf rfl nofun nofun
theorem procWriteCompletion : Statement .procWriteCompletion := of_wf rfl nofun nofun
theorem cmdPost (v : Word) : Statement (.cmdPost v) := of_wf rfl nofun nofun
theorem evtAck (v : Word) : Statement (.evtAck v) := of_wf rfl nofun nofun
theorem pendClr (second : Bool) (v : Word) : Statement (.pendClr second v) := of_wf rfl nofun nofun
theorem occClr (second : Bool) (v : Word) : Statement (.occClr second v) := of_wf rfl nofun nofun
theorem steer (v : Word) : Statement (.steer v) := of_wf rfl nofun nofun
theorem obstacle (v : Word) : Statement (.obstacle v) := of_wf rfl nofun nofun
theorem vehicle (v : Word) : Statement (.vehicle v) := of_wf rfl nofun nofun
theorem sampleClr (v : Word) : Statement (.sampleClr v) := of_wf rfl nofun nofun
theorem grantEnd : Statement .grantEnd := of_wf rfl nofun nofun
theorem statusWriteEnd : Statement .statusWriteEnd := of_wf rfl nofun nofun
theorem eventRecordWritten : Statement .eventRecordWritten := of_wf rfl nofun nofun
theorem consumption : Statement .consumption := of_wf rfl nofun nofun
theorem badKind (kind : Byte) (r : Rec) : Statement (.badKind kind r) :=
  ⟨(fun _ h => Instr.noConfusion h),
   fun k' r' h => by
    obtain ⟨rfl, rfl⟩ := Instr.badKind.inj h
    simp only [Instr.wf, kindNamed, Bool.not_eq_true', Bool.and_eq_false_iff, decide_eq_false_iff_not]
    constructor
    · rintro (h | h)
      · exact .inl (BitVec.eq_of_toNat_eq (by simp; omega))
      · exact .inr (by omega)
    · rintro (rfl | h)
      · exact .inl (by decide)
      · exact .inr (by omega),
   fun _ h => absurd rfl (h kind r)⟩
theorem outputTiming (r : Rec) : Statement (.outputTiming r) := of_wf rfl nofun nofun
theorem outputStart (r : Rec) : Statement (.outputStart r) := of_wf rfl nofun nofun
theorem outputStop (r : Rec) : Statement (.outputStop r) := of_wf rfl nofun nofun
theorem planeSet (r : Rec) : Statement (.planeSet r) := of_wf rfl nofun nofun
theorem paletteLoad (r : Rec) : Statement (.paletteLoad r) := of_wf rfl nofun nofun
theorem paletteLoadReadEnd : Statement .paletteLoadReadEnd := of_wf rfl nofun nofun
theorem rampLoad (r : Rec) : Statement (.rampLoad r) := of_wf rfl nofun nofun
theorem rampLoadReadEnd : Statement .rampLoadReadEnd := of_wf rfl nofun nofun
theorem menuFade (r : Rec) : Statement (.menuFade r) := of_wf rfl nofun nofun
theorem paceSet (r : Rec) : Statement (.paceSet r) := of_wf rfl nofun nofun
theorem filmBuffers (r : Rec) : Statement (.filmBuffers r) := of_wf rfl nofun nofun
theorem filmBuffersReadEnd : Statement .filmBuffersReadEnd := of_wf rfl nofun nofun
theorem filmPost (r : Rec) : Statement (.filmPost r) := of_wf rfl nofun nofun
theorem filmFlush (r : Rec) : Statement (.filmFlush r) := of_wf rfl nofun nofun
theorem filmRoute (r : Rec) : Statement (.filmRoute r) := of_wf rfl nofun nofun
theorem filmClock (r : Rec) : Statement (.filmClock r) := of_wf rfl nofun nofun
theorem cameraSetup (r : Rec) : Statement (.cameraSetup r) := of_wf rfl nofun nofun
theorem cameraSetupReadEnd : Statement .cameraSetupReadEnd := of_wf rfl nofun nofun
theorem gammaLoad (r : Rec) : Statement (.gammaLoad r) := of_wf rfl nofun nofun
theorem gammaLoadReadEnd : Statement .gammaLoadReadEnd := of_wf rfl nofun nofun
theorem cameraEnable (r : Rec) : Statement (.cameraEnable r) := of_wf rfl nofun nofun
theorem reverseSetup (r : Rec) : Statement (.reverseSetup r) := of_wf rfl nofun nofun
theorem guideSetup (r : Rec) : Statement (.guideSetup r) := of_wf rfl nofun nofun
theorem guideSetupReadEnd : Statement .guideSetupReadEnd := of_wf rfl nofun nofun
theorem chimeTable (r : Rec) : Statement (.chimeTable r) := of_wf rfl nofun nofun
theorem chimeTableReadEnd : Statement .chimeTableReadEnd := of_wf rfl nofun nofun
theorem chimePlay (r : Rec) : Statement (.chimePlay r) := of_wf rfl nofun nofun
theorem chimeCancel (r : Rec) : Statement (.chimeCancel r) := of_wf rfl nofun nofun
theorem proximitySetup (r : Rec) : Statement (.proximitySetup r) := of_wf rfl nofun nofun
theorem proximitySetupReadEnd : Statement .proximitySetupReadEnd := of_wf rfl nofun nofun
theorem guardSetup (r : Rec) : Statement (.guardSetup r) := of_wf rfl nofun nofun
theorem guardSetupReadEnd : Statement .guardSetupReadEnd := of_wf rfl nofun nofun
theorem arbProfile (r : Rec) : Statement (.arbProfile r) := of_wf rfl nofun nofun
theorem sampleSetup (r : Rec) : Statement (.sampleSetup r) := of_wf rfl nofun nofun
theorem softRestart (r : Rec) : Statement (.softRestart r) := of_wf rfl nofun nofun
theorem eventSetup (r : Rec) : Statement (.eventSetup r) := of_wf rfl nofun nofun
theorem frameStart (o : Output) : Statement (.frameStart o) := of_wf rfl nofun nofun
theorem lineStart (o : Output) : Statement (.lineStart o) := of_wf rfl nofun nofun
theorem lineComplete : Statement .lineComplete := of_wf rfl nofun nofun
theorem frameEnd (o : Output) : Statement (.frameEnd o) := of_wf rfl nofun nofun
theorem linkChange (o : Rear) (level : Bool) : Statement (.linkChange o level) := of_wf rfl nofun nofun
theorem linkTimerExpiry (o : Rear) : Statement (.linkTimerExpiry o) := of_wf rfl nofun nofun
theorem hsEdge (clocks : Nat) : Statement (.hsEdge clocks) := of_wf rfl nofun nofun
theorem cameraSample (chroma y : Byte) : Statement (.cameraSample chroma y) := of_wf rfl nofun nofun
theorem vsEdge (clocks : Nat) : Statement (.vsEdge clocks) := of_wf rfl nofun nofun
theorem camPresenceTimerExpiry : Statement .camPresenceTimerExpiry := of_wf rfl nofun nofun
theorem trailerWriteComplete : Statement .trailerWriteComplete := of_wf rfl nofun nofun
theorem revChange (level : Bool) : Statement (.revChange level) := of_wf rfl nofun nofun
theorem revTimerExpiry : Statement .revTimerExpiry := of_wf rfl nofun nofun
theorem engageTimerExpiry : Statement .engageTimerExpiry := of_wf rfl nofun nofun
theorem staleTimerExpiry : Statement .staleTimerExpiry := of_wf rfl nofun nofun
theorem lingerTimerExpiry : Statement .lingerTimerExpiry := of_wf rfl nofun nofun
theorem steeringStaleTimerExpiry : Statement .steeringStaleTimerExpiry := of_wf rfl nofun nofun
theorem obstacleStaleTimerExpiry : Statement .obstacleStaleTimerExpiry := of_wf rfl nofun nofun
theorem recomputeCompletion : Statement .recomputeCompletion := of_wf rfl nofun nofun
theorem refreshTimerExpiry : Statement .refreshTimerExpiry := of_wf rfl nofun nofun
theorem lineSample : Statement .lineSample := of_wf rfl nofun nofun
theorem noteEnd : Statement .noteEnd := of_wf rfl nofun nofun
theorem gapEnd : Statement .gapEnd := of_wf rfl nofun nofun
theorem chimeFinish : Statement .chimeFinish := of_wf rfl nofun nofun
theorem cancelReleaseEnd : Statement .cancelReleaseEnd := of_wf rfl nofun nofun
theorem beepEnd : Statement .beepEnd := of_wf rfl nofun nofun
theorem proximityGapEnd : Statement .proximityGapEnd := of_wf rfl nofun nofun
theorem toneReleaseEnd : Statement .toneReleaseEnd := of_wf rfl nofun nofun

end Sys2Proof.Laws.Fields
end

