-- ==== Sys2Proof/Tests/Slice0.lean ====
section
/-! SUPPORT. Tests: what WellFormed refuses; single steps and sums from the worked sequences and cases of spec/; and for each statement
of Certificates/Slice0/Obligations.lean that has hypotheses a state and operands that meet them, clause by clause. -/

namespace Sys2Proof.Tests

open Sys2Proof Sys2Proof.Machine Sys2Proof.Safety

/-! ### States and operands to test with -/

/-- The state a command leaves, if it leaves one. -/
def after (i : Instr) (s : State) : Option State :=
  match exec i s with
  | .next t => some t
  | .fault _ => none
  | .refused _ => none

/-- The memory is ready and a refresh is in progress, so that no grant is decided inside a step. -/
def busy : State :=
  { State.reset with
    phase := .run
    initDue := false
    ppw := { Reset.ppw none with port := .free }
    fma := { Reset.fma with memory := .refresh, refreshOn := true } }

/-- A burst of SERV is in progress. -/
def carrying (b : Burst) (words : Nat) (s : State) : State :=
  { s with fma := { s.fma with memory := .data ⟨.serv, 0x800, 4 * words, b, false⟩ } }

/-- The record at C is arriving. -/
def arriving (s : State) : State := carrying (.record []) 8 { s with cmu := { s.cmu with st := .reading } }

/-- The last burst of the read of a command of kind `k` is in progress, and `ws` is all that it reads. -/
def readEnding (k : Byte) (r : Rec) (ws : List Word) (s : State) : State :=
  carrying (.table ws true) 8 { s with cmu := { s.cmu with st := .executing, cmd := ⟨k, r⟩ } }

/-- A record without notify. -/
def mk (target : Byte) (op1 op2 op3 op4 op5 : Word) : Rec := ⟨false, target, op1, op2, op3, op4, op5⟩

def pairOf (lo hi : Nat) : Word := BitVec.ofNat 32 (lo + 65536 * hi)

/-- The rear timing of 01_display_outputs_and_composition.md in the smallest form R1 admits. -/
def timing : Timing := ⟨320, 240, 64, 4, 10000, false, false⟩

/-- An output between two frames. -/
def running : Scan := { Reset.scan with timing := some timing, st := .running }

/-- An output in a frame. -/
def inFrame : Scan := { running with frameOpen := true }

/-! ### What WellFormed refuses -/

theorem test_wf_length_low : (Instr.take ⟨false, 0, 0, []⟩).wf = false := by decide

theorem test_wf_length_high : (Instr.take ⟨false, 0, 9, []⟩).wf = false := by decide

theorem test_wf_data_missing : (Instr.take ⟨true, 0, 2, [⟨0, 15⟩]⟩).wf = false := by decide

theorem test_wf_data_on_read : (Instr.take ⟨false, 0, 1, [⟨0, 15⟩]⟩).wf = false := by decide

theorem test_wf_named_kind : (Instr.badKind 1 (mk 0 0 0 0 0 0)).wf = false ∧ (Instr.badKind 27 (mk 0 0 0 0 0 0)).wf = false := by
  decide

theorem test_wf_accepts : (Instr.take ⟨true, 0, 1, [⟨0, 15⟩]⟩).wf = true ∧ (Instr.badKind 28 (mk 0 0 0 0 0 0)).wf = true ∧
    Instr.lineSample.wf = true := by decide

/-- No word spells a command. -/
theorem test_no_word_spells : decodeTableWord 32 0 = none ∧ State.reset.withFetchWord 32 0 = State.reset := ⟨rfl, rfl⟩

/-! ### Worked sequences and cases of the spec -/

/-- 01, Composition of one rear-screen pixel: the film pixel. -/
theorem test_film_pixel : colourOfYcc 100 90 160 = ⟨149, 87, 21⟩ := by decide

/-- 01, Composition of one rear-screen pixel: the menu blended over it. -/
theorem test_menu_blend : mulAlpha (mulAlpha 200 255) 128 = 100 ∧ blend ⟨240, 240, 240⟩ ⟨149, 87, 21⟩ 100 = ⟨185, 147, 107⟩ := by
  decide

/-- 01, A fade with a reversal: frame start 12, and MENU_FADE OUT after it. -/
theorem test_fade_reversal :
    let m : Menu := { Reset.menu with ramp := [0, 85, 170, 255], pos := 1, motion := .fadingIn }
    m.fadeStep.pos = 2 ∧ m.fadeStep.level = some 170 ∧ m.fadeStep.fade true = .fadingOut := by decide

/-- 01, A fade with a reversal: frame start 18, after which the menu is hidden. -/
theorem test_fade_out_rest :
    let m : Menu := { Reset.menu with ramp := [0, 85, 170, 255], pos := 1, motion := .fadingOut }
    m.fadeStep.pos = 0 ∧ m.fadeStep.motion = .outRest ∧ m.fadeStep.level = none := by decide

/-- 02, Worked sequence, before row 11. -/
def filmRow10 : State :=
  let f : Film := { Reset.film with
    bases := [0, 0, 0, 0], width := 64, height := 64, pitch := 128, clock := 1123, playing := true
    queue := [⟨2, 1067, 12⟩, ⟨3, 1100, 13⟩, ⟨0, 1110, 14⟩], current := some (1, 11) }
  let r : RearFilm := ⟨some .a, some .a, some (.a, 1)⟩
  { busy with scn := { busy.scn with rr := running }, fqu := ⟨f, Reset.film, ⟨r, r⟩⟩ }

/-- 02, Worked sequence, row 11: RR's frame start at clock 1123, FILM_LATE_A (8) before FILM_FREE_A (12). -/
theorem test_film_row_11 :
    ((after (.frameStart .rr) filmRow10).map fun t => (t.fqu.a.queue, t.fqu.a.current)) = some ([], some (0, 14)) ∧
    ((after (.frameStart .rr) filmRow10).map fun t => t.fqu.rear.rr.latched) = some (some (.a, 0)) ∧
    ((after (.frameStart .rr) filmRow10).map fun t => t.seu.queue.map fun q => q.words.take 3) =
      some [[8, 2, 13], [12, 0xC, 1]] := by decide

/-- 03, Worked sequence: black level, the close of frame 4 and of frame 1. -/
theorem test_black_level : vpdAfter 329 10 = 307 ∧ vpdAfter 256 30 = 284 := by decide

/-- 03, Worked sequence: the slot ring, rows 8 and 9: the slot chosen. -/
theorem test_slot_ring :
    chooseSlot { Reset.ccu with slots := [⟨.ready, 1⟩, ⟨.ready, 2⟩, ⟨.free, 3⟩, ⟨.writing, 4⟩], lastOpened := 3, seen := 5 } = some 2 ∧
    chooseSlot { Reset.ccu with slots := [⟨.ready, 1⟩, ⟨.ready, 2⟩, ⟨.closing, 5⟩, ⟨.closing, 4⟩], lastOpened := 2, seen := 6 } =
      some 0 := by decide

/-- 04, A reverse layout on a 1280 × 720 centre display: lines 20 to 339 are fetched, 240 words each. -/
theorem test_reverse_layout :
    let c : CamSetup := ⟨640, 20, 360, 0, 480, 0, 1, 16, .none, 0, 0, 4, false, 0⟩
    (cameraFetch (some ⟨80, 160, 40, 2, 0, 0, some 0, .camera⟩) (some c) ⟨1280, 720, 64, 4, 70000, false, false⟩).map
      (fun p => (p.first, p.stop, p.words, p.pixels)) = [(20, 340, 240, 480)] := by decide

/-- 05, Worked case: points of a ten-degree turn. -/
theorem test_ten_degree_turn :
    tangentOf 1000 = 11556 ∧ tangentOf 1030 = 11910 ∧ radiusOf 2700 1000 true = some 15312 ∧
    lineX (some 15312) 850 1900 = some 975 ∧ lineX (some 15312) (-850) 1900 = some (-738) ∧
    lineX (some 15312) 850 2400 = some 1051 ∧ lineX (some 15312) (-850) 2400 = some (-671) := by decide +kernel

/-- 05, the same case: the points projected. -/
theorem test_projection :
    let c : CalibRec := ⟨600, 640, 320000, 0, 200, 360000, 0, 1, 500⟩
    projectPoint c 975 1000 = some (1030, 373) ∧ projectPoint c (-738) 1000 = some (345, 373) ∧
    projectPoint c 1051 1500 = some (955, 330) ∧ projectPoint c (-671) 1500 = some (439, 330) := by decide

/-- 05, Worked case: spans of one segment: 48 spans, and the first and last of the body. -/
theorem test_segment_spans :
    let l := spansOf ⟨(1030, 373), (955, 330), 0, 5⟩
    l.length = 48 ∧ l.take 4 = [⟨328, 953, 959, 0⟩, ⟨329, 953, 959, 0⟩, ⟨330, 953, 959, 0⟩, ⟨331, 955, 960, 0⟩] ∧
    l.drop 44 = [⟨372, 1026, 1032, 0⟩, ⟨373, 1028, 1032, 0⟩, ⟨374, 1028, 1032, 0⟩, ⟨375, 1028, 1032, 0⟩] := by decide +kernel

/-- 05, the mark of the same case. -/
theorem test_mark_spans : spansOf ⟨(439, 330), (955, 330), 0, 5⟩ =
    [⟨328, 437, 957, 0⟩, ⟨329, 437, 957, 0⟩, ⟨330, 437, 957, 0⟩, ⟨331, 437, 957, 0⟩, ⟨332, 437, 957, 0⟩] := by decide

/-- 05, Worked case: the inner line at full lock. -/
theorem test_full_lock :
    radiusOf 2700 4500 true = some 2700 ∧ lineX (some 2700) 850 900 = some 1084 ∧ lineX (some 2700) 850 1400 = some 1491 ∧
    lineX (some 2700) 850 1900 = none := by decide +kernel

/-- The note of 06, Worked case: one sample of a note, at its sample n. -/
def noteCase (n : Nat) : State :=
  { busy with chu := { Reset.chu with
      wave := (List.replicate 256 0).set 102 20000
      defs := (List.replicate 32 none).set 3 (some ⟨1, false, false, 1, 0, [⟨880, 200, 200, 10, 20, false⟩]⟩)
      q := ⟨.playing, 3, false, 0, 0, false, n, 9600, BitVec.ofNat 32 (n * 78741067), none, 0⟩ } }

/-- 06, the same case. -/
theorem test_note_sample : phaseStep 880 = 78741067 ∧ ((after .lineSample (noteCase 240)).map fun t => (t.chu.line, t.chu.q.env)) =
    some (7781, some 128) := by decide +kernel

/-- 06, Worked case, near the end of the note. -/
theorem test_note_end : noteEnvelope 9120 9600 10 20 = 127 ∧ noteEnvelope 9599 9600 10 20 = 0 ∧ voiceSample (-20000) 200 128 = -7813 := by
  decide

/-- The chimes of 06, Queue and preemption, worked. -/
def chimes (queue : List ChimeEntry) (q : VoiceQ) : Chu :=
  let note : Note := ⟨440, 100, 128, 5, 5, true⟩
  let d := fun (p : Nat) (drop : Bool) (rep : Nat) (notify : Bool) => some (⟨p, drop, notify, rep, 0, [note]⟩ : ChimeDef)
  { Reset.chu with
    defs := ((((List.replicate 32 none).set 1 (d 5 false 0 false)).set 4 (d 6 false 1 true)).set 7 (d 1 true 1 false)).set 9
      (d 3 false 2 true)
    queue := queue, q := q }

def playing (id : Nat) : VoiceQ := ⟨.playing, id, false, 0, 0, false, 10, 4800, 0, some 256, 0⟩

/-- 06, Queue and preemption, rows 4 and 5. -/
theorem test_chime_preemption :
    let s := raised <| requestEngage 4 { busy with chu := chimes [⟨7, false⟩] (playing 9) }
    let t := doChimePlay (mk 0 1 0 0 0 0) s
    s.chu.queue.map ChimeEntry.id = [9, 7] ∧ s.chu.q.id = 4 ∧ t.chu.queue.map ChimeEntry.id = [1, 9, 7] ∧
    t.cmu.code = resDone ∧ t.cmu.detail = 3 := by decide

/-- 06, Proximity during reversing, times 100 and 1000: a beep ends in zone 4, and a gap ends at once in zone 0. -/
theorem test_proximity :
    let x : Proximity := ⟨1000, 200, true, 100, 300, 600, 1000, 1500, 2500, 100, 250, 400, 700, true⟩
    let s : State := { busy with rvc := { busy.rvc with st := .engaging },
                                 gde := { busy.gde with obstacle := ⟨2000, true, true, some 500, 500⟩ },
                                 chu := { busy.chu with prox := x, p := ⟨.beep, 4800, 4800, 0, none, 0⟩ } }
    ((after .beepEnd s).map fun t => (t.chu.p.st, t.chu.p.total)) = some (.gap, 33600) ∧
    ((after (.obstacle 0x800000FA) { s with chu := { s.chu with p := ⟨.gap, 9, 19200, 0, none, 0⟩ } }).map fun t => t.chu.p.st) =
      some .tone := by decide

/-- R118: a beep that ends into a gap of 0 ms changes the state twice. -/
theorem test_zero_gap_dirty :
    let x : Proximity := ⟨1000, 200, true, 100, 300, 600, 1000, 1500, 2500, 0, 0, 0, 0, true⟩
    let s : State := { busy with rvc := { busy.rvc with st := .engaging },
                                 gde := { busy.gde with obstacle := ⟨2000, true, true, some 500, 500⟩ },
                                 seu := { busy.seu with dirty := false }
                                 chu := { busy.chu with prox := x, p := ⟨.beep, 4800, 4800, 9, none, 0⟩ } }
    ((after .beepEnd s).map fun t => (t.chu.p.st, t.chu.p.n, t.chu.p.phase, t.seu.dirty)) = some (.beep, 0, 0, true) := by decide

/-- R111: a cancel before the first sample of the chime that preempted holds the envelope of the sample made before. -/
theorem test_cancel_holds_last_envelope :
    let s := raised <| requestEngage 4 { busy with chu := chimes [] { playing 9 with env := some 77 } }
    let t := doChimeCancel (mk 0 4 0 0 0 0) s
    s.chu.q.n = 0 ∧ t.chu.q.st = .releasing ∧ t.chu.q.held = 77 := by decide

/-- R164: a trigger whose pending flag is set already changes nothing. -/
theorem test_second_trigger_clean :
    let s : State := { busy with
      rvc := { busy.rvc with st := .live }
      seu := { busy.seu with dirty := false }
      gde := { Reset.gde with recompute := .running, pendingFlag := true } }
    trigger s = s ∧ (trigger { s with gde := { s.gde with pendingFlag := false } }).seu.dirty = true := by decide +kernel

/-- R130: between the completion of a transaction and the end of its grant a write taken then has no grant, and a capture start drops
it; a write that holds the grant is in memory when capture starts. -/
theorem test_capture_start_after_completion :
    let c : CamSetup := ⟨64, 2, 48, 0, 64, 0, 1, 16, .tracking, 0, 16, 4, false, 1048576⟩
    let s := fun ended : Bool => ({ busy with
      ccu := { Reset.ccu with setup := some c }
      ppw := { busy.ppw with port := .pending, tx := some ⟨true, 262144, 1, [⟨1, 15⟩]⟩ }
      fma := { busy.fma with memory := .data ⟨.proc, 1048576, 4, .procWrite, ended⟩ } } : State)
    (startCapture (s true)).1.ppw.response = some ⟨true, []⟩ ∧ (startCapture (s true)).1.mem = [] ∧
    (startCapture (s true)).2 = [⟨.guardHit, 1048576, 9⟩] ∧ (startCapture (s false)).1.mem = [(1048576, 1)] ∧
    (startCapture (s false)).1.ppw.port = .pending ∧ (startCapture (s false)).2 = [] := by decide

/-- 07, Transactions at the port, row 2: across a block. -/
theorem test_port_block : ((after (.take ⟨true, BitVec.ofNat 30 (0x0180001C / 4), 2, [⟨0, 15⟩, ⟨0, 15⟩]⟩)
    { busy with straps := ⟨false, 3⟩ }).map fun t => (t.ppw.response, t.seu.queue.map fun q => q.words.take 3)) =
      some (some ⟨false, []⟩, [[BitVec.ofNat 32 (28 + 256), 0x0180001C, 18]]) := by decide

/-- 07, the same, row 4: range 8. -/
theorem test_port_guard : ((after (.take ⟨true, BitVec.ofNat 30 (0x01800104 / 4), 1, [⟨0, 15⟩]⟩)
    { busy with straps := ⟨false, 3⟩ }).map fun t => (t.ppw.response, t.seu.queue.map fun q => q.words.take 3)) =
      some (some ⟨true, []⟩, [[BitVec.ofNat 32 (27 + 256), 0x01800104, 8]]) := by decide

/-- 08, Contention at reverse engagement, row 8: SERV, URGENT by count, stands before SCAN_R in the REVERSE order. -/
theorem test_contention_row_8 :
    let p := freshFetch .film .ycbcr422 0 128 0 64 32 64 0 0 0 1 255
    let s : State := { busy with
      rvc := { busy.rvc with st := .engaging }
      scn := { busy.scn with rr := { inFrame with fetch := [p] } }
      ppw := { busy.ppw with port := .pending }
      fma := { busy.fma with waits := ⟨1, 0, 3, 0, 4, 8⟩, owed := 1 } }
    decisionTarget s.requests s = some (.client .serv) ∧ s.urgent .scanR = true := by decide

/-- 09, Posting and completing commands, rows 1, 6 and 7. -/
theorem test_posting :
    let s : State := { busy with cmu := { busy.cmu with p := 254, c := 254 } }
    let u : State := { busy with cmu := { busy.cmu with p := 2, c := 255, st := .executing } }
    ((after (.cmdPost 0) s).map fun t => (t.cmu.p, t.cmu.st)) = some (0, .reading) ∧
    ((after (.cmdPost 1) u).map fun t => (t.cmu.p, t.seu.queue.map fun q => (q.words.drop 1).take 2)) = some (2, [[1, 2]]) ∧
    ((after (.cmdPost 300) u).map fun t => (t.cmu.p, t.seu.queue.map fun q => (q.words.drop 1).take 2)) = some (2, [[300, 1]]) := by
  decide

/-- The event setup of 10, Worked sequence. -/
def events (w a : BitVec 6) (pending : BitVec 36) (queue : List QueuedRecord) : State :=
  { busy with seu := { Reset.seu with w := w, a := a, pending := pending, occurred := pending, queue := queue, alertOn := true,
                                      attnMask := (1 <<< 21 ||| 1 <<< 24 ||| 1 <<< 31 ||| 1 <<< 32), tag := 0x5A } }

/-- 10, Worked sequence, row 8: REV_DEGRADED into entry 63, and both lines low. -/
theorem test_events_row_8 :
    let t := raise .revDegraded 2 1 (events 63 63 0 [])
    t.seu.w = 0 ∧ t.seu.attnN = false ∧ t.seu.alertN = false ∧
    t.seu.queue = [⟨63, [BitVec.ofNat 32 (21 + 256 + 512 + 0x5A * 16777216), 2, 1, 0]⟩] := by decide

/-- 10, Worked sequence, rows 9 and 10: acknowledges beyond W and up to W. -/
theorem test_events_rows_9_10 :
    ((after (.evtAck 5) (events 0 63 0 [])).map fun t => t.seu.a) = some 63 ∧
    ((after (.evtAck 0) (events 0 63 0 [])).map fun t => t.seu.a) = some 0 := by decide

/-- 10, A full ring: the record is lost and EVENT_RING_FULL is pending; after the acknowledge there is room. -/
theorem test_full_ring :
    let t := raise .camGlitch 1 0 (events 9 10 0 [])
    t.seu.w = 9 ∧ t.seu.queue = [] ∧ t.seu.pending.getLsbD 16 = true ∧ t.seu.pending.getLsbD 34 = true ∧
    (raise .camGlitch 1 0 (events 9 40 0 [])).seu.w = 10 := by decide

/-! ### States and operands that meet the statements' hypotheses, clause by clause -/

/-- A record is arriving, the memory otherwise quiet. -/
def arr : State := arriving busy

/-- A burst of SERV of one kind is in progress, with that command in execution. -/
def reading (k : Byte) (target : Byte) (op1 : Word) (ws : List Word) : State := readEnding k (mk target op1 0 0 0 0) ws busy

/-- RESET_N is asserted. -/
def heldState : State := State.blocksReset .held ⟨false, 0⟩ [] false false false none 0 []

/-- A millisecond is about to pass. -/
def ticking : State := { State.reset with pending := [.partTimeTick] }

theorem test_ticking_steps : ∃ t, step ticking = .next t := ⟨_, rfl⟩

theorem test_meets_StepTakesTheFront : ticking.pending = .partTimeTick :: [] ∧ State.reset.pending = [] := by decide

theorem test_meets_EveryCommandAnswers : busy.burstInside = true ∧ arr.burstInside = true ∧ heldState.phase = .held ∧
    (after .lineSample busy).isSome = true := by decide

theorem test_meets_MemoryAndPendingPersist : (after (.pendClr false 0) busy).isSome = true ∧
    (after .grantEnd busy).isSome = true ∧ (after (.por true 15) busy).isSome = true := by decide

theorem test_meets_MemoryAndArbiterStaySound : Memory.wf ticking.mem = true ∧ CountsOk ticking ∧ ClientsOk ticking :=
  ⟨by decide, ⟨fun c => by cases c <;> decide, by decide⟩, by decide, fun c => by cases c <;> decide⟩

/-- An output in the first row of a frame that shows a white pixel in its first column. -/
def drawing : State := { busy with scn := { busy.scn with ctr := { inFrame with row := 1, pixels := [0xFFFFFF] } } }

theorem test_meets_PinLevels :
    (State.reset.scan .ctr).timing = none ∧ ((drawing.setScan .rl { Reset.scan with timing := some timing }).scan .rl).st = .stopped ∧
    (drawing.outputPins .ctr 4 64).de = true ∧ (drawing.outputPins .ctr 4 64).rgb = 0xFFFFFF ∧
    (drawing.outputPins .ctr 3 64).de = false ∧ (drawing.outputPins .ctr 4 63).de = false ∧
    (drawing.outputPins .ctr 4 15).hs = false ∧ (drawing.outputPins .ctr 4 47).hs = true ∧ (drawing.outputPins .ctr 2 0).vs = false ∧
    (drawing.outputPins .ctr 3 0).vs = true ∧ (drawing.audioPins 15 true).wordSelect = false ∧
    (drawing.audioPins 16 true).wordSelect = true ∧ (heldState.audioPins 31 true).bitClock = false ∧
    heldState.waitAsserted = true ∧ busy.waitAsserted = false ∧ State.reset.waitAsserted = false ∧
    (State.waitAsserted { busy with ppw := { busy.ppw with port := .pending } }) = true := by decide

theorem test_meets_OutputTiming :
    let low := mk 0 (pairOf 320 240) (pairOf 64 4) 10000 0 0
    let high := mk 2 (pairOf 1920 1080) (pairOf 65535 65535) 148500 3 0
    Arrives arr ∧ outputOf 3 = none ∧ outputOf low.target = some .ctr ∧ outputOf high.target = some .rr ∧
    (arr.scan .ctr).st = .stopped ∧ timingOk (timingOf low) = true ∧ timingOk (timingOf high) = true ∧
    timingOk (timingOf (mk 0 (pairOf 312 240) (pairOf 64 4) 10000 0 0)) = false ∧
    timingOk (timingOf (mk 0 (pairOf 320 240) (pairOf 64 4) 148501 0 0)) = false ∧
    ((arr.setScan .ctr running).scan .ctr).st ≠ .stopped := by unfold Arrives; decide

theorem test_meets_OutputStartAndStop :
    let ready := arr.setScan .rl { running with st := .stopped }
    Arrives ready ∧ outputOf 1 = some .rl ∧ (ready.scan .rl).st = .stopped ∧ (ready.scan .rl).timing ≠ none ∧
    (arr.scan .rl).timing = none ∧ outputOf 255 = none ∧ ((arr.setScan .rl running).scan .rl).st = .running ∧
    ((arr.setScan .rl { running with st := .stopping }).scan .rl).st = .stopping ∧
    ((after (.outputStart (mk 1 0 0 0 0 0)) ready).map fun t => (t.scan .rl).frames) = some 0 ∧
    ((after (.frameStart .rl) (ready.setScan .rl { running with frames := BitVec.allOnes 32, frameOpen := false })).map fun t =>
      (t.scan .rl).frames) = some 0 := by unfold Arrives; decide

/-- PLANE_SET of a menu plane of the whole smallest frame, enabled, at a base and column of choice. -/
def menuPlane (base x : Nat) : Rec := mk 1 (BitVec.ofNat 32 (3 + 16 + 3 * 256 + 255 * 65536)) (BitVec.ofNat 32 base) 320 (pairOf 320 240)
  (pairOf x 0)

theorem test_meets_PlaneSet :
    let s := arr.setScan .rl running
    let last := 67108864 - 320 * 240
    Arrives s ∧ outputOf 1 = some .rl ∧ outputOf 0 = some .ctr ∧ (s.scan .rl).timing = some timing ∧ (arr.scan .rl).timing = none ∧
    rectOk s.memSize timing (descriptorOf (menuPlane last 0)) = true ∧
    rectOk s.memSize timing (descriptorOf (menuPlane (last + 64) 0)) = false ∧
    rectOk s.memSize timing (descriptorOf (menuPlane 0 1)) = false ∧
    planeRangesOk .menu (descriptorOf (menuPlane last 0)) = true ∧ planeRangesOk .menu (descriptorOf (menuPlane 32 0)) = false ∧
    (descriptorOf (mk 1 3 0 0 0 0)).enabled = false ∧ field (mk 1 4 0 0 0 0).op1 0 4 = 4 ∧ outputOf 3 = none := by unfold Arrives; decide

theorem test_meets_MenuFadeAndPaceSet :
    Arrives arr ∧ rearOf 0 = none ∧ rearOf 1 = some .rl ∧ rearOf 2 = some .rr ∧ (arr.menu.get .rl).motion = .inRest ∧
    (Menu.fade true { Reset.menu with motion := .fadingIn, pos := 0 }) = .outRest ∧
    (Menu.fade false { Reset.menu with motion := .fadingOut, pos := 1 }) = .inRest ∧
    (Menu.fade false { Reset.menu with motion := .outRest, pos := 0 }) = .fadingIn ∧ outputOf 2 = some .rr ∧ outputOf 3 = none := by
  unfold Arrives; decide

/-- A camera setup of crop lines 2 to 49 and samples 0 to 63, one reference line of 16 samples. -/
def camera : CamSetup := ⟨64, 2, 48, 0, 64, 0, 1, 16, .tracking, 0, 16, 4, false, 1048576⟩

theorem test_meets_FrameStart :
    let paced : Scan := { running with frames := 127, pacing := ⟨true, 7⟩ }
    let s := busy.setScan .rl paced
    s.phase ≠ .held ∧ (s.scan .rl).st ≠ .stopped ∧ (s.scan .rl).frameOpen = false ∧ (s.scan .rl).timing = some timing ∧
    (s.scan .rl).frames.getLsbD 7 = false ∧ ((s.scan .rl).frames + 1).getLsbD 7 = true ∧
    ((after (.frameStart .rl) s).map fun t => (t.scan .rl).frames) = some 128 := by decide

/-- Both planes of an output are enabled, and CTR shows a camera frame with the rectangle at column `x`, row `y`, and a strip. -/
def planesReady (x y strip : Nat) : State :=
  let on : Descriptor := { Reset.descriptor with enabled := true, scale := 1, width := 64, height := 64, pitch := 64, format := 3 }
  let sc := { running with asSet := ⟨0, on, on, on⟩ }
  { busy with
    scn := ⟨sc, sc, sc⟩
    ccu := { Reset.ccu with setup := some camera, slots := [⟨.shown, 1⟩] }
    rvc := { busy.rvc with st := .linger, setup := { Reset.revSetup with x := x, y := y, strip := strip } }
    fqu := { Reset.fqu with rear := ⟨⟨some .a, some .a, none⟩, Reset.rearFilm⟩
                            a := { Reset.film with bases := [0], width := 64, height := 64, pitch := 128, current := some (0, 7) } } }

/-- The planes that fetch after a `FRAME_START`, each with its first and its last row. -/
def planes (o : Output) (s : State) : Option (List (PlaneId × Nat × Nat)) :=
  (after (.frameStart o) s).map fun t => (t.scan o).fetch.map fun p => (p.plane, p.first, p.stop)

theorem test_meets_FrameStart_planes :
    planes .ctr (planesReady 319 0 0) = some [(.camera, 0, 48), (.ui, 0, 0)] ∧
    planes .ctr (planesReady 319 0 9) = some [(.camera, 9, 48), (.ui, 0, 9)] ∧ planes .ctr (planesReady 320 0 9) = some [(.ui, 0, 9)] ∧
    planes .ctr (planesReady 0 72 120) = some [(.ui, 0, 64)] ∧ planes .ctr (planesReady 0 239 0) = some [(.camera, 0, 1), (.ui, 0, 0)] ∧
    planes .rl (planesReady 0 0 0) = some [(.film, 0, 64), (.menu, 0, 64)] ∧ planes .rr (planesReady 0 0 0) = some [(.menu, 0, 64)] := by
  refine ⟨?_, ?_, ?_, ?_, ?_, ?_, ?_⟩ <;> decide

/-- A line of one word in a film plane of two rows to each line. -/
def filmPlane : Fetch := freshFetch .film .ycbcr422 0 128 0 2 1 2 0 0 0 2 255

theorem test_meets_LineStartAndComplete :
    let s := busy.setScan .ctr { inFrame with row := 239 }
    let b := carrying (.line .rl .film 0 [7] true false) 1 busy
    let d := carrying (.line .rl .film 0 [7] true true) 1 busy
    (s.scan .ctr).frameOpen = true ∧ (s.scan .ctr).row < timing.ha ∧ (after (.lineStart .ctr) s).isSome = true ∧
    filmPlane.covers 0 = true ∧ filmPlane.firstRow 0 = true ∧ filmPlane.firstRow 1 = false ∧ filmPlane.covers 3 = true ∧
    filmPlane.covers 4 = false ∧ filmPlane.next ≤ filmPlane.lineOf 0 ∧ b.burstInside = true ∧
    b.burst = some (.line .rl .film 0 [7] true false) ∧ d.burst = some (.line .rl .film 0 [7] true true) := by decide

/-- CTR in a frame with a reverse layout of strip 2 in a display mode, at a row. -/
def laidOut (mode : DisplayMode) (row : Nat) (setup : Option CamSetup) : State :=
  { busy with
    layout := some ⟨2, 0, 2, 1, 7, 9, some 0, mode⟩
    ccu := { Reset.ccu with setup := setup }
    gde := { Reset.gde with bank0 := [⟨3, 0, 1, 0xFF000005⟩] }
    scn := { busy.scn with ctr := { inFrame with row := row, inUse := { Reset.planes with fill := 3 } } } }

theorem test_meets_LineStartAndComplete_row :
    let pixel := fun (s : State) (col : Nat) => (after (.lineStart .ctr) s).bind fun t => (t.scan .ctr).pixels[col]?
    (laidOut .fill 3 none).layout ≠ none ∧ pixel (laidOut .camera 1 none) 0 = some 3 ∧ pixel (laidOut .camera 2 none) 0 = some 7 ∧
    pixel (laidOut .fill 3 none) 1 = some 5 ∧ pixel (laidOut .fill 3 none) 2 = some 7 ∧ pixel (laidOut .unavailable 2 none) 0 = some 7 ∧
    pixel (laidOut .unavailable 49 (some camera)) 63 = some 9 ∧ pixel (laidOut .unavailable 49 (some camera)) 64 = some 7 ∧
    pixel (laidOut .unavailable 50 (some camera)) 0 = some 7 ∧ pixel { laidOut .fill 3 none with layout := none } 0 = some 3 := by
  decide +kernel

theorem test_meets_FrameEnd :
    let s := busy.setScan .rl { inFrame with row := 240, st := .stopping, underruns := 1 }
    let u := busy.setScan .ctr { inFrame with row := 240 }
    (s.scan .rl).frameOpen = true ∧ (s.scan .rl).row = timing.ha ∧ (s.scan .rl).st = .stopping ∧
    ((after (.frameEnd .rl) s).map fun t => (t.scan .rl).st) = some .stopped ∧ (u.scan .ctr).st = .running ∧
    ((after (.frameEnd .ctr) u).map fun t => (t.scan .ctr).frameOpen) = some false ∧
    (let x : RearFilm := ⟨some .a, some .b, some (.a, 0)⟩
     let v := { s with fqu := { Reset.fqu with rear := ⟨x, Reset.rearFilm⟩, a := { Reset.film with bases := [0] } } }
     freedMask v.fqu (v.fqu.setRear .rl { x with route := some .b, latched := none }) .a = 1) ∧
    (let w := { busy.setScan .ctr { inFrame with row := 240, st := .stopping } with rvc := { busy.rvc with st := .live } }
     (after (.frameEnd .ctr) w).map fun t => t.seu.queue.map fun q => (q.words.drop 1).take 1) = some [[2]] ∧
    (let z : State := { busy.setScan .ctr { inFrame with row := 240, st := .stopping } with
       rvc := { busy.rvc with releaseAtStop := true }, ccu := { busy.ccu with slots := [⟨.shown, 1⟩, ⟨.ready, 2⟩] } }
     z.rvc.st = .normal ∧ ((after (.frameEnd .ctr) z).map fun t => (t.ccu.slots.map Slot.st, t.rvc.releaseAtStop)) =
       some ([.free, .ready], false)) := by decide

theorem test_meets_PixelArithmetic :
    colourOf565 (31 * 2048 + 63 * 32 + 31) = ⟨255, 255, 255⟩ ∧ colourOf565 0 = ⟨0, 0, 0⟩ ∧
    (freshFetch .menu .index8 0 64 0 1 1 4 0 0 0 1 255).format = .index8 ∧ filmPlane.format = .ycbcr422 ∧
    (planePixel (some { Reset.menu with level := some 255 }) (freshFetch .menu .index8 0 64 0 1 1 4 0 0 0 1 255) [0] 0).2 = 0 := by
  decide

theorem test_meets_StabilityTimers :
    let s := { busy with links := ⟨⟨true, false, some 0⟩, ⟨true, true, some 0⟩⟩, rvc := { busy.rvc with rev := true, revTimer := some 0 } }
    s.phase ≠ .held ∧ (s.links.get .rl).timer = some 0 ∧ (s.links.get .rl).level ≠ (s.links.get .rl).present ∧
    (s.links.get .rr).level = (s.links.get .rr).present ∧ true ≠ (busy.links.get .rr).level ∧ true ≠ busy.rvc.rev ∧
    s.rvc.revTimer = some 0 ∧ s.rvc.rev ≠ s.rvc.debounced ∧ ((after .revTimerExpiry s).map fun t => t.rvc.st) = some .engaging := by
  decide

theorem test_meets_FilmTablesClockAndRoute :
    let good : List Word := [8, 1920, 1080, 3840, 0, 0, 0, 0, 0, 0, 0, 62961664]
    let s := reading 9 0 0 good
    let r : RearFilm := ⟨some .a, some .a, none⟩
    Arrives arr ∧ filmOf 2 = none ∧ filmOf 0 = some .a ∧ filmOf 1 = some .b ∧ arr.fqu.idle .a = true ∧
    ({ arr.fqu with rear := ⟨r, Reset.rearFilm⟩ } : Fqu).idle .a = false ∧ SourceFits arr (BitVec.ofNat 32 (67108864 - 64)) 48 ∧
    ¬SourceFits arr 67108832 48 ∧ ¬SourceFits arr 32 48 ∧ ReadEnds 9 good s ∧ filmOf s.cmu.cmd.fields.target = some .a ∧
    (filmTableOf s.memSize good).isSome = true ∧ filmTableOf s.memSize (good.set 11 62961728) = none ∧
    filmTableOf s.memSize (good.set 0 9) = none ∧ (s.fqu.film .a).queue = [] ∧ (s.fqu.film .a).current = none ∧
    rearOf 1 = some .rl ∧ (arr.scan (rearOutput .rl)).st = .stopped := by
  unfold Arrives SourceFits ReadEnds; decide

/-- A source of one buffer with that many entries in its queue, all due at 5. -/
def filmWith (bases entries : Nat) : Film :=
  { Reset.film with bases := List.replicate bases 0, queue := (List.range entries).map fun i => ⟨i, 5, 0⟩ }

theorem test_meets_FilmPostAndFlush :
    let at' := fun f : Film => { arr with fqu := arr.fqu.setFilm .a f }
    Arrives (at' (filmWith 8 7)) ∧ (filmWith 8 8).queue.length = 8 ∧ (filmWith 8 7).queue.length = 7 ∧
    (at' (filmWith 8 7)).fqu.bufFree .a 7 = true ∧ (at' (filmWith 8 7)).fqu.bufFree .a 6 = false ∧
    (filmWith 8 7).queue.getLast? = some ⟨6, 5, 0⟩ ∧ (4 : Word) < 5 ∧ ¬(5 : Word) < 5 ∧
    freedMask (at' (filmWith 8 7)).fqu ((at' (filmWith 8 0)).fqu) .a = 127 ∧
    freedMask arr.fqu arr.fqu .a = 0 ∧
    (at' { filmWith 8 7 with current := some (7, 0) }).fqu.bufFree .a 7 = false ∧ filmOf 0 = some .a ∧ filmOf 9 = none := by unfold Arrives; decide

theorem test_meets_RearFrameStartFilm :
    let s := filmRow10
    let f := s.fqu.film .a
    let starved := { s with fqu := s.fqu.setFilm .a { f with queue := [] } }
    (s.scan (rearOutput .rr)).st ≠ .stopped ∧ (s.scan (rearOutput .rr)).frameOpen = false ∧ (s.scan (rearOutput .rr)).timing ≠ none ∧
    (s.fqu.rear.get .rr).pending = some .a ∧ f.queue = [⟨2, 1067, 12⟩, ⟨3, 1100, 13⟩] ++ ⟨0, 1110, 14⟩ :: [] ∧
    (1110 : Word) ≤ f.clock ∧ (∀ e ∈ ({ f with clock := 1066 } : Film).queue, ¬e.due ≤ (1066 : Word)) ∧
    f.playing = true ∧ starved.filmHeld = false ∧ (starved.fqu.film .a).queue = [] ∧ (starved.fqu.film .a).armed = true ∧
    ((after (.frameStart .rr) starved).map fun t => t.seu.pending.getLsbD EvKind.filmStarvedA.code) = some true ∧
    ((after (.frameStart .rr) { busy with scn := s.scn }).map fun t => (t.fqu.rear.get .rr).latched) = some none := by decide

theorem test_meets_FilmQueuesStayOrdered : FilmQueuesOk ticking := fun src => by cases src <;> exact ⟨by decide, by decide, List.Pairwise.nil⟩

/-- Capture runs, a frame is open into slot 0, and line `line` of it is in progress with `samples` samples. -/
def capturing (line samples : Nat) (f : OpenFrame) : State :=
  { busy with ccu := { Reset.ccu with
      setup := some camera, enable := true, frame := some f
      slots := [⟨.writing, 1⟩, ⟨.free, 0⟩, ⟨.ready, 0⟩, ⟨.free, 0⟩]
      sync := ⟨100, some 84, true, line + 1, true, samples⟩ } }

def open0 : OpenFrame := ⟨some 0, 1, none, 0, 0, 0, false, 16, false⟩

theorem test_meets_HsEdge :
    let s := capturing 2 64 open0
    s.phase ≠ .held ∧ s.capturing = true ∧ s.ccu.sync.lastHs = some 84 ∧ (s.ccu.sync.clock + 0 : Nat) = 84 + 16 ∧
    ((after (.hsEdge 0) s).map fun t => t.ccu.frame.map OpenFrame.cropLines) = some (some 1) ∧
    ((after (.hsEdge 0) (capturing 2 64 { open0 with slot := none })).map fun t => t.ccu.frame.map OpenFrame.cropLines) = some (some 1) ∧
    ((after (.hsEdge 0) (capturing 2 63 { open0 with slot := none })).map fun t => t.ccu.frame.map fun f => (f.cropLines, f.mark)) =
      some (some (0, none)) ∧
    ((after (.hsEdge 0) (capturing 2 63 open0)).map fun t => t.ccu.frame.bind OpenFrame.mark) = some (some .short) ∧
    ((after (.hsEdge 0) (capturing 1 63 open0)).map fun t => t.ccu.frame.bind OpenFrame.mark) = some none ∧
    ((after (.hsEdge 0) (capturing 0 15 open0)).map fun t => t.ccu.frame.map OpenFrame.refBad) = some (some true) ∧
    ((after (.hsEdge 1) { s with ccu := { s.ccu with sync := { s.ccu.sync with clock := 98 } } }).map fun t =>
      t.ccu.frame.bind OpenFrame.mark) = some (some .glitch) := by decide

theorem test_meets_CameraSample :
    let s := capturing 2 63 open0
    let full := { s with ccu := { s.ccu with buffer := List.replicate 4096 (.pixel 0 0 0) } }
    s.capturing = true ∧ s.ccu.sync.inLine = true ∧ ((after (.cameraSample 9 50) s).map fun t => t.ccu.buffer) =
      some [.pixel 0 (1048576 + 126) 9, .pixel 0 (1048576 + 127) 50] ∧
    ((after (.cameraSample 9 50) (capturing 2 63 { open0 with slot := none })).map fun t => (t.ccu.sync.samples, t.ccu.buffer)) =
      some (64, []) ∧
    busy.ccu.sync.inLine = false ∧
    ((after (.cameraSample 9 50) (capturing 49 63 open0)).map fun t => t.ccu.buffer.length) = some 2 ∧
    ((after (.cameraSample 9 50) (capturing 50 63 open0)).map fun t => t.ccu.buffer) = some [] ∧
    ((after (.cameraSample 9 50) (capturing 2 64 open0)).map fun t => t.ccu.sync.samples) = some 64 ∧
    ((after (.cameraSample 9 50) (capturing 0 15 open0)).map fun t => t.ccu.frame.map OpenFrame.refSum) = some (some 50) ∧
    full.capturing = true ∧ ((after (.cameraSample 9 50) (capturing 2 63 { open0 with overran := true })).map fun t => t.ccu.buffer) =
      some [] := by decide

theorem pixelCount_replicate (n : Nat) : pixelCount (List.replicate n (.pixel 0 0 0)) = n := by
  simp [pixelCount, List.countP_replicate, CaptureItem.isPixel]

theorem test_meets_CameraSample_full : pixelCount (List.replicate 4096 (.pixel 0 0 0)) = 4096 ∧
    pixelCount (List.replicate 4094 (.pixel 0 0 0)) + 2 ≤ 4096 :=
  ⟨pixelCount_replicate _, by rw [pixelCount_replicate]⟩

/-- The same with no line in progress. -/
def betweenLines (f : OpenFrame) : State :=
  let s := capturing 49 64 f
  { s with ccu := { s.ccu with sync := ⟨100, some 84, true, 50, false, 0⟩ } }

theorem test_meets_VsEdge :
    let s := betweenLines { open0 with cropLines := 48 }
    s.capturing = true ∧ ¬(s.ccu.sync.vsSeen = true ∧ s.ccu.sync.lines < 16) ∧ s.ccu.setup = some camera ∧
    ((after (.vsEdge 4) s).map fun t => t.ccu.frame.bind OpenFrame.slot) = some (some 1) ∧
    (let u := capturing 49 64 { open0 with mark := some .short }
     let alone := { u with ccu := { u.ccu with slots := [⟨.writing, 1⟩, ⟨.shown, 0⟩] } }
     u.ccu.sync.inLine = true ∧ ((after (.vsEdge 4) alone).map fun t => (t.ccu.frame.bind OpenFrame.slot, t.ccu.lastOpened)) =
       some (some 0, 0)) ∧
    (let v := betweenLines { open0 with slot := none }
     ((after (.vsEdge 4) { v with ccu := { v.ccu with slots := [⟨.shown, 0⟩] } }).map fun t => t.ccu.frame.bind OpenFrame.slot) = some none) ∧
    ((after (.vsEdge 4) (capturing 14 0 open0)).map fun t => t.ccu.frame.bind OpenFrame.mark) = some (some .glitch) ∧
    busy.capturing = false ∧ ((after (.vsEdge 0) busy).map fun t => t.ccu.present) = some true ∧
    (Reset.ccu.lastOpened < [Slot.mk .free 0].length) ∧
    chooseSlot { Reset.ccu with slots := [⟨.shown, 0⟩, ⟨.closing, 0⟩, ⟨.closing, 0⟩, ⟨.writing, 0⟩] } = none := by decide

theorem test_meets_FrameClose :
    let close := fun s : State => (after (.vsEdge 4) s).map fun t => t.ccu.slots.map Slot.st
    let s := capturing 49 64 { open0 with cropLines := 47, refLines := 1, refSum := 16 * 16 }
    s.ccu.sync.inLine = true ∧ ¬(s.ccu.sync.vsSeen = true ∧ s.ccu.sync.lines < 16) ∧ 0 < s.ccu.slots.length ∧
    ((s.ccu.frame.map (OpenFrame.lineEnd camera (s.ccu.sync.lines - 1) s.ccu.sync.samples)).map fun f => (f.cropLines, f.mark)) =
      some (48, none) ∧ close s = some [.closing, .writing, .ready, .free] ∧
    ((after (.vsEdge 4) (capturing 49 63 { open0 with cropLines := 47 })).map fun t => t.seu.queue.map fun q => (q.words.drop 1).take 1) =
      some [[1], [2]] ∧
    close (betweenLines { open0 with cropLines := 48 }) = some [.closing, .writing, .ready, .free] ∧
    ((after (.vsEdge 4) (betweenLines { open0 with cropLines := 47 })).map fun t =>
      t.seu.pending.getLsbD EvKind.camBad.code) = some true := by decide

theorem test_meets_CameraEnableAndClosings :
    let s := capturing 2 0 open0
    let on := { arr with ccu := { s.ccu with frame := none } }
    let words := List.replicate 8 (0 : Word)
    let tr := { carrying (.trailer true words) 8 busy with ccu := { Reset.ccu with buffer := [.trailer 0 (words ++ words) true] } }
    Arrives on ∧ (1 : Word).getLsbD 0 = true ∧ (0 : Word).getLsbD 0 = false ∧ on.ccu.setup ≠ none ∧ arr.ccu.setup = none ∧
    on.rvc.st = .normal ∧ ({ on with rvc := { on.rvc with st := .linger } } : State).rvc.st ≠ .normal ∧ on.capturing = true ∧
    ({ busy with ccu := { Reset.ccu with presenceTimer := some 0 } } : State).ccu.presenceTimer = some 0 ∧
    tr.burstInside = true ∧ tr.burst = some (.trailer true words) := by unfold Arrives; decide

/-- A write of one word by the processor, with no grant yet, the camera configured and the monitor in a state. -/
def writing (a : Nat) (st : MonState) : State :=
  { busy with
    ccu := { Reset.ccu with setup := some camera }
    ppw := { busy.ppw with port := .pending, tx := some ⟨true, BitVec.ofNat 30 (a / 4), 1, [⟨1, 15⟩]⟩ }
    fma := { busy.fma with mon := { Reset.monitor with st := st } } }

theorem test_meets_CameraEnableAndClosings_edges :
    let last := 5 * 1048576 - 4
    let granted := fun b : Burst => { writing last .off with fma := { busy.fma with memory := .data ⟨.proc, last, 4, b, false⟩ } }
    (startCapture (writing last .off)).2 = [⟨.guardHit, BitVec.ofNat 32 last, 9⟩] ∧ (startCapture (writing (last + 4) .off)).2 = [] ∧
    (startCapture (writing 1048576 .tagged)).1.fma.mon.st = .armed ∧ (startCapture (writing 1048572 .off)).2 = [] ∧
    (startCapture (writing 1048576 .counting)).1.fma.mon.st = .armed ∧ (startCapture (granted .procWrite)).1.mem = [(last, 1)] ∧
    (startCapture (granted (.procRead []))).2 = [] ∧ (granted .procWrite).burst = some .procWrite ∧
    (stopCapture (capturing 2 0 open0)).ccu.slots.map Slot.st = [.free, .free, .ready, .free] ∧
    (stopCapture (capturing 2 0 { open0 with slot := none })).ccu.frame = none ∧ busy.ccu.frame = none := by decide +kernel

theorem test_meets_SetupRecordChecks :
    let ws : List Word := [64, pairOf 2 48, pairOf 0 64, BitVec.ofNat 32 (1 * 65536 + 16 * 16777216), BitVec.ofNat 32 (2 + 16 * 65536), 4, 1048576]
    camSetupOf 67108864 0 ws = some camera ∧ camSetupOf 67108864 0 (ws.set 0 62) = none ∧
    camSetupOf (5 * 1048576) 0 ws = some camera ∧ camSetupOf (5 * 1048576 - 1) 0 ws = none ∧
    camSetupOf 67108864 (5 * 1048576 - 65536) ws = none ∧
    (guardEntryOf 67108864 0 [65536, BitVec.ofNat 32 (1 + 65536 + 2 * 16777216)] 0).isSome = true ∧
    guardEntryOf 67108864 0 [65536, BitVec.ofNat 32 (0 + 65536 + 2 * 16777216)] 0 = none ∧
    guardEntryOf 67108864 0 [65536, BitVec.ofNat 32 (1 + 2 * 65536 + 2 * 16777216)] 0 = none ∧
    field (BitVec.ofNat 32 (1 + 65536)) 24 8 = 0 := by decide

/-- The three guide records, a definition slot of one note and the proximity record, each at the edge of what its rule admits. -/
theorem test_meets_SetupRecordChecks_tables :
    let guide : List Word := [1500, 1500, 400, 1200, 100, 100] ++ List.replicate 26 0 ++ [1000, 1000, 1, 2, 1000, 15] ++ List.replicate 6 5
    let at' := fun (w0 w1 n0 n1 : Word) => List.replicate 144 0 ++ [w0, w1, 0, 0, n0, n1]
    let slot := chimeSlotOf (at' 0x01010701 (BitVec.ofNat 32 (15 + 1 * 256 + 2000 * 65536)) (pairOf 4000 2000) 0x010000FF) 0
    let prox : List Word := [BitVec.ofNat 32 (4000 + 255 * 65536 + 1 * 16777216), 500, 0, 1, 2, 3, 10000, 0, 0, 0, 2000, 1, 0, 0, 0, 0]
    (guideSetupOf guide).map (fun g => (g.vehicle.half, g.style.d3, g.style.obstacle)) = some (400, 1000, 5) ∧
    guideSetupOf (guide.set 36 1001) = none ∧ guideSetupOf (guide.set 35 0) = none ∧ guideSetupOf (guide.set 33 14) = none ∧
    slot = some (some ⟨7, true, true, 15, 2000, [⟨4000, 2000, 255, 0, 0, true⟩]⟩) ∧
    chimeSlotOf (at' 0x01010700 0 0 0) 0 = some none ∧ chimeSlotOf (at' 0x01010801 0x101 0x000A0000 0) 0 = none ∧
    (chimeSlotOf (at' 1 0x100 0x000A0000 0) 0).isSome = true ∧ chimeSlotOf (at' 1 0x100 0x00090000 0) 0 = none ∧
    (proximityOf prox).map (fun x => (x.freq, x.g4, x.enable)) = some (4000, 2000, true) ∧ proximityOf (prox.set 11 2) = none ∧
    proximityOf (prox.set 6 10001) = none ∧ proximityOf (prox.set 3 0) = none := by decide

theorem test_meets_CaptureStaysSound : CaptureOk ticking := ⟨by decide, by decide, by decide, fun i h => by simp [ticking, State.reset, State.blocksReset, Reset.ccu] at h⟩

/-- The reverse state and R as given, the pin debounced as given. -/
def reverse (st : RevState) (request pin : Bool) : State :=
  { busy with rvc := { busy.rvc with
      st := st, request := request, debounced := pin
      setup := { Reset.revSetup with linger := 500, chime := some 31 } } }

theorem test_meets_RequestEvaluation :
    let named := { reverse .normal false true with chu := { Reset.chu with defs := (List.replicate 31 none) ++ [some ⟨0, false, false, 1, 0, []⟩] } }
    (evaluateR named).rvc.st = .engaging ∧ named.chimeDef 31 ≠ none ∧ (evaluateR named).chu.q.st = .playing ∧
    (evaluateR (reverse .linger false true)).rvc.st = .engaging ∧ (evaluateR (reverse .live true false)).rvc.st = .linger ∧
    (evaluateR (reverse .blanked true false)).rvc.heldBlanked = true ∧ evaluateR (reverse .live true true) = reverse .live true true ∧
    (let s := reverse .engaging true false
     (evaluateR { s with rvc := { s.rvc with setup := Reset.revSetup } }).rvc.st) = .normal := by decide +kernel

theorem test_meets_RequestEvaluation_couplings :
    let s := reverse .normal false true
    let cam := { s with ccu := { Reset.ccu with setup := some camera }, scn := { busy.scn with ctr := running }, rvc := { s.rvc with setup := Reset.revSetup } }
    let leaves := { reverse .engaging true false with
      ccu := { Reset.ccu with setup := some camera, frame := some open0, slots := [⟨.writing, 1⟩, ⟨.shown, 0⟩] }
      gde := { Reset.gde with recompute := .running, idle := .drawing } }
    let t := evaluateR { leaves with rvc := { leaves.rvc with setup := Reset.revSetup } }
    s.chimeDef 31 = none ∧ (requestEngage 31 s).2 = [⟨.chimeDropped, 31, 4⟩] ∧ (requestEngage 32 s).2 = [⟨.chimeDropped, 32, 4⟩] ∧
    (evaluateR cam).ccu.frame = none ∧ (evaluateR cam).capturing = true ∧ (evaluateR cam).gde.recompute = .running ∧
    (let g := { reverse .linger false true with rvc := { (reverse .linger false true).rvc with staleTimer := some 5 } }
     (evaluateR g).rvc.st = .live) ∧
    t.rvc.st = .normal ∧ t.ccu.slots.map Slot.st = [.free, .free] ∧ t.ccu.frame = none ∧ t.gde.recompute = .idle ∧
    t.seu.queue.map (fun q => q.words.take 2) = [[BitVec.ofNat 32 20, 1]] := by decide +kernel

theorem test_meets_ReverseTimers :
    let e := reverse .engaging true true
    let expired : State := { e with rvc := { e.rvc with engageTimer := some 0 } }
    let l := reverse .live true true
    let stale : State := { l with rvc := { l.rvc with staleTimer := some 0 } }
    let g := reverse .linger false false
    let lapsed : State := { g with rvc := { g.rvc with lingerTimer := some 0, staleTimer := some 0 } }
    ((after .engageTimerExpiry expired).map fun t => t.rvc.st) = some .blanked ∧
    ((after .staleTimerExpiry stale).map fun t => t.rvc.st) = some .blanked ∧
    ((after .staleTimerExpiry lapsed).map fun t => (t.rvc.st, t.rvc.staleTimer)) = some (.linger, none) ∧
    ((after .lingerTimerExpiry lapsed).map fun t => t.rvc.st) = some .normal ∧
    ((after .lingerTimerExpiry (lapsed.setScan .ctr { running with st := .stopping })).map fun t => t.rvc.releaseAtStop) = some true ∧ busy.rvc.st = .normal ∧ busy.ccu.enable = false ∧
    e.rvc.st ≠ .normal ∧ (⟨0, 1, 0, .reverse⟩ : GuardRange).cond = .reverse := by decide

theorem test_meets_CentreFrameStart :
    let at' := fun (st : RevState) (slots : List Slot) =>
      ({ reverse st true true with scn := { busy.scn with ctr := running }, ccu := { Reset.ccu with slots := slots } } : State)
    let slots : List Slot := [⟨.shown, 1⟩, ⟨.ready, 2⟩, ⟨.ready, 3⟩, ⟨.free, 0⟩]
    ((after (.frameStart .ctr) (at' .engaging slots)).map fun t => (t.rvc.st, t.ccu.slots.map Slot.st)) =
      some (.live, [.free, .free, .shown, .free]) ∧
    ((after (.frameStart .ctr) (at' .blanked [⟨.shown, 1⟩])).map fun t => t.layout.map Layout.mode) = some (some .unavailable) ∧
    ((after (.frameStart .ctr) (at' .live [⟨.free, 1⟩])).map fun t => t.layout.map Layout.mode) = some (some .fill) ∧
    ((after (.frameStart .ctr) (at' .linger slots)).map fun t => t.ccu.slots) = some slots ∧
    ((after (.frameStart .ctr) (at' .normal slots)).map fun t => (t.layout.isNone, t.ccu.slots.map Slot.st)) =
      some (true, [.free, .ready, .ready, .free]) ∧
    (let u := at' .live slots
     (after (.frameStart .ctr) { u with gde := { Reset.gde with idle := .complete } }).map fun t => t.gde.shown1) = some true := by decide

theorem test_meets_ReverseSetupInstalls :
    let low := mk 0 (pairOf 100 100) (pairOf 0 0) 0 (BitVec.ofNat 32 (1 * 16777216)) 0
    let high := mk 0 (pairOf 2000 1000) (pairOf 10000 540) (BitVec.ofNat 32 (1919 + 1079 * 4096 + 255 * 16777216))
      (BitVec.ofNat 32 (2 * 16777216 + 2 * 268435456)) 0
    Arrives arr ∧ (revSetupOf low).isSome = true ∧ (revSetupOf high).isSome = true ∧
    revSetupOf { low with op1 := pairOf 99 100 } = none ∧ revSetupOf { low with op2 := pairOf 0 541 } = none ∧
    revSetupOf { low with op3 := BitVec.ofNat 32 (32 * 16777216) } = none ∧ arr.rvc.st = .normal ∧
    (revSetupOf low).map RevSetup.source = some arr.rvc.setup.source := by unfold Arrives; decide

/-- Outside NORMAL: a changed source whose flag is clear releases the view; a changed place of the rectangle is a trigger. -/
theorem test_meets_ReverseSetupInstalls_outside_normal :
    let at' : State := { arr with rvc := { arr.rvc with st := .live, request := true, staleTimer := some 5, debounced := true } }
    let record := fun (x source : Nat) => mk 0 (pairOf 100 100) (pairOf 0 0) (BitVec.ofNat 32 (x + 255 * 16777216))
      (BitVec.ofNat 32 (1 * 16777216 + source * 268435456)) 0
    Arrives at' ∧ ((after (.reverseSetup (record 0 1)) at').map fun t => (t.rvc.st, t.rvc.request, t.gde.recompute)) =
      some (.normal, false, .idle) ∧
    ((after (.reverseSetup (record 1 0)) at').map fun t => (t.rvc.st, t.rvc.request, t.gde.recompute)) =
      some (.live, true, .running) := by
  unfold Arrives; decide +kernel

theorem test_meets_ReverseTimersStaySound : ReverseTimersOk ticking := ⟨by decide, by decide, by decide, by decide⟩

theorem test_meets_GuideInputs :
    let s : State := { busy with gde := { busy.gde with steering := ⟨100, true, true, some 0, 500⟩,
                                                        obstacle := ⟨100, true, true, some 0, 500⟩ } }
    busy.phase ≠ .held ∧ ((after (.steer 0x80008000) busy).map fun t => t.gde.steering.angle) = some (-4500) ∧
    ((after (.obstacle 0x8000FFFF) busy).map fun t => t.gde.obstacle.dist) = some 10000 ∧
    s.gde.steering.timer = some 0 ∧ s.gde.obstacle.timer = some 0 ∧
    ((after .steeringStaleTimerExpiry s).map fun t => t.gde.steering.fresh) = some false ∧
    ((after .obstacleStaleTimerExpiry s).map fun t => t.gde.obstacle.fresh) = some false := by decide

theorem test_meets_GuideTriggers :
    let at' := fun (r : Recompute) (b : IdleBank) =>
      ({ reverse .live true true with gde := { Reset.gde with recompute := r, idle := b } } : State)
    (trigger (at' .idle .clear)).gde.recompute = .running ∧ (trigger (at' .idle .complete)).gde.recompute = .waiting ∧
    (trigger (at' .running .drawing)).gde.pendingFlag = true ∧ trigger (at' .waiting .complete) = at' .waiting .complete ∧
    busy.rvc.st = .normal ∧ (guideFrameStart (at' .waiting .complete)).gde.recompute = .running ∧
    (guideFrameStart (at' .idle .complete)).gde.shown1 = true ∧ (syncGuide true { at' .running .drawing with rvc := busy.rvc }).gde.idle =
      .clear := by decide +kernel

/-- Guide records of the lowest values their rules admit. -/
def guideWords : List Word :=
  [1500, 300, 400, 400, 1, 100] ++ List.replicate 26 0 ++ [1000, 100, 0, 0, 0, 1] ++ List.replicate 10 0

theorem test_meets_GuideSetupAndCompletion :
    let s := reading 18 0 0 guideWords
    let r : State := { busy with gde := { Reset.gde with recompute := .running, idle := .drawing } }
    ReadEnds 18 guideWords s ∧ (guideSetupOf guideWords).isSome = true ∧ guideSetupOf (guideWords.set 0 1499) = none ∧
    guideSetupOf (guideWords.set 37 16) = none ∧ s.gde.recompute ≠ .running ∧ r.gde.recompute = .running ∧
    ((after .recomputeCompletion r).map fun t => t.gde.recompute) = some .idle := by unfold ReadEnds; decide

/-- A drawing of static lines at columns 20 and 40, rows 0 to 3, and of an obstacle bar 3 mm behind the bumper, on a projection that
takes mm as columns and rows. -/
def drawn (strip : Nat) : Captured :=
  ⟨0, false, 3, true, some ⟨⟨1500, 0, 10, 10, 1, 100⟩, ⟨1, 0, 30, 0, 1, 0, 0, 0, 1⟩, ⟨3, 1, 0, 0, 0, 1, 1, 2, 3, 4, 5, 6⟩⟩, some (64, 64), strip⟩

theorem test_meets_GuideGeometry_rows :
    let row := fun (strip : Nat) (r : Int) => (rowSpans (drawCaptured (drawn strip)).bank r).map fun sp => (sp.first, sp.last, sp.colour)
    (drawn 0).setup.isSome = true ∧ (drawn 0).area = some (64, 64) ∧ row 0 0 = [(20, 20, 4), (40, 40, 4)] ∧
    row 0 2 = [(20, 20, 4), (40, 40, 4), (19, 41, 6)] ∧ row 0 4 = [(19, 41, 6)] ∧ row 0 5 = [] ∧ row 3 2 = [] ∧
    row 3 4 = [(19, 41, 6)] ∧ drawCaptured { drawn 0 with area := none } = ⟨[], 0, 0⟩ ∧
    projectPoint ⟨1, 0, 0, 0, 1, 0, 0, 0, 0⟩ 1 1 = none := by
  decide +kernel

theorem test_meets_GuideGeometry :
    tangentOf 1030 = 11910 ∧ tangentOf 49 = 561 ∧ tangentOf 4499 = 65513 ∧ radiusOf 2700 9 true = none ∧ (radiusOf 2700 10 true).isSome = true ∧ roundSqrt 0 = 0 ∧ roundSqrt 6 = 2 ∧ roundSqrt 7 = 3 ∧
    lineX (some 10) 0 10 = some 10 ∧ lineX (some 10) 0 11 = none ∧ (⟨0, true, 0, true, none, some (320, 240), 0⟩ : Captured).area =
      some (320, 240) := by decide +kernel

theorem test_meets_BanksStayBounded : BanksOk ticking := by
  rintro b (rfl | rfl) <;> exact ⟨fun _ => by simp [ticking, State.reset, State.blocksReset, Reset.gde, rowSpans], fun _ h => nomatch h⟩

theorem test_meets_ChimePlay :
    let at' := fun (queue : List ChimeEntry) (q : VoiceQ) => ({ arr with chu := chimes queue q } : State)
    let run := fun (i : Word) (restart : Word) (s : State) => (doChimePlay (mk 0 i restart 0 0 0) s).cmu.code
    Arrives (at' [] (playing 9)) ∧ run 32 0 (at' [] (playing 9)) = resBadParam ∧ run 31 0 (at' [] (playing 9)) = resBadParam ∧
    run 7 0 (at' [⟨7, false⟩] (playing 9)) = resMerged ∧ run 9 0 (at' [] (playing 9)) = resMerged ∧
    (doChimePlay (mk 0 9 1 0 0 0) (at' [] (playing 9))).chu.q.n = 0 ∧ (doChimePlay (mk 0 1 0 0 0 0) (at' [] (playing 7))).chu.queue = [] ∧
    run 7 0 (at' (List.replicate 16 ⟨9, false⟩) (playing 4)) = resFull ∧ run 1 0 (at' (List.replicate 16 ⟨9, false⟩) (playing 4)) = resDone := by
  unfold Arrives; decide

theorem test_meets_ChimeCancel :
    let at' := fun (queue : List ChimeEntry) (q : VoiceQ) => ({ arr with chu := chimes queue q } : State)
    let run := fun (i : Word) (s : State) => doChimeCancel (mk 0 i 0 0 0 0) s
    Arrives (at' [⟨7, false⟩] (playing 9)) ∧ (run 32 (at' [] (playing 9))).cmu.code = resBadParam ∧
    (run 31 (at' [] (playing 9))).cmu.code = resDone ∧ (run 256 (at' [⟨7, false⟩] (playing 9))).cmu.detail = 1 ∧
    (run 9 (at' [⟨7, false⟩] (playing 9))).chu.q.st = .releasing ∧
    (run 9 (at' [⟨7, false⟩] { playing 9 with inGap := true })).chu.q.id = 7 ∧
    (run 256 (at' [⟨7, false⟩] { playing 9 with inGap := true })).chu.q.st = .idle ∧
    (at' [] { playing 9 with env := none }).chu.q.env = none := by unfold Arrives; decide

theorem test_meets_VoiceQParts :
    let at' := fun (q : VoiceQ) => ({ busy with chu := chimes [⟨7, false⟩] q } : State)
    let done := { playing 9 with n := 4800 }
    done.total ≤ done.n ∧ (at' done).chimeDef done.id ≠ none ∧
    ((after .noteEnd (at' done)).map fun t => (t.chu.q.played, t.chu.q.n)) = some (1, 0) ∧
    ((after .chimeFinish (at' { done with played := 1 })).map fun t => t.chu.q.id) = some 7 ∧
    ((after .gapEnd (at' { done with inGap := true })).map fun t => t.chu.q.inGap) = some false ∧
    ((after .cancelReleaseEnd (at' { done with st := .releasing })).map fun t => t.chu.q.id) = some 7 := by decide

theorem test_meets_LineSample : (noteCase 240).chu.q.n < (noteCase 240).chu.q.total ∧ (noteCase 240).chu.p.st = .off ∧
    (noteCase 9599).chu.q.n < (noteCase 9599).chu.q.total ∧
    ((after .lineSample { noteCase 240 with chu := { (noteCase 240).chu with q := { playing 3 with inGap := true } } }).map fun t =>
      t.chu.q.env) = some none := by decide +kernel

/-- Voice P in a part that has run out, with the obstacle at a distance. -/
def warned (st : VoicePState) (dist : Nat) : State :=
  { reverse .live true true with
    gde := { Reset.gde with obstacle := ⟨dist, true, true, some 500, 500⟩ }
    chu := { Reset.chu with prox := ⟨1000, 200, true, 100, 300, 600, 1000, 1500, 2500, 100, 250, 400, 700, true⟩,
                            p := ⟨st, 240, 240, 5, some 256, 0⟩ } }

theorem test_meets_ProximityVoice :
    (warned .beep 300).zone = 0 ∧ (warned .beep 301).zone = 1 ∧ (warned .beep 2500).zone = 4 ∧ (warned .beep 2501).zone = 5 ∧
    (warned .beep 2500).chu.p.total ≤ (warned .beep 2500).chu.p.n ∧
    ((after .beepEnd (warned .beep 2501)).map fun t => t.chu.p.st) = some .quiet ∧
    ((after .proximityGapEnd (warned .gap 301)).map fun t => t.chu.p.st) = some .beep ∧
    ((after .toneReleaseEnd (warned .release 300)).map fun t => t.chu.p.st) = some .tone ∧
    (syncVoiceP 0 (warned .tone 301)).chu.p.st = .release ∧ (syncVoiceP 1 (warned .beep 300)).chu.p.st = .tone ∧
    (syncVoiceP 5 (warned .off 2501)).chu.p.st = .quiet ∧ (syncVoiceP 5 { warned .beep 0 with rvc := busy.rvc }).chu.p.st = .off := by
  decide

theorem test_meets_ChimeQueueStaysOrdered : ChimesOk ticking :=
  ⟨by decide, by decide, List.Pairwise.nil, (fun _ h => nomatch h), fun _ => rfl, fun h => absurd rfl h⟩

theorem test_meets_TakeChecks :
    let w := fun (a len : Nat) => (⟨true, BitVec.ofNat 30 (a / 4), len, List.replicate len ⟨0, 15⟩⟩ : Request)
    (w 0 8).wf = true ∧ State.reset.ppw.port = .notReady ∧
    State.reset.ppw.waiting = none ∧ busy.ppw.port = .free ∧ busy.outOfRange (w 67108832 8) = false ∧
    busy.outOfRange (w 67108864 1) = true ∧ busy.outOfRange (w 4 8) = true ∧ busy.coveringRanges 256 = [(8, false)] ∧
    busy.coveringRanges 252 = [] ∧ busy.coveringRanges 2047 = [(8, false)] ∧ busy.coveringRanges 2048 = [] ∧
    ((after (.take (w 0 8)) busy).map fun t => t.ppw.port) = some .pending ∧
    (let mon := fun st : MonState => busy.setMon { Reset.monitor with st := st }
     ((after (.take (w 4 8)) (mon .counting)).map fun t => t.fma.mon.st) = some .armed ∧
     ((after (.take (w 256 1)) (mon .counting)).map fun t => t.fma.mon.st) = some .armed ∧
     ((after (.take (w 0 8)) (mon .armed)).map fun t => (t.fma.mon.st, t.fma.mon.tag.holder)) = some (.tagged, 6)) := by decide

theorem test_meets_TransactionCompletes :
    let at' := fun (q : Request) (b : Burst) => ({ carrying b 8 busy with ppw := { busy.ppw with port := .pending, tx := some q } } : State)
    let r := at' ⟨false, 512, 1, []⟩ (.procRead [7])
    let w := at' ⟨true, 511, 1, [⟨0x04030201, 5⟩]⟩ .procWrite
    r.burstInside = true ∧ ((after .procReadCompletion r).map fun t => t.ppw.response) = some (some ⟨true, [7]⟩) ∧
    ((after .procWriteCompletion w).map fun t => t.mem) = some [(2044, 1), (2046, 3)] ∧ Memory.wf w.mem = true ∧
    (let mon := fun (st : MonState) (s : State) => s.setMon { Reset.monitor with st := st }
     let clr := fun en : BitVec 4 => at' ⟨true, 9, 1, [⟨0, en⟩]⟩ .procWrite
     ((after .procReadCompletion (mon .tagged r)).map fun t => (t.fma.mon.st, t.fma.mon.sample.addr)) = some (.held, 2048) ∧
     ((after .procReadCompletion (mon .counting r)).map fun t => t.fma.mon.st) = some .armed ∧
     ((after .procWriteCompletion (mon .counting (clr 15))).map fun t => t.fma.mon.count) = some 0 ∧
     ((after .procWriteCompletion (mon .counting (clr 7))).map fun t => t.fma.mon.count) = some 1) := by decide +kernel

theorem test_meets_WatchedWords :
    (deliverWord 4 ⟨5, 3⟩ busy).seu.pending.getLsbD EvKind.watchPartial.code = true ∧ (deliverWord 4 ⟨5, 0⟩ busy) = busy ∧
    (deliverWord 36 ⟨5, 15⟩ busy).ppw.taken.sampleClr = 5 ∧ (deliverWord 0 ⟨5, 15⟩ busy).ppw.taken.cmdPost = 5 ∧
    ((after (.vehicle 1) busy).map fun t => t.ppw.taken.vehicle) = some 1 := by decide +kernel

theorem test_meets_Resets :
    let w : State := { carrying .procWrite 1 busy with ppw := { busy.ppw with port := .pending, tx := some ⟨true, 0, 1, [⟨1, 15⟩]⟩ } }
    w.phase ≠ .held ∧ w.burstInside = true ∧ w.burst = some .procWrite ∧ busy.burst = none ∧ heldState.phase = .held ∧
    ((after .resetNAssert w).map fun t => t.mem) = some [(0, 1)] ∧ State.reset.ppw.waiting = none ∧ State.reset.phase = .init ∧
    (let exits := State.blocksReset .exit ⟨true, 0⟩ [] false false false (some ⟨false, 0, 1, []⟩) 0 []
     let clean : State := { exits with seu := { exits.seu with dirty := false } }
     exits.ppw.waiting ≠ none ∧ ((after .selfRefreshExit clean).map fun t => (t.ppw.port, t.ppw.waiting, t.burst)) =
       some (.pending, none, some (.procRead [0]))) ∧
    ((after (.resetNRelease true 15) heldState).map fun t => (t.phase, t.caBase)) = some (.exit, 125829120) ∧
    ((after (.por true 1) heldState).map fun t => (t.phase, t.waitAsserted, t.initDue)) = some (.held, true, true) ∧
    ((after .resetNAssert State.reset).bind fun t => (after (.resetNRelease false 0) t).map State.phase) = some .init ∧
    State.reset = State.blocksReset .init State.reset.straps [] false false false none State.reset.free State.reset.pending := by decide +kernel

theorem test_meets_TimePasses :
    let s : State := { busy with fma := { busy.fma with owed := 7 } }
    let full : State := { busy with fma := { busy.fma with owed := 8 } }
    let idle : State := { busy with fma := { busy.fma with memory := .idle }, seu := { busy.seu with dirty := false } }
    busy.phase ≠ .held ∧ (busy.links.get .rl).timer ≠ some 0 ∧ (busy.links.get .rr).timer ≠ some 0 ∧ busy.rvc.revTimer ≠ some 0 ∧
    busy.ccu.presenceTimer ≠ some 0 ∧ busy.rvc.engageTimer ≠ some 0 ∧ busy.rvc.staleTimer ≠ some 0 ∧ busy.rvc.lingerTimer ≠ some 0 ∧
    busy.gde.steering.timer ≠ some 0 ∧ busy.gde.obstacle.timer ≠ some 0 ∧ s.fma.owed < 8 ∧ s.fma.refreshOn = true ∧
    ((after .refreshTimerExpiry full).map fun t => t.fma.lateRun) = some 1 ∧ full.fma.memory ≠ .idle ∧ idle.requests .serv = false ∧
    ((after .refreshTimerExpiry idle).map fun t => t.fma.memory) = some .refresh := by decide

theorem test_meets_DecisionOrder :
    let asks := fun (proc : Bool) (wait owed : Nat) => ({ busy with
      ppw := { busy.ppw with port := if proc then .pending else .free, tx := some ⟨false, 0, 1, []⟩ }
      fma := { busy.fma with owed := owed, waits := ⟨0, 0, 0, 0, 0, wait⟩ } } : State)
    decisionTarget (asks true 7 8).requests (asks true 7 8) = some .refresh ∧
    decisionTarget (asks true 8 7).requests (asks true 8 7) = some (.client .serv) ∧
    decisionTarget (asks true 7 7).requests (asks true 7 7) = some (.client .proc) ∧
    decisionTarget (asks false 7 7).requests (asks false 7 7) = some (.client .serv) ∧
    (let s : State := { asks false 7 1 with seu := { busy.seu with dirty := false } }
     decisionTarget s.requests s) = some .refresh ∧
    ((after .grantEnd (asks true 7 0)).map fun t => t.fma.waits.serv) = some 8 ∧ (asks true 7 0).burstInside = true ∧
    ((after .grantEnd (asks true 7 0)).map fun t => t.requests .proc) = some false := by decide

theorem test_meets_DecisionOrder_idle : ClientsOk busy ∧ busy.phase ≠ .held ∧
    (let quiet := { busy with seu := { busy.seu with dirty := false } }
     ((after .grantEnd quiet).map fun t => t.fma.memory) = some .idle ∧
     ((after .grantEnd { quiet with fma := { quiet.fma with owed := 8, lateRun := 3 } }).map fun t => (t.fma.memory, t.fma.lateRun)) =
       some (.refresh, 0)) := ⟨⟨by decide, fun c => by cases c <;> decide⟩, by decide, by decide⟩

/-- A burst of each kind whose end GRANT_END makes itself, and one whose end has a row of its own. -/
theorem test_meets_DecisionOrder_ends :
    let ws := List.replicate 8 (1 : Word)
    let film := { busy with scn := { busy.scn with rl := { inFrame with fetch := [{ filmPlane with words := 9, next := 0 }] } } }
    let half := { busy with ccu := { Reset.ccu with setup := some camera, buffer := [.trailer 0 (ws ++ ws) false] } }
    let ends := fun s : State => after .grantEnd s
    ((ends (carrying (.pixels [(2048, 7)]) 1 busy)).map fun t => t.mem) = some [(2048, 7)] ∧
    ((ends (carrying (.trailer false ws) 8 half)).map fun t => t.ccu.buffer) = some [.trailer 0 (ws ++ ws) true] ∧
    ((ends (carrying (.line .rl .film 0 ws false false) 8 film)).map fun t => (t.scan .rl).fetch.map fun p => p.got.length) = some [8] ∧
    ((ends (carrying (.line .rl .film 0 ws false true) 8 film)).map fun t => (t.scan .rl).fetch.map fun p => p.got.length) = some [0] ∧
    ((ends (carrying (.table ws false) 8 busy)).map fun t => t.cmu.data) = some ws ∧
    ((ends (carrying (.status 22 ws) 8 { busy with seu := { busy.seu with writing := some (ws, 22) } })).map fun t => t.seu.writing) =
      some (some (ws, 23)) ∧
    ((ends (carrying (.record [8, 0, 1, 0, 0, 0, 0, 0]) 8 { busy with cmu := { busy.cmu with st := .reading } })).map fun t =>
      (t.cmu.st, t.cmu.code)) = some (.writing, resDone) ∧
    rowOfRecord 8 ⟨false, 0, 0, 1, 0, 0, 0⟩ = .paceSet ⟨false, 0, 0, 1, 0, 0, 0⟩ ∧ rowOfReadEnd 23 = some .guardSetupReadEnd ∧
    rowOfReadEnd 8 = none := by decide +kernel

theorem test_meets_ArbProfileChecks :
    let r := fun (name order : Word) => mk 0 name order 0x0005 0x1F000004 0x1F08
    Arrives arr ∧ (doArbProfile (r 0 0x04030201) arr).cmu.code = resDone ∧
    (doArbProfile { r 0 0x03020100 with op3 := 0x0504 } arr).cmu.code = resDone ∧
    (doArbProfile { r 1 0x00020104 with op3 := 0x0503 } arr).cmu.code = resDone ∧
    (doArbProfile { r 1 0x04020100 with op3 := 0x0503 } arr).cmu.detail = 4 ∧
    (doArbProfile { r 0 0x03020100 with op3 := 0x0504, op5 := 0x2008 } arr).cmu.detail = 3 ∧
    (doArbProfile { r 0 0x03020101 with op3 := 0x0504 } arr).cmu.detail = 2 ∧ (doArbProfile (r 2 0) arr).cmu.detail = 1 := by
  unfold Arrives; decide

theorem test_meets_SampleMonitor :
    let m := fun (st : MonState) => ({ Reset.monitor with st := st } : Monitor)
    let run := fun (on p : Word) => doSampleSetup (mk 0 on p 0 0 0) arr
    Arrives arr ∧ (run 1 0).cmu.code = resBadParam ∧ (run 1 65536).cmu.code = resBadParam ∧ (run 2 1).cmu.code = resBadParam ∧
    (run 1 65535).fma.mon.st = .counting ∧ (run 1 1).fma.mon.period = 1 ∧ (run 0 0).fma.mon.st = .off ∧
    (countCompletion (busy.setMon (m .counting))).fma.mon.st = .armed ∧ (tagTake (busy.setMon (m .armed))).fma.mon.st = .tagged ∧
    (takeSample ⟨false, 0, 1, []⟩ (busy.setMon (m .tagged))).fma.mon.st = .held ∧
    ((after (.sampleClr 0) (busy.setMon (m .held))).map fun t => t.fma.mon.st) = some .counting := by unfold Arrives; decide

theorem test_meets_SampleMonitor_take :
    let s := ({ busy with seu := { busy.seu with dirty := false }, fma := { busy.fma with memory := .idle } } : State).setMon
      { Reset.monitor with st := .armed }
    let q : Request := ⟨false, 16777208, 8, []⟩
    s.fma.owed = 0 ∧ (∀ c, s.requests c = false) ∧ s.fma.waits.get .proc = 0 ∧ q.wf = true ∧ 4 * q.wordAddr.toNat + 32 = s.memSize ∧
    ((after (.take q) s).map fun t => (t.requests .proc, t.fma.mon.tag.wait, t.fma.mon.tag.holder)) = some (false, 0, 7) :=
  ⟨by decide, fun c => by cases c <;> decide, by decide, by decide, by decide, by decide⟩

theorem test_meets_CommandUnit :
    Arrives arr ∧ ((28 : Byte) = 0 ∨ 27 < (28 : Byte).toNat) ∧
    ((after (.cmdPost 256) busy).map fun t => t.seu.pending.getLsbD EvKind.cmdPostBad.code) = some true ∧
    ((after (.cmdPost 255) busy).map fun t => t.cmu.p) = some 255 ∧ ((after (.cmdPost 0) busy).map fun t => t.cmu.st) = some .idle ∧
    burstsOf 64 9 = [(64, 8), (96, 1)] := by unfold Arrives; decide

theorem test_meets_LoadsBegin :
    let quiet := fun s : State => decide (s.capturing = false) && s.ccu.buffer.isEmpty
    let top : Word := 67108864
    Arrives arr ∧ rearOf 1 = some .rl ∧ rearOf 0 = none ∧ SourceFits arr (top - 1024) 1024 ∧ ¬SourceFits arr (top - 960) 1024 ∧
    SourceFits arr (top - 64) 64 ∧ ¬SourceFits arr top 64 ∧ SourceFits arr (top - 3136) 3136 ∧ ¬SourceFits arr (top - 3072) 3136 ∧
    ¬SourceFits arr 1 2 ∧ (arr.menu.get .rl).motion = .inRest ∧ quiet arr = true ∧ (capturing 2 0 open0).capturing = true ∧
    arr.chu.q.st = .idle ∧ arr.chu.queue = [] ∧ (playing 9).st ≠ .idle := by unfold Arrives SourceFits; decide

theorem test_meets_ReadsEnd :
    let ramp := readEnding 6 (mk 1 2 0 0 0 0) [0x0000FF00] busy
    let prox : List Word := [BitVec.ofNat 32 (100 + 255 * 65536), 20, 0, 1, 2, 3, 4, 0, 0, 0, 0, 1, 0, 0, 0, 0]
    let zeros := List.replicate 16 (0 : Word)
    ReadEnds 5 zeros (reading 5 1 0 zeros) ∧ rearOf (reading 5 1 0 zeros).cmu.cmd.fields.target = some .rl ∧
    ReadEnds 6 [0x0000FF00] ramp ∧ ((after .rampLoadReadEnd ramp).map fun t => ((t.menu.get .rl).ramp, (t.menu.get .rl).pos)) =
      some ([0, 255], 1) ∧
    ReadEnds 15 zeros (reading 15 0 0 zeros) ∧ ReadEnds 14 zeros (reading 14 0 0 zeros) ∧ (reading 14 0 0 zeros).capturing = false ∧
    ReadEnds 19 zeros (reading 19 0 0 zeros) ∧ chimeSlotOf zeros 0 = some none ∧
    chimeSlotOf (List.replicate 144 0 ++ [BitVec.ofNat 32 1]) 0 = none ∧ ReadEnds 22 prox (reading 22 0 0 prox) ∧
    (proximityOf prox).isSome = true ∧ proximityOf zeros = none ∧ ReadEnds 23 zeros (reading 23 0 0 zeros) ∧
    guardEntryOf 67108864 0 zeros 7 ≠ none := by unfold ReadEnds; decide

theorem test_meets_RecordConsumed :
    let s : State := { carrying (.result [8, 0]) 2 busy with cmu := { busy.cmu with c := 255, p := 0, st := .writing, code := resSourceErr,
                                                                                    cmd := ⟨5, ⟨true, 1, 0, 0, 0, 0, 0⟩⟩ } }
    s.burstInside = true ∧ s.burst = some (.result [8, 0]) ∧ ((after .consumption s).map fun t => (t.cmu.c, t.cmu.st)) = some (0, .idle) ∧
    ((after .consumption s).map fun t => t.seu.queue.map fun q => (q.words.drop 1).take 2) = some [[255, 8], [255, 8]] := by decide

theorem test_meets_SoftRestart :
    let s := arr.setScan .rr { inFrame with underruns := 1 }
    Arrives s ∧ ((after (.softRestart (mk 0 0 0 0 0 0)) s).map fun t => ((t.scan .rr).st, t.cmu.detail)) = some (.stopped, 2) := by
  unfold Arrives; decide

theorem test_meets_StatusAndRecordWrites :
    let ws := List.replicate 8 (0 : Word)
    let e : State := { busy with seu := { busy.seu with queue := [⟨63, [1, 2, 3, 4]⟩] } }
    busy.seu.queue = [] ∧ busy.cmu.st = .idle ∧ busy.seu.writing = none ∧
    ({ busy with seu := { busy.seu with writing := some (ws, 0) } } : State).seu.writing = some (ws, 0) ∧
    (carrying (.status 23 ws) 8 busy).burst = some (.status 23 ws) ∧ (carrying (.status 23 ws) 8 busy).burstInside = true ∧
    ({ busy with ccu := { Reset.ccu with slots := List.replicate 8 ⟨.ready, 5⟩ } } : State).ccu.slots.length = 8 ∧
    (grantServ e).burst = some (.event [1, 2, 3, 4]) ∧ (grantServ e).burstAddr = 0x400 + 16 * 63 ∧
    ((after .eventRecordWritten (carrying (.event [1, 2, 3, 4]) 4 e)).map fun t => t.seu.queue) = some [] := by decide

theorem test_meets_StatusAndRecordWrites_words :
    let s := { busy with ccu := { Reset.ccu with slots := List.replicate 8 ⟨.ready, 5⟩ } }
    let w := fun off : Nat => wordAt (statusWords s 7) (off / 4)
    w 0x118 = 3 ∧ w 0x11C = 5 ∧ w 0x2F8 = 0 ∧ w 0x2FC = 7 ∧ w 0x004 = 0x00013140 ∧ w 0x0C0 = 0x0800 ∧ w 0x120 = 0x000F0000 := by decide +kernel

theorem test_meets_EventCommands :
    let s := events 10 5 (1 <<< 35 ||| 1) []
    ((after (.evtAck 10) s).map fun t => t.seu.a) = some 10 ∧ ((after (.evtAck 11) s).map fun t => t.seu.a) = some 5 ∧
    ((after (.evtAck 64) s).map fun t => t.seu.a) = some 5 ∧ ((after (.pendClr true 8) s).map fun t => t.seu.pending) = some 1 ∧
    ((after (.pendClr false 1) s).map fun t => t.seu.pending) = some (1 <<< 35) ∧
    ((after (.occClr true 8) s).map fun t => t.seu.occurred) = some (1 <<< 35 ||| 1) ∧ Arrives arr := by unfold Arrives; decide

theorem test_meets_RaiseEffect : (events 9 10 0 []).seu.w + 1 = (events 9 10 0 []).seu.a ∧
    (events 9 40 0 []).seu.recMask.getLsbD EvKind.sampleReady.code = true ∧ EvKind.underrunC.code = 0 ∧ EvKind.sampleReady.code = 35 := by
  decide

theorem test_meets_EventStateStaysSound : FlagsOk ticking ∧ LinesOk ticking ∧ (ticking.seu.queue.map QueuedRecord.entry).Nodup := by
  unfold FlagsOk LinesOk; decide

/-- A requesting plane with that many complete lines and that many words of the next. -/
def plane (id : PlaneId) (lines got : Nat) : Fetch :=
  { freshFetch id .argb8888 4096 64 0 9 9 9 0 0 0 1 255 with
    lines := (List.range lines).map fun i => (i, []), next := lines, got := List.replicate got 0 }

theorem test_meets_GrantContents :
    let holds := fun (c : Client) (s : State) => match (carryBurst c s).fma.memory with
      | .data g => some (g.addr, g.bytes, g.burst)
      | _ => none
    let q : Request := ⟨false, 4, 1, []⟩
    let scan := fun ps : List Fetch => busy.setScan .rr { inFrame with fetch := ps }
    let run := (List.range 4).map fun i => CaptureItem.pixel 1 (30 + i) (BitVec.ofNat 8 i)
    let cap := fun b : List CaptureItem => ({ busy with ccu := { Reset.ccu with setup := some camera, buffer := b } } : State)
    let serv := fun st : CmuState => ({ busy with cmu := { busy.cmu with st := st, c := 255, code := 4, detail := 6, plan := [(64, 1), (96, 1)] } } : State)
    let ws := List.replicate 16 (0 : Word)
    (plane .film 3 0).requests = true ∧ (plane .film 4 0).requests = false ∧ (plane .film 1 0).urgent = true ∧
    (plane .film 2 0).urgent = false ∧ holds .proc { busy with ppw := { busy.ppw with tx := some q } } = some (16, 4, .procRead [0]) ∧
    holds .scanR (scan [plane .film 1 8, plane .menu 1 0]) = some (4096 + 64 + 32, 4, .line .rr .film 1 [0] true false) ∧
    holds .scanR (scan [plane .film 2 8, plane .menu 1 0]) =
      some (4096 + 64, 32, .line .rr .menu 1 (List.replicate 8 0) false false) ∧
    holds .capt (cap run) = some (30, 2, .pixels [(30, 0), (31, 1)]) ∧ (carryBurst .capt (cap run)).ccu.buffer = run.drop 2 ∧
    holds .capt (cap (run.drop 2)) = some (32, 2, .pixels [(32, 2), (33, 3)]) ∧
    holds .capt (cap [.trailer 3 ws true]) = some (5 * 1048576 - 32, 32, .trailer true (ws.drop 8)) ∧
    holds .capt (cap [.trailer 3 ws false]) = some (5 * 1048576 - 64, 32, .trailer false (ws.take 8)) ∧
    (serv .reading).seu.queue = [] ∧ holds .serv (serv .reading) = some (2048 + 32 * 255, 32, .record (List.replicate 8 0)) ∧
    holds .serv (serv .executing) = some (64, 4, .table [0] false) ∧
    holds .serv (serv .writing) = some (2048 + 32 * 255 + 24, 8, .result [4, 6]) := by
  refine ⟨?_, ?_, ?_, ?_, ?_, ?_, ?_, ?_, ?_, ?_, ?_, ?_, ?_, ?_, ?_⟩ <;> decide +kernel
end Sys2Proof.Tests
end

section
/-! PROOFS. Display outputs and composition (01_display_outputs_and_composition.md): PLANE_SET check by check (R7), and the stability
timers of the presence inputs and of the REV input (R23, R60). -/

namespace Sys2Proof.Proofs

open Sys2Proof.Machine Sys2Proof.Safety

/-! ### The arrival of a record leaves alone what PLANE_SET reads -/

@[simp] theorem arriveAs_scan (k : Byte) (r : Rec) (s : State) (o : Output) : (arriveAs k r s).scan o = s.scan o := by
  simp [arriveAs_eq, State.scan]

@[simp] theorem arriveAs_memSize (k : Byte) (r : Rec) (s : State) : (arriveAs k r s).memSize = s.memSize := by
  simp [arriveAs_eq, State.memSize]

/-- What a command stores at an output may be stored before or after its record's fields are copied. -/
theorem arriveAs_setScan (k : Byte) (r : Rec) (s : State) (o : Output) (v : Scan) :
    arriveAs k r (s.setScan o v) = (arriveAs k r s).setScan o v := by
  rw [arriveAs_eq, arriveAs_eq]; rfl

/-! ### Plane codes and the checks of R7 in terms of them -/

/-- The plane codes (11_memory_resident_formats). -/
theorem planeNameOf_eq_some {n : Nat} {q : PlaneName} (h : planeNameOf n = some q) :
    n = 0 ∧ q = .fill ∨ n = 1 ∧ q = .ui ∨ n = 2 ∧ q = .film ∨ n = 3 ∧ q = .menu := by
  unfold planeNameOf at h
  split at h <;> simp_all

theorem exists_planeNameOf {n : Nat} (h : n ≤ 3) : ∃ q, planeNameOf n = some q := by
  interval_cases n <;> exact ⟨_, rfl⟩

section
variable {n : Nat} {q : PlaneName}

theorem planeOnOutput_eq_false_iff (hq : planeNameOf n = some q) (o : Output) :
    planeOnOutput o q = false ↔ (o = .ctr ∧ (n = 2 ∨ n = 3)) ∨ (o ≠ .ctr ∧ n = 1) := by
  obtain ⟨rfl, rfl⟩ | ⟨rfl, rfl⟩ | ⟨rfl, rfl⟩ | ⟨rfl, rfl⟩ := planeNameOf_eq_some hq <;> simp [planeOnOutput]

theorem planeRangesOk_iff (hq : planeNameOf n = some q) (d : Descriptor) :
    planeRangesOk q d = true ↔
      d.alpha ≤ 255 ∧ (n = 1 → d.format ≤ 1 ∧ d.base % 64 = 0 ∧ d.pitch % 64 = 0 ∧ d.width ≠ 0 ∧ d.height ≠ 0) ∧
      (n = 2 → d.format = 2 ∧ (d.scale = 1 ∨ d.scale = 2)) ∧
      (n = 3 → d.format = 3 ∧ d.base % 64 = 0 ∧ d.pitch % 64 = 0 ∧ d.width ≠ 0 ∧ d.height ≠ 0) := by
  obtain ⟨rfl, rfl⟩ | ⟨rfl, rfl⟩ | ⟨rfl, rfl⟩ | ⟨rfl, rfl⟩ := planeNameOf_eq_some hq <;> simp [planeRangesOk, and_assoc]

theorem bytesPerPixel_eq (c : Nat) : bytesPerPixel c = if c = 0 then 4 else if c = 1 then 2 else 1 := by
  unfold bytesPerPixel
  split <;> simp_all

/-- The plane lies inside the active area, and where it is read from an address of its own, inside memory (R7 check 6). -/
def planeFits (memSize : Nat) (q : PlaneName) (t : Timing) (d : Descriptor) : Bool :=
  if q = .film then filmRectOk t d else rectOk memSize t d

theorem planeFits_iff (hq : planeNameOf n = some q) (memSize : Nat) (t : Timing) (d : Descriptor) :
    planeFits memSize q t d = true ↔
      if n = 2 then d.x < t.wa ∧ d.y < t.ha
      else d.x + d.width ≤ t.wa ∧ d.y + d.height ≤ t.ha ∧ d.width * bytesPerPixel d.format ≤ d.pitch ∧
        d.base + d.pitch * (d.height - 1) + d.width * bytesPerPixel d.format ≤ memSize := by
  obtain ⟨rfl, rfl⟩ | ⟨rfl, rfl⟩ | ⟨rfl, rfl⟩ | ⟨rfl, rfl⟩ := planeNameOf_eq_some hq <;>
    simp [planeFits, filmRectOk, rectOk, and_assoc]

/-- The descriptor takes the place of the named plane's. -/
theorem store_of_code (hq : planeNameOf n = some q) (x : Planes) (d : Descriptor) :
    (n = 1 → x.store q d = { x with ui := d }) ∧ (n = 2 → x.store q d = { x with film := d }) ∧
      (n = 3 → x.store q d = { x with menu := d }) := by
  obtain ⟨rfl, rfl⟩ | ⟨rfl, rfl⟩ | ⟨rfl, rfl⟩ | ⟨rfl, rfl⟩ := planeNameOf_eq_some hq <;> simp [Planes.store]

end

/-! ### PLANE_SET, one equation for each way it ends (R7) -/

/-- The planes of an output as set, changed by `f`. -/
def modPlanes (o : Output) (f : Planes → Planes) (s : State) : State :=
  s.modScan o fun sc => { sc with asSet := f sc.asSet }

theorem arriveAs_modPlanes (k : Byte) (r : Rec) (o : Output) (f : Planes → Planes) (s : State) :
    arriveAs k r (modPlanes o f s) = modPlanes o f (arriveAs k r s) := by
  simp only [modPlanes, State.modScan, arriveAs_setScan, arriveAs_scan]

/-- The record names a plane and an output that has it. -/
structure NamesPlane (r : Rec) (o : Output) (q : PlaneName) : Prop where
  output : outputOf r.target = some o
  plane : planeNameOf (field r.op1 0 4) = some q
  has : planeOnOutput o q = true

section
variable {r : Rec} {s : State} {o : Output} {q : PlaneName}

theorem doPlaneSet_noOutput (ho : outputOf r.target = none) : doPlaneSet r s = finish resBadParam 0 s := by
  simp [doPlaneSet, ho]

theorem doPlaneSet_noPlane (hq : planeNameOf (field r.op1 0 4) = none) : doPlaneSet r s = finish resBadParam 0 s := by
  simp [doPlaneSet, hq]

theorem doPlaneSet_planeNotOnOutput (ho : outputOf r.target = some o) (hq : planeNameOf (field r.op1 0 4) = some q)
    (h : planeOnOutput o q = false) : doPlaneSet r s = finish resBadParam 0 s := by
  simp [doPlaneSet, ho, hq, h]

theorem doPlaneSet_fill (hn : NamesPlane r o .fill) :
    doPlaneSet r s = finish resDone 0 (modPlanes o (fun x => { x with fill := r.op2.setWidth 24 }) s) := by
  simp [doPlaneSet, hn.output, hn.plane, hn.has, modPlanes, State.modScan]

theorem doPlaneSet_disabled (hn : NamesPlane r o q) (hf : q ≠ .fill) (he : (descriptorOf r).enabled = false) :
    doPlaneSet r s = finish resDone 0 (modPlanes o (Planes.store q (descriptorOf r)) s) := by
  simp [doPlaneSet, hn.output, hn.plane, hn.has, hf, he, modPlanes, State.modScan]

theorem doPlaneSet_outOfRange (hn : NamesPlane r o q) (hf : q ≠ .fill) (he : (descriptorOf r).enabled = true)
    (hr : planeRangesOk q (descriptorOf r) = false) : doPlaneSet r s = finish resBadParam 0 s := by
  simp [doPlaneSet, hn.output, hn.plane, hn.has, hf, he, hr]

theorem doPlaneSet_noTiming (hn : NamesPlane r o q) (hf : q ≠ .fill) (he : (descriptorOf r).enabled = true)
    (hr : planeRangesOk q (descriptorOf r) = true) (ht : (s.scan o).timing = none) :
    doPlaneSet r s = finish resWrongState 0 s := by
  simp [doPlaneSet, hn.output, hn.plane, hn.has, hf, he, hr, ht]

theorem doPlaneSet_timed (hn : NamesPlane r o q) (hf : q ≠ .fill) (he : (descriptorOf r).enabled = true)
    (hr : planeRangesOk q (descriptorOf r) = true) {t : Timing} (ht : (s.scan o).timing = some t) :
    doPlaneSet r s = if planeFits s.memSize q t (descriptorOf r) = true
      then finish resDone 0 (modPlanes o (Planes.store q (descriptorOf r)) s) else finish resBadParam 0 s := by
  simp [doPlaneSet, hn.output, hn.plane, hn.has, hf, he, hr, ht, planeFits, modPlanes, State.modScan]

theorem answers_planeSet_refused {code : Word} (h : Arrives s)
    (hu : doPlaneSet r (arriveAs 4 r s) = finish code 0 (arriveAs 4 r s)) :
    Answers (.planeSet r) s (completed 4 r code 0 s) := answers_of_arrival rfl h hu

theorem answers_planeSet_stored {f : Planes → Planes} (h : Arrives s)
    (hu : doPlaneSet r (arriveAs 4 r s) = finish resDone 0 (modPlanes o f (arriveAs 4 r s))) :
    Answers (.planeSet r) s (completed 4 r resDone 0 (modPlanes o f s)) :=
  answers_of_arrival rfl h (by rw [hu, completed, arriveAs_modPlanes])

end

/-- Settles O9: each clause is the equation of `doPlaneSet` for it, its checks read through the plane's code. -/
theorem planeSet : Obligations.PlaneSet := by
  intro r s h
  refine ⟨fun ho => answers_planeSet_refused h (doPlaneSet_noOutput ho), fun o ho => ?_⟩
  intro p d x wrongOutput placed ranges b inside refused stores store
  have onOutput {q : PlaneName} (hq : planeNameOf p = some q) : planeOnOutput o q = false ↔ wrongOutput :=
    planeOnOutput_eq_false_iff hq o
  refine ⟨fun hbad => ?badPlane, fun hp => ?fill, fun h1 h3 hon => ?descriptor⟩
  case badPlane =>
    cases hq : planeNameOf p with
    | none => exact answers_planeSet_refused h (doPlaneSet_noPlane hq)
    | some q =>
      have hle : ¬3 < p := by
        have := planeNameOf_eq_some hq
        omega
      have hno : planeOnOutput o q = false := (onOutput hq).2 (hbad.resolve_left hle)
      exact answers_planeSet_refused h (doPlaneSet_planeNotOnOutput ho hq hno)
  case fill =>
    have hq : planeNameOf p = some .fill := by rw [hp]; rfl
    exact answers_planeSet_stored h (doPlaneSet_fill ⟨ho, hq, rfl⟩)
  case descriptor =>
    obtain ⟨q, hq⟩ := exists_planeNameOf h3
    have hf : q ≠ .fill := fun e => by
      have h0 : p = 0 := by simpa [e] using planeNameOf_eq_some hq
      omega
    have hn : NamesPlane r o q := ⟨ho, hq, by simpa using mt (onOutput hq).1 hon⟩
    have hranges : planeRangesOk q d = true ↔ ranges := planeRangesOk_iff hq d
    have hinside (t : Timing) : planeFits (arriveAs 4 r s).memSize q t d = true ↔ inside t := by
      rw [planeFits_iff hq, bytesPerPixel_eq, arriveAs_memSize]
    have stored (hu : doPlaneSet r (arriveAs 4 r s) = finish resDone 0 (modPlanes o (Planes.store q d) (arriveAs 4 r s))) :
        store := by
      have hy : stores (x.store q d) := answers_planeSet_stored h hu
      obtain ⟨ui, film, menu⟩ := store_of_code hq x d
      exact ⟨fun hp => ui hp ▸ hy, fun hp => film hp ▸ hy, fun hp => menu hp ▸ hy⟩
    refine ⟨fun he => ?disabled, fun he hr => ?outOfRange, fun he hr ht => ?noTiming,
      fun he hr t ht => ⟨fun hi => ?outside, fun hi => ?fits⟩⟩
    case disabled => exact stored (doPlaneSet_disabled hn hf he)
    case outOfRange =>
      exact answers_planeSet_refused h (doPlaneSet_outOfRange hn hf he (Bool.eq_false_iff.2 (mt hranges.1 hr)))
    case noTiming =>
      exact answers_planeSet_refused h (doPlaneSet_noTiming hn hf he (hranges.2 hr) (by rw [arriveAs_scan, ht]))
    all_goals have timed := doPlaneSet_timed hn hf he (hranges.2 hr) (s := arriveAs 4 r s) (by rw [arriveAs_scan, ht])
    case outside => exact answers_planeSet_refused h (timed.trans (if_neg (mt (hinside t).1 hi)))
    case fits => exact stored (timed.trans (if_pos ((hinside t).2 hi)))

/-! ### The presence inputs (R23) -/

/-- A step that is made even while the part is held answers its effect. -/
theorem answers_of_next {i : Instr} {s u : State} (he : exec i s = .next (settle u)) : Answers i s u :=
  ⟨settle u, he, settle_decided u⟩

/-- After every reset each presence input is ABSENT and its timer runs (R23). -/
theorem blocksReset_link (o : Rear) (phase : Phase) (straps : Straps) (mem : List Host.Cell) (rev rlp rrp : Bool)
    (waiting : Option Request) (free : Nat) (pending : List Instr) :
    let t := State.blocksReset phase straps mem rev rlp rrp waiting free pending
    (t.links.get o).present = false ∧ (t.links.get o).timer = some 100 := by
  cases o <;> exact ⟨rfl, rfl⟩

theorem doLinkChange_differing {o : Rear} {level : Bool} {s : State} (h : level ≠ (s.links.get o).level) :
    doLinkChange o level s =
      { s with links := s.links.set o { s.links.get o with level := level, timer := some 100 } } := by
  simp [doLinkChange, h.symm, Config.linkMs]

/-- A presence input's state once its timer has expired: the level is the debounced state and the timer is at rest (R23). -/
def takePresence (o : Rear) (s : State) : State :=
  { s with links := s.links.set o { s.links.get o with present := (s.links.get o).level, timer := none } }

theorem linkExpiry_equal {o : Rear} {s : State} (ht : (s.links.get o).timer = some 0)
    (h : (s.links.get o).level = (s.links.get o).present) : linkExpiry o s = takePresence o s := by
  simp [linkExpiry, ht, h, raiseIf, takePresence]

theorem linkExpiry_differing {o : Rear} {s : State} (ht : (s.links.get o).timer = some 0)
    (h : (s.links.get o).level ≠ (s.links.get o).present) :
    linkExpiry o s = raise (linkKind o) (if (s.links.get o).level then 1 else 0) 0 (takePresence o s) := by
  have hd : BitVec.ofNat 32 (ofBool (s.links.get o).level) = if (s.links.get o).level then 1 else 0 := by
    cases (s.links.get o).level <;> rfl
  simp [linkExpiry, ht, h, raiseIf, takePresence, hd]

/-! ### The REV input (R60) -/

theorem doRevChange_differing {level : Bool} {s : State} (h : level ≠ s.rvc.rev) :
    doRevChange level s = { s with rvc := { s.rvc with rev := level, revTimer := some 20 } } := by
  simp [doRevChange, h.symm, State.setRvc, Config.revMs]

theorem revExpiry_equal {s : State} (ht : s.rvc.revTimer = some 0) (h : s.rvc.rev = s.rvc.debounced) :
    revExpiry s = { s with rvc := { s.rvc with revTimer := none } } := by
  simp [revExpiry, ht, h, State.setRvc]

theorem revExpiry_differing {s : State} (ht : s.rvc.revTimer = some 0) (h : s.rvc.rev ≠ s.rvc.debounced) :
    revExpiry s = evaluateR { s with rvc := { s.rvc with revTimer := none, debounced := s.rvc.rev },
                                     seu := { s.seu with dirty := true } } := by
  simp [revExpiry, ht, h, State.setRvc, State.markDirty]

/-- Settles O15: the values after a reset hold by definition; for each of the two kinds of input the rest are the equations of
its change and of its expiry. -/
theorem stabilityTimers : Obligations.StabilityTimers := by
  refine ⟨⟨blocksReset_link, ?presence⟩, ⟨fun _ _ _ _ _ _ _ _ _ => ⟨rfl, rfl⟩, ?rev⟩⟩
  case presence =>
    rintro o s x rfl
    refine ⟨fun level hl => answers_of_next (congrArg (Host.Outcome.next ∘ settle) (doLinkChange_differing hl)), ?_⟩
    intro hs ht
    refine answers_of_live (f := linkExpiry o) rfl hs ?_
    split
    · next h => exact linkExpiry_equal ht h
    · next h => exact linkExpiry_differing ht h
  case rev =>
    intro s
    refine ⟨fun level hl => answers_of_next (congrArg (Host.Outcome.next ∘ settle) (doRevChange_differing hl)), ?_⟩
    intro hs ht
    exact ⟨fun h => answers_of_live rfl hs (revExpiry_equal ht h), fun h => answers_of_live rfl hs (revExpiry_differing ht h)⟩

end Sys2Proof.Proofs
end

section
/-! PROOFS. Film presentation (02_film_presentation.md): FILM_BUFFERS, FILM_CLOCK and FILM_ROUTE (R26, R28, R31), and FILM_POST and
FILM_FLUSH with the masks of FREE buffers (R25, R30, R35, R36). -/

namespace Sys2Proof.Proofs

open Sys2Proof.Machine Sys2Proof.Safety

/-! ### What a film command stores passes the arrival of its record -/

@[simp] theorem arriveAs_fqu (k : Byte) (r : Rec) (s : State) : (arriveAs k r s).fqu = s.fqu := by
  rw [arriveAs_eq]

theorem arriveAs_setFqu (k : Byte) (r : Rec) (q : Fqu) (s : State) :
    arriveAs k r (s.setFqu q) = (arriveAs k r s).setFqu q := by
  rw [arriveAs_eq, arriveAs_eq]; rfl

/-- A raise reads neither the command in execution nor the memory's holder. -/
theorem arriveAs_raise (k : Byte) (r : Rec) (e : EvKind) (d a : Word) (s : State) :
    arriveAs k r (raise e d a s) = raise e d a (arriveAs k r s) := by
  rw [arriveAs_eq, arriveAs_eq]; rfl

theorem markEnded_setFqu (q : Fqu) (s : State) : markEnded (s.setFqu q) = (markEnded s).setFqu q := by
  rw [markEnded_state, markEnded_state]; rfl

@[simp] theorem markEnded_memSize (s : State) : (markEnded s).memSize = s.memSize := by
  simp [State.memSize]

/-- Status-dirty set twice is set. -/
theorem finish_markDirty (code d : Word) (s : State) : finish code d s.markDirty = finish code d s := rfl

/-- The record step neither reads nor sets status-dirty. -/
theorem placeRecord_dirty (k : EvKind) (ws : List Word) (e : Seu) (b : Bool) :
    ({ e with dirty := b } : Seu).placeRecord k ws = { e.placeRecord k ws with dirty := b } := by
  have full : ({ e with dirty := b } : Seu).ringFull = e.ringFull := rfl
  unfold Seu.placeRecord
  rw [full]
  split_ifs <;> rfl

/-- A raise sets status-dirty whether or not it was set. -/
theorem raise_markDirty (k : EvKind) (d a : Word) (s : State) : raise k d a s.markDirty = raise k d a s := by
  have flags : s.markDirty.seu.setKind k = { s.seu.setKind k with dirty := true } := rfl
  rw [raise, flags, placeRecord_dirty]
  rfl

/-- A command may raise before or after it sets status-dirty. -/
theorem finish_raiseIf_markDirty (code x d a : Word) (k : EvKind) (n : Nat) (s : State) :
    finish code x (raiseIf (decide (n ≠ 0)) k d a s.markDirty) = finish code x (if n = 0 then s else raise k d a s) := by
  by_cases h : n = 0
  · simp [h, raiseIf_false, finish_markDirty]
  · simp [h, raiseIf_true, raise_markDirty]

section
variable {i : Instr} {k : Byte} {r : Rec} {f : Rec → State → State} {s : State} {code d : Word}

/-- A command that completes as its record arrives, on top of an effect that the arrival does not disturb. -/
theorem answers_completed {g : State → State} (he : exec i s = live (onArrival k r f) s) (h : Arrives s)
    (hg : arriveAs k r (g s) = g (arriveAs k r s)) (hf : f r (arriveAs k r s) = finish code d (g (arriveAs k r s))) :
    Answers i s (completed k r code d (g s)) :=
  answers_of_arrival he h (by rw [hf, completed, hg])

theorem answers_refused (he : exec i s = live (onArrival k r f) s) (h : Arrives s)
    (hf : f r (arriveAs k r s) = finish code d (arriveAs k r s)) : Answers i s (completed k r code d s) :=
  answers_completed (g := id) he h rfl hf

theorem answers_setFqu {q : Fqu} (he : exec i s = live (onArrival k r f) s) (h : Arrives s)
    (hf : f r (arriveAs k r s) = finish code d ((arriveAs k r s).setFqu q)) :
    Answers i s (completed k r code d { s with fqu := q }) :=
  answers_completed (g := State.setFqu q) he h (arriveAs_setFqu k r q s) hf

end

/-! ### FREE buffers and masks of buffers (R25, R35) -/

/-- A buffer is FREE when it is none of queued, current and latched (R25). -/
theorem bufFree_iff (q : Fqu) (src : FilmSource) (i : Nat) :
    q.bufFree src i = true ↔ (∀ e ∈ (q.film src).queue, e.buf ≠ i) ∧ (∀ c, (q.film src).current = some c → c.1 ≠ i) ∧
      ∀ o, (q.rear.get o).latched ≠ some (src, i) := by
  have rears : (∀ o, (q.rear.get o).latched ≠ some (src, i)) ↔
      q.rear.rl.latched ≠ some (src, i) ∧ q.rear.rr.latched ≠ some (src, i) :=
    ⟨fun h => ⟨h .rl, h .rr⟩, fun h o => by cases o; exacts [h.1, h.2]⟩
  have current : ((q.film src).current.map Prod.fst ≠ some i) ↔ ∀ c, (q.film src).current = some c → c.1 ≠ i := by
    simp only [ne_eq, Option.map_eq_some_iff, not_exists, not_and]
  rw [rears, ← current]
  simp [Fqu.bufFree, RearFilm.latches, and_assoc]

/-- A mask of the buffers with a property has the bits of exactly those. -/
theorem testBit_mask (n : Nat) (p : Nat → Bool) (i : Nat) :
    (((List.range n).filter p).map fun j => 2 ^ j).sum.testBit i = (decide (i < n) && p i) := by
  have sorted : ((List.range n).filter p).SortedLT := (List.pairwise_lt_range.filter p).sortedLT
  rw [Bool.eq_iff_iff, ← Nat.mem_bitIndices, Nat.bitIndices_sum_map_two_pow sorted]
  simp

theorem testBit_freedMask (q q' : Fqu) (src : FilmSource) (i : Nat) :
    (freedMask q q' src).testBit i = (decide (i < (q'.film src).bases.length) && q'.bufFree src i && !q.bufFree src i) := by
  rw [freedMask, testBit_mask, Bool.and_assoc]

/-- Where every buffer is FREE the mask has all the bits. -/
theorem freeMask_of_all_free {q : Fqu} {src : FilmSource} (h : ∀ i, q.bufFree src i = true) :
    q.freeMask src = 2 ^ (q.film src).bases.length - 1 := by
  refine Nat.eq_of_testBit_eq fun i => ?_
  rw [Fqu.freeMask, testBit_mask, h, Bool.and_true, Nat.testBit_two_pow_sub_one]

/-! ### FILM_BUFFERS (R26) -/

theorem sourceOk_iff (s : State) (a : Word) (n : Nat) : sourceOk s.memSize a.toNat n = true ↔ SourceFits s a n := by
  simp [sourceOk, SourceFits]

section
variable {r : Rec} {s : State} {src : FilmSource}

theorem doFilmBuffers_noSource (ht : filmOf r.target = none) : doFilmBuffers r s = finish resBadParam 0 s := by
  simp [doFilmBuffers, ht]

theorem doFilmBuffers_notIdle (ht : filmOf r.target = some src) (hi : s.fqu.idle src = false) :
    doFilmBuffers r s = finish resWrongState 0 s := by
  simp [doFilmBuffers, ht, hi]

theorem doFilmBuffers_sourceErr (ht : filmOf r.target = some src) (hi : s.fqu.idle src = true)
    (hs : ¬SourceFits s r.op1 48) : doFilmBuffers r s = finish resSourceErr 0 s := by
  simp [doFilmBuffers, ht, hi, mt (sourceOk_iff s r.op1 48).1 hs]

theorem doFilmBuffers_reads (ht : filmOf r.target = some src) (hi : s.fqu.idle src = true) (hs : SourceFits s r.op1 48) :
    doFilmBuffers r s = beginRead (burstsOf r.op1.toNat 12) s := by
  simp [doFilmBuffers, ht, hi, (sourceOk_iff s r.op1 48).2 hs]

end

/-- The checks on a buffer table that has been read (R26). -/
def FilmTableOk (memSize : Nat) (ws : List Word) : Prop :=
  let n := (wordAt ws 0).toNat
  let width := (wordAt ws 1).toNat
  let height := (wordAt ws 2).toNat
  let pitch := (wordAt ws 3).toNat
  let base := fun i => (wordAt ws (4 + i)).toNat
  (1 ≤ n ∧ n ≤ 8) ∧ (64 ≤ width ∧ width ≤ 1920 ∧ width % 2 = 0) ∧ (64 ≤ height ∧ height ≤ 1080) ∧
    (pitch % 64 = 0 ∧ 2 * width ≤ pitch) ∧ ∀ i < n, base i % 64 = 0 ∧ base i + pitch * height ≤ memSize

/-- The bases a buffer table lists. -/
def tableBases (ws : List Word) : List Nat := (List.range (wordAt ws 0).toNat).map fun i => (wordAt ws (4 + i)).toNat

/-- A source with the table installed: its bases, its size and its pitch. -/
def withTable (ws : List Word) (f : Film) : Film :=
  { f with bases := tableBases ws, width := (wordAt ws 1).toNat, height := (wordAt ws 2).toNat, pitch := (wordAt ws 3).toNat }

theorem filmTableOf_good {memSize : Nat} {ws : List Word} (h : FilmTableOk memSize ws) : filmTableOf memSize ws =
    some (tableBases ws, (wordAt ws 1).toNat, (wordAt ws 2).toNat, (wordAt ws 3).toNat) := by
  obtain ⟨⟨hn1, hn8⟩, ⟨hw64, hw1920, hw2⟩, ⟨hh64, hh1080⟩, ⟨hp64, hpw⟩, hbases⟩ := h
  rw [filmTableOf, if_pos ⟨hn1, hn8, hw64, hw1920, hw2, hh64, hh1080, hp64, hpw⟩, if_pos (by simpa using hbases)]
  rfl

theorem filmTableOf_bad {memSize : Nat} {ws : List Word} (h : ¬FilmTableOk memSize ws) : filmTableOf memSize ws = none := by
  unfold filmTableOf
  extract_lets n width height pitch bases
  split
  · next hsizes =>
    obtain ⟨hn1, hn8, hw64, hw1920, hw2, hh64, hh1080, hp64, hpw⟩ := hsizes
    refine if_neg fun hbases => h ⟨⟨hn1, hn8⟩, ⟨hw64, hw1920, hw2⟩, ⟨hh64, hh1080⟩, ⟨hp64, hpw⟩, ?_⟩
    simpa [bases] using hbases
  · rfl

section
variable {ws : List Word} {s : State} {src : FilmSource}

theorem filmTableRead_bad (hbad : ¬FilmTableOk s.memSize ws) : filmTableRead ws s = finish resBadParam 0 s := by
  simp [filmTableRead, filmTableOf_bad hbad]

/-- Every buffer of the table is FREE where none of the source was queued, current or latched. -/
theorem filmTableRead_good (ht : filmOf s.cmu.cmd.fields.target = some src) (hgood : FilmTableOk s.memSize ws)
    (hfree : ∀ i, s.fqu.bufFree src i = true) :
    filmTableRead ws s = finish resDone (BitVec.ofNat 32 (2 ^ (wordAt ws 0).toNat - 1))
      (s.setFqu (s.fqu.setFilm src (withTable ws (s.fqu.film src)))) := by
  have mask : (s.fqu.setFilm src (withTable ws (s.fqu.film src))).freeMask src = 2 ^ (wordAt ws 0).toNat - 1 := by
    rw [freeMask_of_all_free fun i => ?free, Fqu.film_setFilm]
    · simp [withTable, tableBases]
    case free =>
      rw [← hfree i]
      simp [Fqu.bufFree, withTable]
  rw [← mask]
  simp [filmTableRead, ht, filmTableOf_good hgood, finish_markDirty, withTable]

end

/-! ### FILM_CLOCK (R28) -/

section
variable {r : Rec} {s : State} {src : FilmSource}

theorem doFilmClock_outOfRange (h : filmOf r.target = none ∨ 1 < r.op2.toNat) : doFilmClock r s = finish resBadParam 0 s := by
  unfold doFilmClock
  split
  · rfl
  · next ht => exact if_pos (h.resolve_left (by simp [ht]))

/-- The clock FILM_CLOCK leaves: its own count where the keep-value flag is set, else the value. -/
def clockAfter (r : Rec) (f : Film) : Word := if r.op3.getLsbD 0 then f.clock else r.op1

theorem doFilmClock_inRange (ht : filmOf r.target = some src) (hp : r.op2.toNat ≤ 1) :
    doFilmClock r s = finish resDone (clockAfter r (s.fqu.film src))
      (s.setFqu (s.fqu.setFilm src
        { s.fqu.film src with clock := clockAfter r (s.fqu.film src), playing := decide (r.op2 = 1) })) := by
  simp only [doFilmClock, ht, if_neg (Nat.not_lt.2 hp), finish_markDirty]
  rfl

end

/-! ### FILM_ROUTE (R31) -/

/-- The source a route operand in range names. -/
def routeSource (w : Word) : Option FilmSource := if w = 0 then some .a else if w = 1 then some .b else none

/-- The routes of a rear output as FILM_ROUTE leaves them: the pending one, and the current one too where it is STOPPED. -/
def rerouted (st : OutState) (src : Option FilmSource) (x : RearFilm) : RearFilm :=
  if st = .stopped then { x with route := src, pending := src } else { x with pending := src }

section
variable {r : Rec} {s : State} {o : Rear}

theorem doFilmRoute_outOfRange (h : rearOf r.target = none ∨ 2 < r.op1.toNat) : doFilmRoute r s = finish resBadParam 0 s := by
  rcases h with ht | hs
  · simp [doFilmRoute, ht]
  · have h0 : r.op1.toNat ≠ 0 := by omega
    have h1 : r.op1.toNat ≠ 1 := by omega
    have h2 : r.op1.toNat ≠ 2 := by omega
    -- With the three codes excluded the operand names no source.
    simp [doFilmRoute]

theorem doFilmRoute_inRange (ht : rearOf r.target = some o) (hs : r.op1.toNat ≤ 2) :
    doFilmRoute r s = finish resDone 0
      (s.setFqu (s.fqu.setRear o (rerouted (s.scan (rearOutput o)).st (routeSource r.op1) (s.fqu.rear.get o)))) := by
  have codes : r.op1 = 0 ∨ r.op1 = 1 ∨ r.op1 = 2 := by bv_omega
  rcases codes with h | h | h <;> cases hst : (s.scan (rearOutput o)).st <;>
    simp [doFilmRoute, ht, h, hst, rerouted, routeSource, finish_markDirty]

end

/-! ### FILM_POST (R30) -/

/-- The entry that a post would append is due before the newest one. -/
def PostsEarly (r : Rec) (f : Film) : Prop := ∃ e, f.queue.getLast? = some e ∧ r.op2 < e.due

theorem postsEarly_iff (r : Rec) (f : Film) :
    PostsEarly r f ↔ (f.queue.getLast?.map fun e => decide (r.op2 < e.due)) = some true := by
  simp [PostsEarly, Option.map_eq_some_iff]

/-- A source with the entry of a post joined to the tail of its queue and its flag armed. -/
def posted (r : Rec) (f : Film) : Film :=
  { f with queue := f.queue ++ [⟨r.op1.toNat, r.op2, r.op3.setWidth 16⟩], armed := true }

section
variable {r : Rec} {s : State} {src : FilmSource}

theorem doFilmPost_noSource (ht : filmOf r.target = none) : doFilmPost r s = finish resBadParam 0 s := by
  simp [doFilmPost, ht]

theorem doFilmPost_full (ht : filmOf r.target = some src) (hl : 8 ≤ (s.fqu.film src).queue.length) :
    doFilmPost r s = finish resFull 0 s := by
  simp [doFilmPost, ht, hl]

theorem doFilmPost_noBuffer (ht : filmOf r.target = some src) (hl : (s.fqu.film src).queue.length < 8)
    (hi : (s.fqu.film src).bases.length ≤ r.op1.toNat) : doFilmPost r s = finish resBadParam 0 s := by
  simp [doFilmPost, ht, Nat.not_le.2 hl, hi]

theorem doFilmPost_busy (ht : filmOf r.target = some src) (hl : (s.fqu.film src).queue.length < 8)
    (hi : r.op1.toNat < (s.fqu.film src).bases.length) (hf : s.fqu.bufFree src r.op1.toNat = false) :
    doFilmPost r s = finish resBusy 0 s := by
  simp [doFilmPost, ht, Nat.not_le.2 hl, Nat.not_le.2 hi, hf]

theorem doFilmPost_early (ht : filmOf r.target = some src) (hl : (s.fqu.film src).queue.length < 8)
    (hi : r.op1.toNat < (s.fqu.film src).bases.length) (hf : s.fqu.bufFree src r.op1.toNat = true)
    (he : PostsEarly r (s.fqu.film src)) : doFilmPost r s = finish resBadParam 0 s := by
  simp only [doFilmPost, ht, if_neg (Nat.not_le.2 hl), if_neg (Nat.not_le.2 hi), hf, if_pos ((postsEarly_iff ..).1 he)]
  rfl

theorem doFilmPost_accepted (ht : filmOf r.target = some src) (hl : (s.fqu.film src).queue.length < 8)
    (hi : r.op1.toNat < (s.fqu.film src).bases.length) (hf : s.fqu.bufFree src r.op1.toNat = true)
    (he : ¬PostsEarly r (s.fqu.film src)) :
    doFilmPost r s = finish resDone (BitVec.ofNat 32 ((s.fqu.film src).queue.length + 1))
      (s.setFqu (s.fqu.setFilm src (posted r (s.fqu.film src)))) := by
  simp only [doFilmPost, ht, if_neg (Nat.not_le.2 hl), if_neg (Nat.not_le.2 hi), hf,
    if_neg (mt (postsEarly_iff ..).2 he), finish_markDirty, posted, List.length_append, List.length_singleton]
  rfl

end

/-! ### FILM_FLUSH (R36) -/

/-- A film source emptied: its queue, and its current buffer where the blank flag is set. -/
def flushedQueue (src : FilmSource) (blank : Bool) (q : Fqu) : Fqu :=
  q.setFilm src { q.film src with queue := [], current := if blank then none else (q.film src).current }

/-- The effect of FILM_FLUSH, with FILM_FREE where a buffer became FREE. -/
def flushFilm (src : FilmSource) (blank : Bool) (s : State) : State :=
  let q := flushedQueue src blank s.fqu
  let mask := freedMask s.fqu q src
  if mask = 0 then s.setFqu q else raise (freeKind src) (BitVec.ofNat 32 mask) 2 (s.setFqu q)

theorem arriveAs_flushFilm (k : Byte) (r : Rec) (src : FilmSource) (blank : Bool) (s : State) :
    arriveAs k r (flushFilm src blank s) = flushFilm src blank (arriveAs k r s) := by
  simp only [flushFilm, arriveAs_fqu]
  split
  · rw [arriveAs_setFqu]
  · rw [arriveAs_raise, arriveAs_setFqu]

section
variable {r : Rec} {s : State} {src : FilmSource}

theorem doFilmFlush_noSource (ht : filmOf r.target = none) : doFilmFlush r s = finish resBadParam 0 s := by
  simp [doFilmFlush, ht]

theorem doFilmFlush_source (ht : filmOf r.target = some src) :
    doFilmFlush r s = finish resDone (BitVec.ofNat 32 (freedMask s.fqu (flushedQueue src (r.op1.getLsbD 0) s.fqu) src))
      (flushFilm src (r.op1.getLsbD 0) s) := by
  simp only [doFilmFlush, ht, finish_raiseIf_markDirty]
  rfl

end

/-! ### The obligations -/

/-- Settles O16: each clause is the equation of its command for it; the checks on a table that has been read are `FilmTableOk`, and
the mask of the installed table is full because none of its buffers is queued, current or latched. -/
theorem filmTablesClockAndRoute : Obligations.FilmTablesClockAndRoute := by
  refine ⟨⟨fun r s h => ⟨?noSource, fun src ht => ⟨?notIdle, ?sourceErr, ?reads⟩⟩, fun ws s src h ht => ?readEnd⟩,
    fun r s h => ⟨?clockOut, ?clockSet⟩, fun r s h => ⟨?routeOut, ?routeSet⟩⟩
  case noSource => exact fun ht => answers_refused rfl h (doFilmBuffers_noSource ht)
  case notIdle => exact fun hi => answers_refused rfl h (doFilmBuffers_notIdle ht (by rwa [arriveAs_fqu]))
  case sourceErr =>
    exact fun hi hs => answers_refused rfl h
      (doFilmBuffers_sourceErr ht (by rwa [arriveAs_fqu]) (by rwa [SourceFits, arriveAs_memSize]))
  case reads =>
    exact fun hi hs => answers_of_arrival rfl h
      (doFilmBuffers_reads ht (by rwa [arriveAs_fqu]) (by rwa [SourceFits, arriveAs_memSize]))
  case readEnd =>
    intro n width height pitch base good
    refine ⟨fun hbad => ?bad, fun hgood hqueue hcurrent hlatched => ?good⟩
    case bad => exact answers_of_readEnd rfl h (filmTableRead_bad (by rwa [markEnded_memSize]))
    case good =>
      have free (i : Nat) : s.fqu.bufFree src i = true := by
        refine (bufFree_iff s.fqu src i).2 ⟨?_, ?_, fun o => hlatched o i⟩
        · simp [hqueue]
        · simp [hcurrent]
      have read := filmTableRead_good (s := markEnded s) (by rwa [markEnded_cmu]) (by rwa [markEnded_memSize])
        (by rwa [markEnded_fqu])
      rw [markEnded_fqu, ← markEnded_setFqu] at read
      exact answers_of_readEnd rfl h read
  case clockOut => exact fun hbad => answers_refused rfl h (doFilmClock_outOfRange hbad)
  case clockSet =>
    rintro src ht hp c rfl
    have stored := doFilmClock_inRange (s := arriveAs 13 r s) ht hp
    rw [arriveAs_fqu] at stored
    exact answers_setFqu rfl h stored
  case routeOut => exact fun hbad => answers_refused rfl h (doFilmRoute_outOfRange hbad)
  case routeSet =>
    intro o ht hp src
    have stored := doFilmRoute_inRange (s := arriveAs 12 r s) ht hp
    rw [arriveAs_fqu, arriveAs_scan] at stored
    refine ⟨fun hst => ?_, fun hst => ?_⟩
    · rw [rerouted, if_neg hst] at stored
      exact answers_setFqu rfl h stored
    · rw [rerouted, if_pos hst] at stored
      exact answers_setFqu rfl h stored

/-- Settles O17: each clause of FILM_POST and of FILM_FLUSH is the command's equation for it; a mask has bit i exactly for the
buffers it filters. -/
theorem filmPostAndFlush : Obligations.FilmPostAndFlush := by
  refine ⟨fun r s h => ⟨?postNoSource, ?post⟩, fun r s h => ⟨?flushNoSource, ?flush⟩,
    fun q q' src i => ⟨bufFree_iff q src i, testBit_freedMask q q' src i⟩⟩
  case postNoSource => exact fun ht => answers_refused rfl h (doFilmPost_noSource ht)
  case post =>
    rintro src ht f rfl i early
    have fqu : (arriveAs 10 r s).fqu = s.fqu := arriveAs_fqu 10 r s
    refine ⟨fun hl => ?full, fun hl hi => ?noBuffer, fun hl hi hf => ?busy, fun hl hi hf he => ?early, fun hl hi hf he => ?accepted⟩
    case full => exact answers_refused rfl h (doFilmPost_full ht (by rwa [fqu]))
    case noBuffer => exact answers_refused rfl h (doFilmPost_noBuffer ht (by rwa [fqu]) (by rwa [fqu]))
    case busy => exact answers_refused rfl h (doFilmPost_busy ht (by rwa [fqu]) (by rwa [fqu]) (by rwa [fqu]))
    case early =>
      exact answers_refused rfl h
        (doFilmPost_early ht (by rwa [fqu]) (by rwa [fqu]) (by rwa [fqu]) (by rwa [fqu]))
    case accepted =>
      have stored := doFilmPost_accepted (s := arriveAs 10 r s) ht (by rwa [fqu]) (by rwa [fqu]) (by rwa [fqu]) (by rwa [fqu])
      rw [fqu] at stored
      exact answers_setFqu rfl h stored
  case flushNoSource => exact fun ht => answers_refused rfl h (doFilmFlush_noSource ht)
  case flush =>
    rintro src ht f rfl q mask
    refine ⟨?_, fun i hi8 hi => ?_⟩
    · have flush := doFilmFlush_source (s := arriveAs 11 r s) ht
      rw [arriveAs_fqu] at flush
      exact answers_completed rfl h (arriveAs_flushFilm 11 r src _ s) flush
    · have bases : (q.film src).bases = (s.fqu.film src).bases := by simp [q]
      have word : i < 32 := by omega
      rw [BitVec.getLsbD_ofNat, testBit_freedMask, bases]
      simp [hi, word, and_comm]

end Sys2Proof.Proofs
end

section
/-! PROOFS. Frame memory arbitration (08_frame_memory_arbitration.md): ARB_PROFILE check by check (R145). -/

namespace Sys2Proof.Proofs

open Sys2Proof.Machine Sys2Proof.Safety

/-! ### Six byte fields of a record, and client codes (R138, 11_memory_resident_formats) -/

/-- Byte `i` of the two words that hold six byte fields. -/
def byteField (lo hi : Word) (i : Nat) : Nat := if i < 4 then field lo (8 * i) 8 else field hi (8 * (i - 4)) 8

theorem sixBytes_eq_map (lo hi : Word) : sixBytes lo hi = (List.range 6).map (byteField lo hi) := rfl

theorem sixBytes_take_three (lo hi : Word) : (sixBytes lo hi).take 3 = (List.range 3).map (byteField lo hi) := rfl

theorem mem_sixBytes {lo hi : Word} {n : Nat} : n ∈ sixBytes lo hi ↔ ∃ i < 6, byteField lo hi i = n := by
  simp [sixBytes_eq_map]

theorem mem_sixBytes_take_three {lo hi : Word} {n : Nat} :
    n ∈ (sixBytes lo hi).take 3 ↔ ∃ i < 3, byteField lo hi i = n := by
  simp [sixBytes_take_three]

theorem clientOf_code (c : Client) : clientOf c.code = some c := by
  cases c <;> rfl

theorem code_lt_six (c : Client) : c.code < 6 := by
  cases c <;> decide

theorem code_of_clientOf {n : Nat} {c : Client} (h : clientOf n = some c) : c.code = n := by
  unfold clientOf at h
  split at h <;> cases h <;> rfl

theorem code_injective : Function.Injective Client.code := fun c d h =>
  Option.some.inj (by rw [← clientOf_code c, h, clientOf_code])

/-- The clients are read back from their codes. -/
theorem filterMap_clientOf_map_code (cs : List Client) : (cs.map Client.code).filterMap clientOf = cs := by
  simp [List.filterMap_map, clientOf_code]

/-- Reading clients from codes drops the codes of no client and keeps the rest in their order. -/
theorem map_code_filterMap_sublist (ns : List Nat) : ((ns.filterMap clientOf).map Client.code).Sublist ns := by
  induction ns with
  | nil => exact List.Sublist.refl _
  | cons n ns ih =>
    cases h : clientOf n with
    | none => simpa [h] using ih.cons n
    | some c => simpa [h, code_of_clientOf h] using ih.cons_cons n

/-! ### The order of a record (R145 check 2) -/

/-- The clients that the order codes of an ARB_PROFILE record name. -/
def orderOf (r : Rec) : List Client := (sixBytes r.op2 r.op3).filterMap clientOf

/-- Six different clients are all six of them. -/
theorem map_code_perm_range {cs : List Client} (hl : cs.length = 6) (hn : cs.Nodup) : (cs.map Client.code).Perm (List.range 6) := by
  have nodup : (cs.map Client.code).Nodup := hn.map code_injective
  have inRange : cs.map Client.code ⊆ List.range 6 := fun n hm => by
    obtain ⟨c, -, rfl⟩ := List.mem_map.1 hm
    exact List.mem_range.2 (code_lt_six c)
  exact (List.subperm_of_subset nodup inRange).perm_of_length_le (by simp [hl])

/-- The order names six different clients exactly where each of the codes 0 to 5 stands among the six. -/
theorem orderOf_eachOnce_iff (r : Rec) :
    (orderOf r).length = 6 ∧ (orderOf r).Nodup ↔ ∀ k < 6, ∃ i < 6, byteField r.op2 r.op3 i = k := by
  constructor
  · rintro ⟨hl, hn⟩ k hk
    have named : k ∈ (orderOf r).map Client.code := (map_code_perm_range hl hn).mem_iff.2 (List.mem_range.2 hk)
    exact mem_sixBytes.1 ((map_code_filterMap_sublist _).subset named)
  · intro each
    have all : List.range 6 ⊆ sixBytes r.op2 r.op3 := fun k hk => mem_sixBytes.2 (each k (List.mem_range.1 hk))
    have codes : (List.range 6).Perm (sixBytes r.op2 r.op3) :=
      (List.subperm_of_subset List.nodup_range all).perm_of_length_le (by simp [sixBytes])
    have clients : ((List.range 6).filterMap clientOf).Perm (orderOf r) := codes.filterMap clientOf
    exact ⟨clients.length_eq.symm, clients.nodup_iff.1 (by decide)⟩

/-- An order of six clients has the codes of the record. -/
theorem map_code_orderOf {r : Rec} (hl : (orderOf r).length = 6) : (orderOf r).map Client.code = sixBytes r.op2 r.op3 :=
  (map_code_filterMap_sublist _).eq_of_length ((List.length_map _).trans hl)

theorem mem_orderOf_take_three {r : Rec} (hl : (orderOf r).length = 6) (c : Client) :
    c ∈ (orderOf r).take 3 ↔ ∃ i < 3, byteField r.op2 r.op3 i = c.code := by
  rw [← mem_sixBytes_take_three, ← map_code_orderOf hl, ← List.map_take, List.mem_map_of_injective code_injective]

/-! ### The profile a record holds (R144, R145) -/

theorem perClient_ext {α : Type} {p q : PerClient α} (h : ∀ c, p.get c = q.get c) : p = q := by
  cases p
  cases q
  simp only [PerClient.mk.injEq]
  exact ⟨h .proc, h .scanC, h .scanL, h .scanR, h .capt, h .serv⟩

/-- The profile that an ARB_PROFILE record holds, one ceiling for each client by its code. -/
def profileOf (r : Rec) : Profile := ⟨orderOf r, PerClient.build fun c => byteField r.op4 r.op5 c.code⟩

theorem eq_profileOf {r : Rec} {p : Profile} (ho : p.order.map Client.code = sixBytes r.op2 r.op3)
    (hc : ∀ c, p.ceil.get c = byteField r.op4 r.op5 c.code) : p = profileOf r := by
  have order : p.order = orderOf r := by rw [orderOf, ← ho, filterMap_clientOf_map_code]
  have ceil : p.ceil = (profileOf r).ceil := perClient_ext fun c => by rw [hc, profileOf, PerClient.get_build]
  calc p = ⟨p.order, p.ceil⟩ := rfl
    _ = profileOf r := by rw [order, ceil]; rfl

/-- The named profile replaced: name 1 is REVERSE, any other NORMAL. -/
def replaceProfile (name : Word) (p : Profile) (s : State) : State :=
  { s with fma := if name = 1 then { s.fma with reverse := p } else { s.fma with normal := p } }

theorem arriveAs_replaceProfile (k : Byte) (r : Rec) (name : Word) (p : Profile) (s : State) :
    arriveAs k r (replaceProfile name p s) = replaceProfile name p (arriveAs k r s) := by
  rw [arriveAs_eq, arriveAs_eq, replaceProfile, replaceProfile]
  split <;> rfl

/-! ### ARB_PROFILE, one equation for each way it ends (R145) -/

/-- Each of the codes 0 to 5 exactly once (check 2). -/
abbrev OrderOk (r : Rec) : Prop := (orderOf r).length = 6 ∧ (orderOf r).Nodup

/-- Each ceiling 0 to 31 (check 3). -/
abbrev CeilsOk (r : Rec) : Prop := ∀ x ∈ sixBytes r.op4 r.op5, x ≤ 31

/-- CAPT and SCAN_C among the first three (check 4). -/
abbrev FrontOk (r : Rec) : Prop := Client.capt ∈ (orderOf r).take 3 ∧ Client.scanC ∈ (orderOf r).take 3

theorem ceilsOk_iff (r : Rec) : CeilsOk r ↔ ∀ i < 6, byteField r.op4 r.op5 i ≤ 31 := by
  simp [CeilsOk, sixBytes_eq_map]

theorem frontOk_iff {r : Rec} (h : OrderOk r) :
    FrontOk r ↔ (∃ i < 3, byteField r.op2 r.op3 i = 4) ∧ ∃ i < 3, byteField r.op2 r.op3 i = 1 :=
  and_congr (mem_orderOf_take_three h.1 .capt) (mem_orderOf_take_three h.1 .scanC)

theorem word_toNat_eq_one (w : Word) : w.toNat = 1 ↔ w = 1 := by
  rw [← BitVec.toNat_inj]; rfl

/-- The checks of R145 in their order, and the profile replaced. -/
theorem doArbProfile_eq (r : Rec) (s : State) : doArbProfile r s =
    if 1 < r.op1.toNat then finish resBadParam 1 s
    else if ¬OrderOk r then finish resBadParam 2 s
    else if ¬CeilsOk r then finish resBadParam 3 s
    else if r.op1 = 1 ∧ ¬FrontOk r then finish resBadParam 4 s
    else finish resDone 0 (replaceProfile r.op1 (profileOf r) s) := by
  have ceilings : ((sixBytes r.op4 r.op5).all fun x => decide (x ≤ 31)) = false ↔ ¬CeilsOk r := by simp
  have replaced : (if r.op1.toNat = 1 then { s with fma := { s.fma with reverse := profileOf r } }
      else { s with fma := { s.fma with normal := profileOf r } }) = replaceProfile r.op1 (profileOf r) s := by
    simp only [replaceProfile, word_toNat_eq_one]
    split <;> rfl
  exact if_congr Iff.rfl rfl <| if_congr not_and_or.symm rfl <| if_congr ceilings rfl <|
    if_congr (and_congr_left' (word_toNat_eq_one _)) rfl (congrArg (fun t => finish resDone 0 t.markDirty) replaced)

section
variable {r : Rec} {s : State}

theorem doArbProfile_noName (hname : 1 < r.op1.toNat) : doArbProfile r s = finish resBadParam 1 s := by
  rw [doArbProfile_eq, if_pos hname]

theorem doArbProfile_badOrder (hname : r.op1.toNat ≤ 1) (ho : ¬OrderOk r) : doArbProfile r s = finish resBadParam 2 s := by
  rw [doArbProfile_eq, if_neg (Nat.not_lt.2 hname), if_pos ho]

theorem doArbProfile_badCeiling (hname : r.op1.toNat ≤ 1) (ho : OrderOk r) (hc : ¬CeilsOk r) :
    doArbProfile r s = finish resBadParam 3 s := by
  rw [doArbProfile_eq, if_neg (Nat.not_lt.2 hname), if_neg (not_not.2 ho), if_pos hc]

theorem doArbProfile_badFront (hname : r.op1 = 1) (ho : OrderOk r) (hc : CeilsOk r) (hf : ¬FrontOk r) :
    doArbProfile r s = finish resBadParam 4 s := by
  rw [doArbProfile_eq, if_neg (by simp [hname]), if_neg (not_not.2 ho), if_neg (not_not.2 hc), if_pos ⟨hname, hf⟩]

theorem doArbProfile_replaces (hname : r.op1.toNat ≤ 1) (ho : OrderOk r) (hc : CeilsOk r) (hf : r.op1 = 1 → FrontOk r) :
    doArbProfile r s = finish resDone 0 (replaceProfile r.op1 (profileOf r) s) := by
  rw [doArbProfile_eq, if_neg (Nat.not_lt.2 hname), if_neg (not_not.2 ho), if_neg (not_not.2 hc),
    if_neg fun h => h.2 (hf h.1)]

end

/-- Settles O49: each clause is the equation of `doArbProfile` for it, its checks read through the record's bytes. -/
theorem arbProfileChecks : Obligations.ArbProfileChecks := by
  intro r s h byte code ceil once ceils front fails
  have order : OrderOk r ↔ once := orderOf_eachOnce_iff r
  have ceilings : CeilsOk r ↔ ceils := ceilsOk_iff r
  have first (ho : once) : FrontOk r ↔ front := frontOk_iff (order.2 ho)
  refine ⟨fun hname => ?name, fun hname ho => ?order, fun hname ho hc => ?ceilings, fun hname ho hc hf => ?front,
    fun hname ho hc hf p hp hpc => ?replaced⟩
  case name => exact answers_refused rfl h (doArbProfile_noName hname)
  case order => exact answers_refused rfl h (doArbProfile_badOrder hname (mt order.1 ho))
  case ceilings => exact answers_refused rfl h (doArbProfile_badCeiling hname (order.2 ho) (mt ceilings.1 hc))
  case front =>
    exact answers_refused rfl h (doArbProfile_badFront hname (order.2 ho) (ceilings.2 hc) (mt (first ho).1 hf))
  case replaced =>
    have held : p = profileOf r := eq_profileOf hp hpc
    rw [held]
    exact answers_completed rfl h (arriveAs_replaceProfile 24 r r.op1 (profileOf r) s)
      (doArbProfile_replaces hname (order.2 ho) (ceilings.2 hc) fun h1 => (first ho).2 (hf h1))

end Sys2Proof.Proofs
end

section
/-! PROOFS. Control area and commands (09_control_area_and_commands.md): CMD_POST case by case (R155), a kind that names no command
(R157), and what completing a command or beginning its read means (R157, R158). -/

namespace Sys2Proof.Proofs

open Sys2Proof.Machine Sys2Proof.Safety

/-! ### Counting records from C (R154, R155) -/

/-- From one index to another, counted round the 256 records of the list. -/
theorem toNat_sub_index (p c : Byte) : (p - c).toNat = (p.toNat + 256 - c.toNat) % 256 := by
  rw [BitVec.toNat_sub]
  omega

/-- A CMD_POST value of at most 255 is the index it names. -/
theorem toNat_postIndex {v : Word} (h : v.toNat ≤ 255) : (v.setWidth 8).toNat = v.toNat := by
  rw [BitVec.toNat_setWidth]
  omega

theorem postIndex_eq_iff {v : Word} (h : v.toNat ≤ 255) (p : Byte) : v.setWidth 8 = p ↔ v.toNat = p.toNat := by
  rw [← BitVec.toNat_inj, toNat_postIndex h]

/-- A value reduces the pending count where it is nearer to C than P is. -/
theorem postIndex_reduces_iff {v : Word} (h : v.toNat ≤ 255) (m : Cmu) :
    v.setWidth 8 - m.c < m.pendingCount ↔ (v.toNat + 256 - m.c.toNat) % 256 < (m.p.toNat + 256 - m.c.toNat) % 256 := by
  rw [BitVec.lt_def, Cmu.pendingCount, toNat_sub_index, toNat_sub_index, toNat_postIndex h]

/-- An index other than P that does not reduce the pending count leaves a record pending. -/
theorem pending_of_not_reduces {q : Byte} {m : Cmu} (hp : q ≠ m.p) (hr : ¬q - m.c < m.pendingCount) : q - m.c ≠ 0 := by
  intro hq
  have noneLeft : m.p - m.c = 0 := by simpa [hq, Cmu.pendingCount] using hr
  exact hp ((sub_eq_zero.1 hq).trans (sub_eq_zero.1 noneLeft).symm)

/-! ### CMD_POST, one equation for each way its take ends (R155) -/

/-- CMD_POST as last taken (R133). -/
def notePost (v : Word) (s : State) : State := s.setTaken fun t => { t with cmdPost := v }

/-- P moved to the index posted. -/
def postTo (p : Byte) (s : State) : State := { s with cmu := { s.cmu with p := p } }.markDirty

theorem takeRecord_reading {s : State} (h : s.cmu.pendingCount ≠ 0) :
    takeRecord s = { s with cmu := { s.cmu with st := .reading } }.markDirty := if_pos h

/-- The checks of R155 in their order; once P has moved, an IDLE CMU takes the record at C. -/
theorem takeCmdPost_eq (v : Word) (s : State) : takeCmdPost v s =
    if 255 < v.toNat then raise .cmdPostBad v 1 (notePost v s)
    else if v.setWidth 8 = s.cmu.p then notePost v s
    else if v.setWidth 8 - s.cmu.c < s.cmu.pendingCount then raise .cmdPostBad v 2 (notePost v s)
    else if s.cmu.st = .idle then takeRecord (postTo (v.setWidth 8) (notePost v s))
    else postTo (v.setWidth 8) (notePost v s) := rfl

section
variable {v : Word} {s : State}

theorem takeCmdPost_above (h : 255 < v.toNat) : takeCmdPost v s = raise .cmdPostBad v 1 (notePost v s) := by
  rw [takeCmdPost_eq, if_pos h]

theorem takeCmdPost_same (h : v.toNat ≤ 255) (hp : v.setWidth 8 = s.cmu.p) : takeCmdPost v s = notePost v s := by
  rw [takeCmdPost_eq, if_neg (Nat.not_lt.2 h), if_pos hp]

theorem takeCmdPost_reduces (h : v.toNat ≤ 255) (hp : v.setWidth 8 ≠ s.cmu.p)
    (hr : v.setWidth 8 - s.cmu.c < s.cmu.pendingCount) :
    takeCmdPost v s = raise .cmdPostBad v 2 (notePost v s) := by
  rw [takeCmdPost_eq, if_neg (Nat.not_lt.2 h), if_neg hp, if_pos hr]

theorem takeCmdPost_posts (h : v.toNat ≤ 255) (hp : v.setWidth 8 ≠ s.cmu.p)
    (hr : ¬v.setWidth 8 - s.cmu.c < s.cmu.pendingCount) :
    takeCmdPost v s = { notePost v s with
      cmu := { s.cmu with p := v.setWidth 8, st := if s.cmu.st = .idle then .reading else s.cmu.st },
      seu := { s.seu with dirty := true } } := by
  rw [takeCmdPost_eq, if_neg (Nat.not_lt.2 h), if_neg hp, if_neg hr]
  split
  · have pending : (postTo (v.setWidth 8) (notePost v s)).cmu.pendingCount ≠ 0 := pending_of_not_reduces (m := s.cmu) hp hr
    rw [takeRecord_reading pending]
    rfl
  · rfl

end

/-! ### A kind that names no command (R157) -/

theorem kindNamed_eq_false {k : Byte} (h : k = 0 ∨ 27 < k.toNat) : kindNamed k = false := by
  obtain rfl | h := h
  · rfl
  · simp [kindNamed, h]

theorem badKindArrival_unnamed {k : Byte} (h : k = 0 ∨ 27 < k.toNat) (r : Rec) :
    badKindArrival k r = onArrival k r fun _ => doBadKind k := by
  funext s
  simp [badKindArrival, kindNamed_eq_false h]

/-! ### What completing a command and beginning its read change (R157, R158) -/

theorem completed_eq (k : Byte) (r : Rec) (code detail : Word) (s : State) : completed k r code detail s = { s with
    cmu := { s.cmu with cmd := ⟨k, r⟩, st := .writing, code := code, detail := detail, plan := [], data := [] },
    seu := { s.seu with dirty := true }, fma := (markEnded s).fma } := by
  rw [completed, arriveAs_eq, markEnded_fma]
  rfl

theorem reads_eq (k : Byte) (r : Rec) (plan : List (Nat × Nat)) (s : State) : reads k r plan s = { s with
    cmu := { s.cmu with cmd := ⟨k, r⟩, st := .executing, plan := plan, data := [] },
    seu := { s.seu with dirty := true }, fma := (markEnded s).fma } := by
  rw [reads, arriveAs_eq, markEnded_fma]
  rfl

/-! ### The bursts of a read (R158) -/

theorem burstsOf_getElem? {addr words i : Nat} (h : i < (burstsOf addr words).length) :
    (burstsOf addr words)[i]? = some (addr + 32 * i, min 8 (words - 8 * i)) := by
  rw [List.getElem?_eq_getElem h]
  simp [burstsOf]

/-- The first `n` bursts of eight words at most carry the first `8 * n` words. -/
theorem sum_burstLengths (words n : Nat) : ((List.range n).map fun i => min 8 (words - 8 * i)).sum = min words (8 * n) := by
  induction n with
  | zero => simp
  | succ n ih =>
    rw [List.range_succ, List.map_append, List.sum_append, ih, List.map_singleton, List.sum_singleton]
    omega

theorem burstsOf_lengths_sum (addr words : Nat) : ((burstsOf addr words).map Prod.snd).sum = words := by
  have lengths : (burstsOf addr words).map Prod.snd = (List.range ((words + 7) / 8)).map fun i => min 8 (words - 8 * i) := by
    simp [burstsOf, Function.comp_def]
  rw [lengths, sum_burstLengths]
  omega

/-- Settles O51: the clauses of CMD_POST are the equations of its take, the indices compared as numbers; the rest says once what
`badKindArrival`, `completed`, `reads` and `burstsOf` are. -/
theorem commandUnit : Obligations.CommandUnit := by
  refine ⟨fun v s h => ?cmdPost, fun k r s h hk => ?badKind, fun k r code detail plan s => ?meanings⟩
  case cmdPost =>
    intro n p c u
    have answers {t : State} (ht : takeCmdPost v s = t) : Answers (.cmdPost v) s t := answers_of_live rfl h ht
    refine ⟨fun hn => ?above, fun hp => ?same, fun hn hp hr => ?reduces, fun hn hp hr => ?posts⟩
    case above => exact answers (takeCmdPost_above hn)
    case same =>
      have hn : n ≤ 255 := by omega
      exact answers (takeCmdPost_same hn ((postIndex_eq_iff hn _).2 hp))
    case reduces => exact answers (takeCmdPost_reduces hn (mt (postIndex_eq_iff hn _).1 hp) ((postIndex_reduces_iff hn _).2 hr))
    case posts =>
      exact answers (takeCmdPost_posts hn (mt (postIndex_eq_iff hn _).1 hp) (mt (postIndex_reduces_iff hn _).1 (Nat.not_lt.2 hr)))
  case badKind => exact answers_refused (congrArg (live · s) (badKindArrival_unnamed hk r)) h rfl
  case meanings =>
    exact ⟨completed_eq k r code detail s, reads_eq k r plan s, fun _ _ _ => burstsOf_getElem?, burstsOf_lengths_sum⟩

end Sys2Proof.Proofs
end

section
/-! PROOFS. Events and attention lines (10_events_and_attention_lines.md): EVT_ACK (R171), the clears of the pending and occurrence
flags (R172, R173), EVENT_SETUP and the event setup after a reset (R176), and the two lines read off the flags (R174, R175). -/

namespace Sys2Proof.Proofs

open Sys2Proof.Machine Sys2Proof.Safety

/-! ### Entries counted from A (R168, R171) -/

/-- From one entry to another, counted round the 64 entries of the event ring. -/
theorem toNat_sub_entry (p a : BitVec 6) : (p - a).toNat = (p.toNat + 64 - a.toNat) % 64 := by
  rw [BitVec.toNat_sub]
  omega

/-- An EVT_ACK value of at most 63 is the entry it names. -/
theorem toNat_ackEntry {v : Word} (h : v.toNat ≤ 63) : (v.setWidth 6).toNat = v.toNat := by
  rw [BitVec.toNat_setWidth]
  omega

/-- A value lies beyond W where it is farther from A than W is. -/
theorem ackEntry_beyond_iff {v : Word} (h : v.toNat ≤ 63) (w a : BitVec 6) :
    w - a < v.setWidth 6 - a ↔ (w.toNat + 64 - a.toNat) % 64 < (v.toNat + 64 - a.toNat) % 64 := by
  rw [BitVec.lt_def, toNat_sub_entry, toNat_sub_entry, toNat_ackEntry h]

/-! ### EVT_ACK, one equation for each way its take ends (R171) -/

/-- EVT_ACK as last taken (R133). -/
def noteAck (v : Word) (s : State) : State := s.setTaken fun t => { t with evtAck := v }

section
variable {v : Word} {s : State}

theorem takeEvtAck_ignored (h : 63 < v.toNat ∨ s.seu.w - s.seu.a < v.setWidth 6 - s.seu.a) :
    takeEvtAck v s = noteAck v s := if_pos h

theorem takeEvtAck_moves (h : v.toNat ≤ 63) (hw : ¬s.seu.w - s.seu.a < v.setWidth 6 - s.seu.a) :
    takeEvtAck v s = { noteAck v s with seu := { s.seu with a := v.setWidth 6, dirty := true } } :=
  if_neg (not_or.2 ⟨Nat.not_lt.2 h, hw⟩)

end

/-! ### Sets of event kinds (R166, R172, R173, R176) -/

theorem evKind_code_lt (k : EvKind) : k.code < 36 := by
  cases k <;> decide

/-- A set meets the bit of a kind where it holds the kind. -/
theorem and_bit_eq_zero_iff (p : BitVec 36) (k : EvKind) : p &&& k.bit = 0 ↔ p.getLsbD k.code = false := by
  have bit_ne_zero : BitVec.twoPow 36 k.code ≠ 0#36 := by cases k <;> decide
  rw [EvKind.bit, BitVec.and_twoPow]
  cases p.getLsbD k.code <;> simp [bit_ne_zero]

/-- The clear words name kinds 0 to 31 by their codes, and kinds 32 to 35 by their codes less 32. -/
theorem getLsbD_clearBits (second : Bool) (v : Word) (k : EvKind) : (clearBits second v).getLsbD k.code =
    if second then decide (32 ≤ k.code) && v.getLsbD (k.code - 32) else decide (k.code < 32) && v.getLsbD k.code := by
  have below := evKind_code_lt k
  cases second with
  | false =>
    by_cases low : k.code < 32
    · simp [clearBits, below, low]
    · simp [clearBits, low, BitVec.getLsbD_of_ge v k.code (Nat.not_lt.1 low)]
  | true =>
    have halves : (clearBits true v).getLsbD k.code =
        if k.code < 32 then (0 : Word).getLsbD k.code else (v.setWidth 4).getLsbD (k.code - 32) := BitVec.getLsbD_append
    rw [halves]
    by_cases low : k.code < 32
    · simp [low]
    · have inWord : k.code - 32 < 4 := by omega
      simp [low, inWord, Nat.not_lt.1 low]

/-- The mask of two operand words as a number: the second holds its four bits above the first. -/
theorem maskOf_eq (lo hi : Word) : maskOf lo hi = BitVec.ofNat 36 (lo.toNat + hi.toNat % 16 * 4294967296) := by
  refine BitVec.eq_of_toNat_eq ?_
  rw [maskOf, BitVec.toNat_append, BitVec.toNat_setWidth, ← Nat.shiftLeft_add_eq_or_of_lt lo.isLt, Nat.shiftLeft_eq,
    BitVec.toNat_ofNat]
  omega

/-! ### The two lines read off the flags (R174, R175) -/

theorem and_safetyBits_ne_zero (p : BitVec 36) :
    decide (p &&& safetyBits ≠ 0) = (p.getLsbD 21 || p.getLsbD 22 || p.getLsbD 24) := by
  have meets : p &&& safetyBits = 0 ↔ (p.getLsbD 21 || p.getLsbD 22 || p.getLsbD 24) = false := by
    rw [safetyBits, BitVec.and_or_distrib_left, BitVec.and_or_distrib_left, Bool.or_eq_false_iff, Bool.or_eq_false_iff]
    exact BitVec.or_eq_zero_iff.trans <| and_congr
      (BitVec.or_eq_zero_iff.trans <| and_congr (and_bit_eq_zero_iff p .revDegraded) (and_bit_eq_zero_iff p .revNoOutput))
      (and_bit_eq_zero_iff p .guideStale)
  simp only [ne_eq, meets, Bool.not_eq_false, Bool.decide_eq_true]

theorem evalLines_eq (e : Seu) : e.evalLines =
    { e with attnN := !(e.attnOn && decide (e.pending &&& e.attnMask ≠ 0)),
             alertN := !(e.alertOn && (e.pending.getLsbD 21 || e.pending.getLsbD 22 || e.pending.getLsbD 24)) } := by
  rw [Seu.evalLines, Seu.attnAsserted, Seu.alertAsserted, and_safetyBits_ne_zero]

/-! ### The clears of the flags (R172, R173) -/

theorem dirtyIf_eq (b : Bool) (s : State) : s.dirtyIf b = { s with seu := { s.seu with dirty := s.seu.dirty || b } } := by
  cases b <;> simp [State.dirtyIf, State.markDirty]

/-- The pending flags that a take of PEND_CLR leaves. -/
def pendingLeft (second : Bool) (v : Word) (e : Seu) : BitVec 36 := e.pending &&& ~~~clearBits second v

/-- The occurrence flags that a take of OCC_CLR leaves: a kind that is pending keeps its flag. -/
def occurredLeft (second : Bool) (v : Word) (e : Seu) : BitVec 36 := e.occurred &&& ~~~(clearBits second v &&& ~~~e.pending)

section
variable (second : Bool) (v : Word) (k : EvKind) (e : Seu) (s : State)

theorem getLsbD_pendingLeft :
    (pendingLeft second v e).getLsbD k.code = (e.pending.getLsbD k.code && !(clearBits second v).getLsbD k.code) := by
  simp [pendingLeft, evKind_code_lt k]

theorem getLsbD_occurredLeft : (occurredLeft second v e).getLsbD k.code =
    (e.occurred.getLsbD k.code && !((clearBits second v).getLsbD k.code && !e.pending.getLsbD k.code)) := by
  simp [occurredLeft, evKind_code_lt k]

theorem takePendClr_eq : takePendClr second v s =
    { s.setTaken (fun t => if second then { t with pendClr1 := v } else { t with pendClr0 := v }) with
      seu := { ({ s.seu with pending := pendingLeft second v s.seu } : Seu).evalLines with
        dirty := s.seu.dirty || decide (pendingLeft second v s.seu ≠ s.seu.pending) } } := by
  rw [takePendClr, dirtyIf_eq]
  rfl

theorem takeOccClr_eq : takeOccClr second v s =
    { s.setTaken (fun t => if second then { t with occClr1 := v } else { t with occClr0 := v }) with
      seu := { s.seu with occurred := occurredLeft second v s.seu,
                          dirty := s.seu.dirty || decide (occurredLeft second v s.seu ≠ s.seu.occurred) } } := by
  rw [takeOccClr, dirtyIf_eq]
  rfl

end

/-! ### EVENT_SETUP (R176) -/

/-- The masks, the enables and the tag that an EVENT_SETUP record holds, with the lines as they make them. -/
def eventSetupOf (r : Rec) (e : Seu) : Seu :=
  ({ e with recMask := maskOf r.op1 r.op2, attnMask := maskOf r.op3 r.op4, attnOn := flag r.op5 0, alertOn := flag r.op5 1,
            tag := BitVec.ofNat 8 (field r.op5 8 8) } : Seu).evalLines

theorem arriveAs_eventSetupOf (k : Byte) (r : Rec) (s : State) : arriveAs k r { s with seu := eventSetupOf r s.seu } =
    { arriveAs k r s with seu := eventSetupOf r (arriveAs k r s).seu } := by
  rw [arriveAs_eq, arriveAs_eq]

theorem answers_eventSetup {r : Rec} {s : State} (h : Arrives s) :
    Answers (.eventSetup r) s (completed 27 r resDone 0 { s with seu := eventSetupOf r s.seu }) :=
  answers_completed (g := fun s => { s with seu := eventSetupOf r s.seu }) rfl h (arriveAs_eventSetupOf 27 r s) rfl

/-- Settles O57: the values after a reset hold by definition; EVT_ACK by the two ways its take ends, entries compared as numbers;
the clears and EVENT_SETUP by their equations, flag sets read bit by bit and the lines off the flags. -/
theorem eventCommands : Obligations.EventCommands := by
  refine ⟨fun _ _ _ _ _ _ _ _ _ => ⟨rfl, rfl, rfl, rfl, rfl⟩, fun v s h => ?ack, fun second v s h => ?clears,
    fun r s h => ?setup⟩
  case ack =>
    intro n a w u
    have answers {t : State} (ht : takeEvtAck v s = t) : Answers (.evtAck v) s t := answers_of_live rfl h ht
    refine ⟨fun hi => answers (takeEvtAck_ignored ?ignored), fun hn hw => answers (takeEvtAck_moves hn ?within)⟩
    case ignored =>
      by_cases hn : 63 < n
      · exact .inl hn
      · exact .inr ((ackEntry_beyond_iff (Nat.not_lt.1 hn) _ _).2 (hi.resolve_left hn))
    case within => exact mt (ackEntry_beyond_iff hn _ _).1 (Nat.not_lt.2 hw)
  case clears =>
    intro named e
    have named_eq (k : EvKind) : (clearBits second v).getLsbD k.code = named k := getLsbD_clearBits second v k
    refine ⟨⟨pendingLeft second v e, fun k => ?pendingBit, answers_of_live rfl h ?pending⟩,
      ⟨occurredLeft second v e, fun k => ?occurredBit, answers_of_live rfl h (takeOccClr_eq second v s)⟩⟩
    case pendingBit => rw [getLsbD_pendingLeft, named_eq]
    case pending =>
      rw [takePendClr_eq, evalLines_eq]
      rfl
    case occurredBit => rw [getLsbD_occurredLeft, named_eq]
  case setup =>
    intro mask p
    have answered := answers_eventSetup (r := r) h
    rw [eventSetupOf, evalLines_eq, maskOf_eq, maskOf_eq] at answered
    exact answered

end Sys2Proof.Proofs
end

section
/-! PROOFS. What a step keeps: the rules that the invariants of the part state, each as a relation between the state before
and the state after, and for each operation that blocks share the rules it keeps. -/

namespace Sys2Proof.Proofs

open Sys2Proof.Machine Sys2Proof.Safety

/-! ### Rules -/

/-- What every step is to keep: the invariants, the pending flags, the commands that wait, the contents of the SDRAM. -/
inductive Rule where
  | memory | counts | port | profiles | film | capture | reverse | banks | chimes | flags | lines | entries | pendingStays | commands | contents
deriving DecidableEq

/-- No two event records that wait have one entry (R168). -/
def EntriesOk (s : State) : Prop := (s.seu.queue.map QueuedRecord.entry).Nodup

/-- A transaction is in progress at a PENDING port (R121, R122). -/
def PortOk (s : State) : Prop := s.ppw.port = .pending → s.ppw.tx ≠ none

/-- Each data client stands in both profiles (R144). -/
def ProfilesOk (s : State) : Prop := ∀ c, c ∈ s.fma.normal.order ∧ c ∈ s.fma.reverse.order

def Rule.Kept : Rule → State → State → Prop
  | .memory, s, t => Memory.wf s.mem = true → Memory.wf t.mem = true
  | .counts, s, t => CountsOk s → CountsOk t
  | .port, s, t => PortOk s → PortOk t
  | .profiles, s, t => ProfilesOk s → ProfilesOk t
  | .film, s, t => FilmQueuesOk s → FilmQueuesOk t
  | .capture, s, t => CaptureOk s → CaptureOk t
  | .reverse, s, t => ReverseTimersOk s → ReverseTimersOk t
  | .banks, s, t => BanksOk s → BanksOk t
  | .chimes, s, t => ChimesOk s → ChimesOk t
  | .flags, s, t => FlagsOk s → FlagsOk t
  | .lines, s, t => LinesOk s → LinesOk t
  | .entries, s, t => EntriesOk s → EntriesOk t
  | .pendingStays, s, t => s.seu.pending &&& t.seu.pending = s.seu.pending
  | .commands, s, t => t.pending = s.pending
  | .contents, s, t => t.mem = s.mem

theorem Rule.Kept.refl (r : Rule) (s : State) : r.Kept s s := by
  cases r
  case pendingStays => exact BitVec.and_self
  case commands | contents => exact rfl
  all_goals exact id

theorem Rule.Kept.trans {r : Rule} {s t u : State} (h : r.Kept s t) (k : r.Kept t u) : r.Kept s u := by
  cases r
  case pendingStays =>
    calc s.seu.pending &&& u.seu.pending = s.seu.pending &&& t.seu.pending &&& u.seu.pending := by rw [show _ = _ from h]
      _ = s.seu.pending &&& (t.seu.pending &&& u.seu.pending) := BitVec.and_assoc ..
      _ = s.seu.pending := by rw [show _ = _ from k, show _ = _ from h]
  case commands | contents => exact Eq.trans k h
  all_goals exact k ∘ h

/-- Every rule but those of `skip` is kept from `s` to `t`. -/
structure Keeps (skip : List Rule) (s t : State) : Prop where
  rule : ∀ r, r ∉ skip → r.Kept s t

theorem Keeps.refl (skip : List Rule) (s : State) : Keeps skip s s := ⟨fun r _ => .refl r s⟩

theorem Keeps.trans {skip : List Rule} {s t u : State} (h : Keeps skip s t) (k : Keeps skip t u) : Keeps skip s u :=
  ⟨fun r hr => (h.rule r hr).trans (k.rule r hr)⟩

theorem Keeps.but {skip : List Rule} {s t : State} (h : Keeps [] s t) : Keeps skip s t := ⟨fun r _ => h.rule r (by simp)⟩

theorem Keeps.weaken {skip more : List Rule} {s t : State} (h : Keeps skip s t) (sub : skip ⊆ more) : Keeps more s t :=
  ⟨fun r hr => h.rule r fun k => hr (sub k)⟩

theorem Keeps.mem {skip : List Rule} {s t : State} (h : Keeps skip s t) (no : .contents ∉ skip := by decide) : t.mem = s.mem :=
  h.rule .contents no

/-- A rule kept on its own account need not be skipped. -/
theorem Keeps.also {skip : List Rule} {r : Rule} {s t : State} (h : Keeps (r :: skip) s t) (k : r.Kept s t) : Keeps skip s t :=
  ⟨fun q hq => if e : q = r then e ▸ k else h.rule q (by simp [e, hq])⟩

/-- Of two branches each keeps the rules. -/
theorem Keeps.ite {skip : List Rule} {s t u : State} {c : Prop} [Decidable c] (ht : Keeps skip s t) (hu : Keeps skip s u) :
    Keeps skip s (if c then t else u) := by
  split <;> assumption

/-! ### Updates of one block -/

/-- The state with everything that no rule reads put to its reset value. -/
def vital (s : State) : State :=
  { State.reset with
    mem := s.mem
    ppw := { Reset.ppw none with port := s.ppw.port, tx := s.ppw.tx }
    fma := { Reset.fma with waits := s.fma.waits, owed := s.fma.owed, normal := s.fma.normal, reverse := s.fma.reverse }
    seu := { s.seu with dirty := false, generation := 0, writing := none, a := 0, w := 0, recMask := 0, tag := 0 }
    fqu := { Reset.fqu with a := { Reset.film with queue := s.fqu.a.queue }, b := { Reset.film with queue := s.fqu.b.queue } }
    ccu := { Reset.ccu with setup := s.ccu.setup, enable := s.ccu.enable, frame := s.ccu.frame, buffer := s.ccu.buffer,
                            slots := s.ccu.slots }
    rvc := { Reset.rvc false with st := s.rvc.st, engageTimer := s.rvc.engageTimer, staleTimer := s.rvc.staleTimer,
                                  lingerTimer := s.rvc.lingerTimer }
    gde := { Reset.gde with bank0 := s.gde.bank0, bank1 := s.gde.bank1 }
    chu := { Reset.chu with defs := s.chu.defs, queue := s.chu.queue,
                            q := { Reset.voiceQ with st := s.chu.q.st, id := s.chu.q.id } }
    pending := s.pending }

theorem filmQueuesOk_vital (s : State) : FilmQueuesOk (vital s) ↔ FilmQueuesOk s :=
  forall_congr' fun src => by cases src <;> exact Iff.rfl

/-- The rules read nothing else. -/
theorem kept_vital (r : Rule) (s t : State) : r.Kept (vital s) (vital t) ↔ r.Kept s t := by
  cases r
  case film => exact imp_congr (filmQueuesOk_vital s) (filmQueuesOk_vital t)
  all_goals exact Iff.rfl

/-- What no rule reads may change. -/
theorem keeps_of_vital {skip : List Rule} {s t : State} (h : vital t = vital s) : Keeps skip s t :=
  ⟨fun r _ => (kept_vital r s t).1 (h ▸ Rule.Kept.refl r _)⟩

/-! ### A change of one block -/

section
variable {s t : State}

/-- Where nothing but the film queues differs, every other rule is kept. -/
theorem keeps_film (h : vital { t with fqu := s.fqu } = vital s) (k : FilmQueuesOk s → FilmQueuesOk t) : Keeps [] s t := by
  have same : Keeps [] s { t with fqu := s.fqu } := keeps_of_vital h
  refine ⟨fun r hr => ?_⟩
  cases r
  case film => exact k
  all_goals exact same.rule _ hr

theorem keeps_camera (h : vital { t with ccu := s.ccu } = vital s) : Keeps [.capture] s t := by
  have same : Keeps [.capture] s { t with ccu := s.ccu } := keeps_of_vital h
  refine ⟨fun r hr => ?_⟩
  cases r
  case capture => simp at hr
  all_goals exact same.rule _ hr

theorem keeps_reverse (h : vital { t with rvc := s.rvc } = vital s) : Keeps [.reverse, .capture] s t := by
  have same : Keeps [.reverse, .capture] s { t with rvc := s.rvc } := keeps_of_vital h
  refine ⟨fun r hr => ?_⟩
  cases r
  case reverse => simp at hr
  case capture => simp at hr
  all_goals exact same.rule _ hr

theorem keeps_guide (h : vital { t with gde := s.gde } = vital s) (k : BanksOk s → BanksOk t) : Keeps [] s t := by
  have same : Keeps [] s { t with gde := s.gde } := keeps_of_vital h
  refine ⟨fun r hr => ?_⟩
  cases r
  case banks => exact k
  all_goals exact same.rule _ hr

theorem keeps_chimes (h : vital { t with chu := s.chu } = vital s) (k : ChimesOk s → ChimesOk t) : Keeps [] s t := by
  have same : Keeps [] s { t with chu := s.chu } := keeps_of_vital h
  refine ⟨fun r hr => ?_⟩
  cases r
  case chimes => exact k
  all_goals exact same.rule _ hr

theorem keeps_memory (h : vital { t with mem := s.mem } = vital s) (k : Memory.wf s.mem = true → Memory.wf t.mem = true) :
    Keeps [.contents] s t := by
  have same : Keeps [.contents] s { t with mem := s.mem } := keeps_of_vital h
  refine ⟨fun r hr => ?_⟩
  cases r
  case memory => exact k
  case contents => simp at hr
  all_goals exact same.rule _ hr

theorem keeps_port (h : vital { t with ppw := s.ppw } = vital s) (k : t.ppw.port = .pending → t.ppw.tx ≠ none) :
    Keeps [] s t := by
  have same : Keeps [] s { t with ppw := s.ppw } := keeps_of_vital h
  refine ⟨fun r hr => ?_⟩
  cases r
  case port => exact fun _ => k
  all_goals exact same.rule _ hr

theorem keeps_ppw (h : vital { t with ppw := s.ppw } = vital s) : Keeps [.port] s t := by
  have same : Keeps [.port] s { t with ppw := s.ppw } := keeps_of_vital h
  refine ⟨fun r hr => ?_⟩
  cases r
  case port => simp at hr
  all_goals exact same.rule _ hr

theorem keeps_arbiter (h : vital { t with fma := s.fma } = vital s) (k : CountsOk s → CountsOk t)
    (c : ProfilesOk s → ProfilesOk t) :
    Keeps [] s t := by
  have same : Keeps [] s { t with fma := s.fma } := keeps_of_vital h
  refine ⟨fun r hr => ?_⟩
  cases r
  case counts => exact k
  case profiles => exact c
  all_goals exact same.rule _ hr

theorem keeps_events (h : vital { t with seu := s.seu } = vital s) :
    Keeps [.flags, .lines, .entries, .pendingStays] s t := by
  have same : Keeps [.flags, .lines, .entries, .pendingStays] s { t with seu := s.seu } := keeps_of_vital h
  refine ⟨fun r hr => ?_⟩
  cases r
  case flags | lines | entries | pendingStays => simp at hr
  all_goals exact same.rule _ hr

end

/-! ### Status-dirty, results, raises -/

theorem keeps_markDirty (s : State) : Keeps [] s s.markDirty := keeps_of_vital rfl

theorem keeps_dirtyIf (b : Bool) (s : State) : Keeps [] s (s.dirtyIf b) := (keeps_markDirty s).ite (Keeps.refl _ s)

theorem keeps_finish (code d : Word) (s : State) : Keeps [] s (finish code d s) := keeps_of_vital rfl

theorem keeps_beginRead (plan : List (Nat × Nat)) (s : State) : Keeps [] s (beginRead plan s) := keeps_of_vital rfl

theorem keeps_takeRecord (s : State) : Keeps [] s (takeRecord s) := by
  unfold takeRecord
  exact .ite (keeps_of_vital rfl) (keeps_of_vital rfl)

theorem keeps_setScan (s : State) (o : Output) (v : Scan) : Keeps [] s (s.setScan o v) := keeps_of_vital rfl

theorem keeps_modMenu (s : State) (o : Rear) (f : Menu → Menu) : Keeps [] s (s.modMenu o f) := keeps_of_vital rfl

theorem keeps_setMon (m : Monitor) (s : State) : Keeps [] s (s.setMon m) := keeps_of_vital rfl

theorem keeps_carry (s : State) (g : Grant) : Keeps [] s (s.carry g) := keeps_of_vital rfl

theorem keeps_markEnded (s : State) : Keeps [] s (markEnded s) := by
  rw [markEnded_state]
  exact keeps_of_vital rfl

theorem keeps_arriveAs (k : Byte) (r : Rec) (s : State) : Keeps [] s (arriveAs k r s) := by
  rw [arriveAs_eq]
  exact keeps_of_vital rfl

/-- From `e` to `e'` no pending flag falls, a pending kind stays occurred, and entries stay apart. -/
structure EventsKept (e e' : Seu) : Prop where
  stays : e.pending &&& e'.pending = e.pending
  flags : e.pending &&& e.occurred = e.pending → e'.pending &&& e'.occurred = e'.pending
  entries : (e.queue.map QueuedRecord.entry).Nodup → (e'.queue.map QueuedRecord.entry).Nodup

theorem EventsKept.trans {e e' e'' : Seu} (h : EventsKept e e') (k : EventsKept e' e'') : EventsKept e e'' where
  stays := by
    rw [← h.stays, BitVec.and_assoc, k.stays]
  flags := k.flags ∘ h.flags
  entries := k.entries ∘ h.entries

theorem EventsKept.refl (e : Seu) : EventsKept e e := ⟨BitVec.and_self, id, id⟩

theorem setKind_kept (k : EvKind) (e : Seu) : EventsKept e (e.setKind k) where
  stays := by
    ext i hi
    simp only [Seu.setKind, BitVec.getElem_and, BitVec.getElem_or]
    cases e.pending[i] <;> rfl
  flags h := by
    ext i hi
    have hi' := congrArg (fun x : BitVec 36 => x[i]) h
    simp only [Seu.setKind, BitVec.getElem_and, BitVec.getElem_or] at hi' ⊢
    revert hi'
    cases e.pending[i] <;> cases e.occurred[i] <;> simp
  entries := id

/-- A record is placed at an entry that no waiting record has (R168). -/
theorem placeRecord_kept (k : EvKind) (ws : List Word) (e : Seu) : EventsKept e (e.placeRecord k ws) := by
  rcases placeRecord_cases k ws e with h | h | ⟨room, h⟩ <;> rw [h]
  · exact .refl e
  · exact setKind_kept _ e
  · refine ⟨BitVec.and_self, id, fun apart => ?_⟩
    have fresh : ∀ x ∈ e.queue, x.entry ≠ e.w := by
      simp only [Seu.ringFull, Bool.or_eq_false_iff, List.any_eq_false, decide_eq_true_eq] at room
      exact room.2
    simp only [List.map_append, List.map_cons, List.map_nil, List.nodup_append, apart, List.nodup_cons, List.not_mem_nil,
      not_false_eq_true, List.nodup_nil, and_self, true_and, List.mem_map, List.mem_singleton]
    rintro _ ⟨x, hx, rfl⟩ _ rfl
    exact fresh x hx

theorem keeps_raise (k : EvKind) (d a : Word) (s : State) : Keeps [] s (raise k d a s) := by
  have kept : EventsKept s.seu (raise k d a s).seu := (setKind_kept k s.seu).trans <|
    have placed := placeRecord_kept k (eventWords k d a s.time s.seu.tag) (s.seu.setKind k)
    ⟨placed.stays, placed.flags, placed.entries⟩
  have rest : Keeps [.flags, .lines, .entries, .pendingStays] s (raise k d a s) := keeps_events rfl
  refine ⟨fun r hr => ?_⟩
  cases r
  case flags => exact kept.flags
  case lines => exact fun _ => ⟨rfl, rfl⟩
  case entries => exact kept.entries
  case pendingStays => exact kept.stays
  all_goals exact rest.rule _ (by simp)

theorem keeps_raiseIf (b : Bool) (k : EvKind) (d a : Word) (s : State) : Keeps [] s (raiseIf b k d a s) :=
  (keeps_raise k d a s).ite (.refl _ s)

theorem keeps_raiseAll (rs : List Raise) (s : State) : Keeps [] s (raiseAll rs s) := by
  induction rs generalizing s with
  | nil => exact .refl _ s
  | cons r rs ih => exact (keeps_raise ..).trans (ih _)

/-- The raises of an event keep what its effect keeps. -/
theorem Keeps.raised {skip : List Rule} {s : State} {r : WithRaises} (h : Keeps skip s r.1) : Keeps skip s (raised r) :=
  h.trans (keeps_raiseAll r.2 r.1).but

theorem Keeps.raiseTogether {skip : List Rule} {s t : State} (rss : List (List Raise)) (h : Keeps skip s t) :
    Keeps skip s (raiseTogether rss t) :=
  (h.trans (u := { t with free := t.free + rss.flatten.length }) (keeps_of_vital rfl)).trans (keeps_raiseAll _ _).but

end Sys2Proof.Proofs
end

section
/-! PROOFS. What the processor port, the sampling monitor and the Camera Capture Unit keep (03, 07, 08). -/

namespace Sys2Proof.Proofs

open Sys2Proof.Machine Sys2Proof.Safety

/-! ### The port and the monitor -/

theorem keeps_countCompletion (s : State) : Keeps [] s (countCompletion s) := by
  unfold countCompletion
  exact .ite (keeps_setMon _ s) (.refl _ s)

theorem keeps_tagTake (s : State) : Keeps [] s (tagTake s) := by
  unfold tagTake
  exact .ite (keeps_setMon _ s) (.refl _ s)

theorem keeps_dropTag (s : State) : Keeps [] s (dropTag s) := by
  unfold dropTag
  exact .ite (keeps_setMon _ s) (.refl _ s)

theorem keeps_takeSample (q : Request) (s : State) : Keeps [] s (takeSample q s) := by
  unfold takeSample
  exact .ite ((keeps_setMon _ s).trans (keeps_raise _ _ _ _)) (.refl _ s)

theorem keeps_takeSampleClr (s : State) : Keeps [] s (takeSampleClr s) := keeps_of_vital rfl

theorem keeps_respond (ok : Bool) (data : List Word) (s : State) : Keeps [] s (respond ok data s) :=
  keeps_port rfl nofun

theorem keeps_takeNow (q : Request) (s : State) : Keeps [] s (takeNow q s) := by
  have taken : Keeps [] s { s with ppw := { s.ppw with port := .pending, tx := some q, waiting := none } } :=
    keeps_port rfl nofun
  have answered (ok : Bool) (data : List Word) (k : EvKind) (d a : Word) (t : State) :
      Keeps [] t (countCompletion (respond ok data (raise k d a t))) :=
    ((keeps_raise k d a t).trans (keeps_respond ok data _)).trans (keeps_countCompletion _)
  unfold takeNow
  refine taken.trans (.ite (answered ..) (.ite ?_ (keeps_tagTake _)))
  split
  · exact answered ..
  · exact keeps_tagTake _

theorem keeps_doTake (q : Request) (s : State) : Keeps [] s (doTake q s) := by
  unfold doTake
  refine .ite (.refl _ s) ?_
  split
  · exact keeps_takeNow q s
  · exact .ite (.refl _ s) (keeps_of_vital rfl)
  · exact .refl _ s

theorem keeps_completeTx (q : Request) (data : List Word) (counted : Bool) (s : State) :
    Keeps [] s (completeTx q data counted s) := by
  have answered := (keeps_takeSample q s).trans (keeps_respond true data _)
  unfold completeTx
  exact .ite (answered.trans (keeps_countCompletion _)) answered

theorem keeps_readOver (s : State) : Keeps [] s (readOver s) := by
  unfold readOver
  split
  · exact (keeps_markEnded s).trans (keeps_completeTx ..)
  · exact .refl _ s

theorem keeps_landGrantedWrite (s : State) : Keeps [.contents] s (landGrantedWrite s) := by
  unfold landGrantedWrite
  split
  · exact keeps_memory rfl (wf_writeCells _)
  · exact .refl _ s

theorem keeps_dropAtCaptureStart (s : State) : Keeps [.contents] s (dropAtCaptureStart s).1 := by
  unfold dropAtCaptureStart
  split
  · exact keeps_landGrantedWrite s
  · have dropped (ok : Bool) : Keeps [] s (respond ok [] (dropTag s)) := (keeps_dropTag s).trans (keeps_respond ..)
    exact (Keeps.ite (dropped _) ((dropped _).trans (keeps_countCompletion _))).but

/-! ### Capture start and stop -/

/-- `CaptureOk` with `run` for whether capture runs. -/
def CaptureOkAs (run : Bool) (c : Ccu) : Prop :=
  pixelCount c.buffer ≤ 4096 ∧ (c.slots.countP fun x => decide (x.st = .shown)) ≤ 1 ∧
    (c.frame.isSome = true → run = true) ∧
    ∀ i : Nat, (c.slots[i]?).map Slot.st = some SlotState.writing → c.frame.bind OpenFrame.slot = some i

theorem captureOk_iff (s : State) : CaptureOk s ↔ CaptureOkAs s.capturing s.ccu := Iff.rfl

/-- Slots in other states: none but slot `i` changes, to a state that is neither SHOWN nor WRITING. -/
theorem setSlotState_countP {slots : List Slot} {i : Nat} {st : SlotState} (h : st ≠ .shown) :
    ((setSlotState slots i st).countP fun x => decide (x.st = .shown)) ≤ slots.countP fun x => decide (x.st = .shown) := by
  unfold setSlotState
  induction slots generalizing i with
  | nil => simp
  | cons x xs ih =>
    cases i with
    | zero => simp [List.modify_zero_cons, List.countP_cons, h]
    | succ i =>
      simp only [List.modify_succ_cons, List.countP_cons]
      exact Nat.add_le_add_right ih _

theorem setSlotState_writing {slots : List Slot} {i j : Nat} {st : SlotState} (h : st ≠ .writing)
    (hj : ((setSlotState slots i st)[j]?).map Slot.st = some SlotState.writing) :
    j ≠ i ∧ (slots[j]?).map Slot.st = some SlotState.writing := by
  rw [setSlotState, List.getElem?_modify] at hj
  by_cases e : i = j
  · simp [e, h] at hj
  · simp only [e, if_false] at hj
    exact ⟨Ne.symm e, by simpa using hj⟩

theorem pixelCount_discard (i : Nat) (b : List CaptureItem) : pixelCount (discardPixels i b) ≤ pixelCount b :=
  List.Sublist.countP_le List.filter_sublist

theorem captureOk_stop {s : State} {run : Bool} (h : CaptureOkAs run s.ccu) : CaptureOk (stopCapture s) := by
  obtain ⟨bytes, shown, _, writing⟩ := h
  unfold stopCapture
  dsimp only
  split
  · rename_i hf
    exact ⟨bytes, shown, by simp [hf], writing⟩
  · rename_i f hf
    split
    · rename_i hs
      exact ⟨bytes, shown, nofun, fun i hi => by simpa [hf, hs] using writing i hi⟩
    · rename_i k hs
      refine ⟨(pixelCount_discard k _).trans bytes, (setSlotState_countP (by simp)).trans shown, nofun, fun i hi => ?_⟩
      obtain ⟨hne, hw⟩ := setSlotState_writing (by simp) hi
      have := writing i hw
      simp only [hf, hs, Option.bind_some, Option.some.injEq] at this
      exact absurd this.symm hne

/-- While capture does not run no frame is open, and no slot is WRITING. -/
theorem CaptureOkAs.closed {c : Ccu} (h : CaptureOkAs false c) : c.frame = none := by
  obtain ⟨_, _, running, _⟩ := h
  simpa using running

/-- The port's part of a capture start changes neither the camera nor the reverse state. -/
theorem dropAtCaptureStart_eq (s : State) : ∃ mem ppw fma, (dropAtCaptureStart s).1 = { s with mem := mem, ppw := ppw, fma := fma } := by
  unfold dropAtCaptureStart landGrantedWrite countCompletion respond dropTag State.setMon
  split
  · dsimp only
    split <;> exact ⟨_, _, _, rfl⟩
  · dsimp only
    split_ifs <;> exact ⟨_, _, _, rfl⟩

theorem captureOk_start {s : State} (h : CaptureOkAs false s.ccu) : CaptureOk (startCapture s).1 := by
  obtain ⟨mem, ppw, fma, e⟩ := dropAtCaptureStart_eq (s.setCcu { s.ccu with frame := none }).markDirty
  rw [startCapture, e]
  have none := h.closed
  obtain ⟨bytes, shown, _, writing⟩ := h
  exact ⟨bytes, shown, nofun, fun i hi => by simpa [none] using writing i hi⟩

/-- Capture that follows its running condition leaves the camera sound (R45, R46). -/
theorem captureOk_sync {was : Bool} {s : State} (h : CaptureOkAs was s.ccu) : CaptureOk (syncCapture was s).1 := by
  unfold syncCapture
  split
  · rename_i c
    simp only [Bool.and_eq_true, Bool.not_eq_true'] at c
    exact captureOk_start (c.2 ▸ h)
  · split
    · exact captureOk_stop h
    · rename_i c c'
      have : s.capturing = was := by
        revert c c'
        cases s.capturing <;> cases was <;> simp
      rw [captureOk_iff, this]
      exact h

theorem keeps_setCcu (c : Ccu) (s : State) : Keeps [.capture] s (s.setCcu c) := keeps_camera rfl

theorem keeps_syncCapture (was : Bool) (s : State) : Keeps [.capture, .contents] s (syncCapture was s).1 := by
  have stopped : Keeps [.capture] s (stopCapture s) := by
    unfold stopCapture
    dsimp only
    split
    · exact keeps_camera rfl
    · split <;> exact keeps_camera rfl
  have started : Keeps [.capture, .contents] s (startCapture s).1 :=
    (((keeps_setCcu _ s).trans (keeps_markDirty _).but).weaken (by decide)).trans ((keeps_dropAtCaptureStart _).weaken (by decide))
  unfold syncCapture
  split
  · exact started
  · split
    · exact stopped.weaken (by decide)
    · exact .refl _ s

theorem keeps_doCameraEnable (r : Rec) (s : State) : Keeps [.contents] s (doCameraEnable r s) := by
  have follows : Keeps [.contents] s (syncCapture s.capturing (s.setCcu { s.ccu with enable := flag r.op1 0 }).markDirty).1 :=
    ((((keeps_setCcu _ s).trans (keeps_markDirty _).but).weaken (by decide)).trans (keeps_syncCapture ..)).also fun h =>
      captureOk_sync (s := (s.setCcu { s.ccu with enable := flag r.op1 0 }).markDirty) h
  unfold doCameraEnable
  exact .ite (keeps_finish ..).but (.ite (keeps_finish ..).but (follows.raised.trans (keeps_finish ..).but))

/-! ### Camera setup -/

theorem keeps_doCameraSetup (r : Rec) (s : State) : Keeps [] s (doCameraSetup r s) := by
  unfold doCameraSetup
  exact .ite (keeps_finish ..) (.ite (keeps_finish ..) (keeps_beginRead ..))

/-- A new setup comes while no frame is open, with all its slots FREE (R43, R44). -/
theorem keeps_cameraRead (ws : List Word) (s : State) : Keeps [.contents] s (cameraRead ws s) := by
  unfold cameraRead
  split
  · exact (keeps_finish ..).but
  · rename_i quiet
    split
    · exact (keeps_finish ..).but
    · rename_i c _
      have installed : ∀ t : State, t.ccu.buffer = s.ccu.buffer → t.ccu.frame = s.ccu.frame →
          t.ccu.slots = List.replicate c.slots ⟨.free, 0⟩ → CaptureOk s → CaptureOk (syncCapture s.capturing t).1 := by
        intro t hb hf hs h
        have off : s.capturing = false := by
          simp only [captureQuiet, Bool.not_eq_true', Bool.not_eq_false, Bool.and_eq_true] at quiet
          exact quiet.1.1
        rw [captureOk_iff, off] at h
        refine captureOk_sync (off ▸ ?_)
        refine ⟨hb ▸ h.1, ?_, by simp [hf, h.closed], fun i hi => ?_⟩
        · simp [hs, List.countP_replicate]
        · simp only [hs, List.getElem?_replicate] at hi
          split at hi <;> simp at hi
      refine Keeps.trans (Keeps.raised (Keeps.also ((((keeps_setCcu _ s).trans (keeps_markDirty _).but).weaken (by decide)).trans
        (keeps_syncCapture ..)) (installed _ ?_ ?_ ?_))) (keeps_finish ..).but
      all_goals rfl

theorem keeps_doGammaLoad (r : Rec) (s : State) : Keeps [] s (doGammaLoad r s) := by
  unfold doGammaLoad
  exact .ite (keeps_finish ..) (keeps_beginRead ..)

theorem keeps_gammaRead (ws : List Word) (s : State) : Keeps [] s (gammaRead ws s) := keeps_of_vital rfl

/-! ### Lines and samples -/

/-- A camera change that keeps setup, enable, slots and the open frame's slot, and puts in no pixel byte. -/
theorem keeps_frame {s t : State} (h : vital { t with ccu := s.ccu } = vital s) (setup : t.ccu.setup = s.ccu.setup)
    (enable : t.ccu.enable = s.ccu.enable) (slots : t.ccu.slots = s.ccu.slots)
    (frame : t.ccu.frame.map OpenFrame.slot = s.ccu.frame.map OpenFrame.slot)
    (bytes : pixelCount s.ccu.buffer ≤ 4096 → pixelCount t.ccu.buffer ≤ 4096) : Keeps [] s t := by
  have st : t.rvc.st = s.rvc.st := congrArg (fun x => x.rvc.st) h
  have run : t.capturing = s.capturing := by simp [State.capturing, State.reversing, setup, enable, st]
  have isSome : t.ccu.frame.isSome = s.ccu.frame.isSome := by
    simpa using congrArg Option.isSome frame
  have slot : t.ccu.frame.bind OpenFrame.slot = s.ccu.frame.bind OpenFrame.slot := by
    simpa [Option.bind_map] using congrArg (fun x => x.bind id) frame
  refine (keeps_camera h).also fun ⟨b, shown, running, writing⟩ => ⟨bytes b, slots ▸ shown, ?_, ?_⟩
  · rw [isSome, run]
    exact running
  · rw [slot, slots]
    exact writing

theorem addMark_slot (m : Mark) (f : OpenFrame) : (f.addMark m).slot = f.slot := by
  unfold OpenFrame.addMark
  split <;> rfl

theorem lineEnd_slot (c : CamSetup) (n count : Nat) (f : OpenFrame) : (f.lineEnd c n count).slot = f.slot := by
  unfold OpenFrame.lineEnd
  dsimp only
  split_ifs <;> simp [addMark_slot]

theorem keeps_markFrame (m : Mark) (s : State) : Keeps [] s (markFrame m s) :=
  keeps_frame rfl rfl rfl rfl (by simp [markFrame, Function.comp_def, addMark_slot]) id

theorem keeps_endLine (s : State) : Keeps [] s (endLine s) := by
  unfold endLine
  refine .ite (keeps_frame rfl rfl rfl rfl ?_ id) (.refl _ s)
  dsimp only [State.setCcu]
  split
  · rfl
  · split
    · simp [Function.comp_def, lineEnd_slot]
    · rfl

/-- The sync checker's counts are read by no rule. -/
theorem keeps_setSync (y : Sync) (s : State) : Keeps [] s (s.setCcu { s.ccu with sync := y }) :=
  keeps_frame rfl rfl rfl rfl rfl id

theorem keeps_doHsEdge (clocks : Nat) (s : State) : Keeps [] s (doHsEdge clocks s) := by
  unfold doHsEdge
  refine (keeps_setSync (s.ccu.sync.advance clocks) s).trans (.ite ?_ ?_)
  · exact (keeps_markFrame ..).trans (keeps_raise ..)
  · exact (keeps_endLine _).trans (keeps_setSync ..)

theorem pixelCount_append (a b : List CaptureItem) : pixelCount (a ++ b) = pixelCount a + pixelCount b := List.countP_append

theorem keeps_pushCropByte (slot addr : Nat) (b : Byte) (s : State) : Keeps [] s (pushCropByte slot addr b s) := by
  unfold pushCropByte
  split
  · exact .refl _ s
  · rename_i f hf
    refine .ite (.refl _ s) ?_
    split
    · rename_i room
      refine keeps_frame rfl rfl rfl rfl rfl fun _ => ?_
      rw [State.setCcu_ccu, pixelCount_append]
      exact room
    · have marked : Keeps [] s (s.setCcu { s.ccu with frame := some { f.addMark .overrun with overran := true } }) :=
        keeps_frame rfl rfl rfl rfl (by simp [hf, addMark_slot]) id
      exact marked.trans (keeps_raise ..)

theorem keeps_takeSampleOf (c : CamSetup) {f : OpenFrame} (slot n j : Nat) (chroma y : Byte) {s : State}
    (hf : s.ccu.frame = some f) : Keeps [] s (takeSampleOf c f slot n j chroma y s) := by
  have summed : Keeps [] s (s.setCcu { s.ccu with frame := some { f with refSum := f.refSum + y.toNat } }) :=
    keeps_frame rfl rfl rfl rfl (by simp [hf]) id
  unfold takeSampleOf
  refine (Keeps.ite summed (.refl _ s)).trans (.ite ?_ (.refl _ _))
  exact (keeps_pushCropByte ..).trans (keeps_pushCropByte ..)

theorem keeps_doCameraSample (chroma y : Byte) (s : State) : Keeps [] s (doCameraSample chroma y s) := by
  unfold doCameraSample
  refine (keeps_setSync (s.ccu.sync.advance 2) s).trans (.ite (.refl _ _) ?_)
  refine (keeps_setSync { s.ccu.sync.advance 2 with samples := s.ccu.sync.samples + 1 } _).trans ?_
  dsimp only
  split
  · rename_i c f _ hf
    split
    · exact .refl _ _
    · exact .ite (keeps_takeSampleOf c _ _ _ _ _ hf) (.refl _ _)
  · exact .refl _ _

/-! ### Closing and opening frames -/

/-- The close of a frame changes the camera and the events' state alone, and leaves no frame open. -/
theorem closeFrame_eq (c : CamSetup) (s : State) : ∃ vpd slots buffer seu, closeFrame c s =
    { s with ccu := { s.ccu with frame := none, vpd := vpd, slots := slots, buffer := buffer }, seu := seu } := by
  unfold closeFrame
  split
  · rename_i h
    exact ⟨s.ccu.vpd, s.ccu.slots, s.ccu.buffer, s.seu, by rw [← h]⟩
  · split
    · exact ⟨_, _, _, _, rfl⟩
    · dsimp only
      split <;> exact ⟨_, _, _, _, rfl⟩

/-- Where the open frame's slot leaves WRITING and no pixel byte is put in, the close keeps the camera sound. -/
theorem CaptureOkAs.close {run : Bool} {c : Ccu} {f : OpenFrame} {i : Nat} {st : SlotState} {slots : List Slot}
    {buffer : List CaptureItem} {vpd : Nat} (h : CaptureOkAs run c) (hf : c.frame = some f) (hi : f.slot = some i)
    (hs : st ≠ .shown ∧ st ≠ .writing) (hb : pixelCount buffer ≤ pixelCount c.buffer) (he : slots = setSlotState c.slots i st) :
    CaptureOkAs run { c with frame := none, vpd := vpd, slots := slots, buffer := buffer } := by
  obtain ⟨bytes, shown, _, writing⟩ := h
  subst he
  refine ⟨hb.trans bytes, (setSlotState_countP hs.1).trans shown, nofun, fun j hj => ?_⟩
  obtain ⟨hne, hw⟩ := setSlotState_writing hs.2 hj
  have := writing j hw
  simp only [hf, hi, Option.bind_some, Option.some.injEq] at this
  exact absurd this.symm hne

theorem captureOk_closeFrame (c : CamSetup) {s : State} (h : CaptureOk s) : CaptureOk (closeFrame c s) := by
  unfold closeFrame
  split
  · exact h
  · rename_i f hf
    split
    · rename_i hs
      obtain ⟨bytes, shown, _, writing⟩ := h
      exact ⟨bytes, shown, nofun, fun i hi => by simpa [hf, hs] using writing i hi⟩
    · rename_i i hi
      dsimp only
      split
      · refine ((captureOk_iff s).1 h).close hf hi (st := .closing) (by simp) (Nat.le_of_eq ?_) rfl
        exact pixelCount_append ..
      · exact ((captureOk_iff s).1 h).close hf hi (st := .free) (by simp) (pixelCount_discard ..) rfl

theorem keeps_closeFrame (c : CamSetup) (s : State) : Keeps [] s (closeFrame c s) := by
  refine Keeps.also (r := .capture) ?_ (captureOk_closeFrame c)
  unfold closeFrame
  split
  · exact .refl _ s
  · split
    · exact keeps_setCcu ..
    · have closed := (keeps_setCcu { s.ccu with frame := none } s).trans (keeps_markDirty _).but
      dsimp only
      split
      · exact (closed.trans (keeps_setCcu ..)).trans (keeps_setCcu ..)
      · exact (closed.trans (keeps_setCcu ..)).trans (keeps_raise ..).but

theorem countP_set_writing (slots : List Slot) (i : Nat) (n : Word) :
    ((slots.set i ⟨.writing, n⟩).countP fun x => decide (x.st = .shown)) ≤ slots.countP fun x => decide (x.st = .shown) := by
  induction slots generalizing i with
  | nil => simp
  | cons x xs ih =>
    cases i with
    | zero => simp [List.countP_cons]
    | succ i =>
      simp only [List.set_cons_succ, List.countP_cons]
      exact Nat.add_le_add_right (ih i) _

theorem captureOk_openFrame (c : CamSetup) {s : State} (h : CaptureOk s) (hf : s.ccu.frame = none) (hr : s.capturing = true) :
    CaptureOk (openFrame c s) := by
  obtain ⟨bytes, shown, _, writing⟩ := h
  unfold openFrame
  dsimp only
  split
  · exact ⟨bytes, shown, fun _ => hr, fun i hi => by simpa [hf] using writing i hi⟩
  · rename_i i _
    refine ⟨bytes, ?_, fun _ => hr, fun j hj => ?_⟩
    · refine Nat.le_trans ?_ shown
      simp only [State.setCcu_ccu, State.markDirty_ccu]
      exact countP_set_writing ..
    · simp only [State.setCcu_ccu, State.markDirty_ccu, List.getElem?_set] at hj
      by_cases e : i = j
      · simp [e]
      · simp only [e, if_false] at hj
        simpa [hf] using writing j hj

theorem keeps_openFrame (c : CamSetup) (s : State) : Keeps [.capture] s (openFrame c s) := by
  unfold openFrame
  have counted := (keeps_setCcu { s.ccu with seen := s.ccu.seen + 1, gamma := s.ccu.pendingGamma.getD s.ccu.gamma, pendingGamma := none } s).trans
    (keeps_markDirty _).but
  dsimp only
  split
  · exact (counted.trans (keeps_setCcu ..)).trans (keeps_raise ..).but
  · exact counted.trans (keeps_setCcu ..)

/-- Presence and its timer are read by no rule. -/
theorem keeps_cameraSeen (s : State) : Keeps [] s (cameraSeen s) := by
  have seen : Keeps [] s (s.setCcu { s.ccu with present := true, presenceTimer := some Config.presenceMs }) :=
    keeps_frame rfl rfl rfl rfl rfl id
  unfold cameraSeen
  exact seen.trans (.ite (.refl _ _) (keeps_raise ..))

theorem keeps_nextFrame (c : CamSetup) {s : State} (hr : s.capturing = true) : Keeps [] s (openFrame c (closeFrame c s)) := by
  refine Keeps.also ((keeps_closeFrame c s).but.trans (keeps_openFrame c _)) fun h => ?_
  obtain ⟨vpd, slots, buffer, seu, e⟩ := closeFrame_eq c s
  exact captureOk_openFrame c (captureOk_closeFrame c h) (by rw [e]) (by rw [e]; exact hr)

theorem keeps_doVsEdge (clocks : Nat) (s : State) : Keeps [] s (doVsEdge clocks s) := by
  unfold doVsEdge
  refine (keeps_setSync (s.ccu.sync.advance clocks) s).trans (.ite ?_ ?_)
  · exact (keeps_markFrame ..).trans (keeps_raise ..)
  · refine ((keeps_endLine _).trans (keeps_cameraSeen _)).trans ?_
    generalize cameraSeen _ = v
    refine (keeps_setSync { v.ccu.sync with vsSeen := true, lines := 0, inLine := false, samples := 0 } v).trans ?_
    dsimp only
    split
    · exact .refl _ _
    · split
      · rename_i hr
        exact keeps_nextFrame _ hr
      · exact .refl _ _

theorem keeps_presenceExpiry (s : State) : Keeps [] s (presenceExpiry s) := by
  have absent : Keeps [] s (s.setCcu { s.ccu with present := false, presenceTimer := none }) := keeps_frame rfl rfl rfl rfl rfl id
  unfold presenceExpiry
  exact .ite (absent.trans (keeps_raise ..)) (.refl _ s)

/-! ### Bursts of CAPT that have been written -/

theorem keeps_writeEnded {s : State} {m : List Host.Cell} (h : Memory.wf s.mem = true → Memory.wf m = true) :
    Keeps [.contents] s (markEnded { s with mem := m }) :=
  (keeps_memory (t := { s with mem := m }) rfl h).trans (keeps_markEnded _).but

theorem keeps_trailerOver (s : State) : Keeps [.contents] s (trailerOver s) := by
  unfold trailerOver
  split
  · rename_i ws slot all half rest _ hb
    refine (keeps_writeEnded (wf_writeWords _ _)).trans (Keeps.also ((keeps_setCcu _ _).trans (keeps_markDirty _).but) ?_).but
    rintro ⟨bytes, shown, running, writing⟩
    rw [markEnded_ccu, hb] at bytes
    refine ⟨?_, ?_, running, fun i hi => ?_⟩
    · refine Nat.le_trans (Nat.le_of_eq ?_) bytes
      exact (pixelCount_append [.trailer slot all half] rest).symm ▸ (by simp [pixelCount, CaptureItem.isPixel])
    · exact (setSlotState_countP (by simp)).trans shown
    · exact writing i (setSlotState_writing (by simp) hi).2
  · exact .refl _ s

theorem keeps_trailerHalfOver (s : State) : Keeps [.contents] s (trailerHalfOver s) := by
  unfold trailerHalfOver
  split
  · rename_i ws slot all half rest _ hb
    refine (keeps_writeEnded (wf_writeWords s.burstAddr ws)).trans (.but ?_)
    refine keeps_frame rfl rfl rfl rfl rfl fun h => ?_
    simpa [hb, pixelCount, CaptureItem.isPixel] using h
  · exact .refl _ s

theorem keeps_pixelsOver (s : State) : Keeps [.contents] s (pixelsOver s) := by
  unfold pixelsOver
  split
  · exact keeps_writeEnded (wf_writeCells _)
  · exact .refl _ s

end Sys2Proof.Proofs
end

section
/-! PROOFS. What the Chime Unit and the Guide Engine keep (05, 06). -/

namespace Sys2Proof.Proofs

open Sys2Proof.Machine Sys2Proof.Safety

/-! ### Queue order (R104, R107) -/

theorem insertEntry_perm (prio : Nat → Nat) (e : ChimeEntry) (q : List ChimeEntry) : (insertEntry prio e q).Perm (e :: q) := by
  induction q with
  | nil => exact .refl _
  | cons x xs ih =>
    unfold insertEntry
    split
    · exact (ih.cons x).trans (.swap e x xs)
    · exact .refl _

theorem reinsertEntry_perm (prio : Nat → Nat) (e : ChimeEntry) (q : List ChimeEntry) :
    (reinsertEntry prio e q).Perm (e :: q) := by
  induction q with
  | nil => exact .refl _
  | cons x xs ih =>
    unfold reinsertEntry
    split
    · exact (ih.cons x).trans (.swap e x xs)
    · exact .refl _

/-- Priorities do not rise along the queue (R104). -/
def Falling (prio : Nat → Nat) (q : List ChimeEntry) : Prop := q.Pairwise fun a b => prio b.id ≤ prio a.id

theorem Falling.insert {prio : Nat → Nat} {e : ChimeEntry} {q : List ChimeEntry} (h : Falling prio q) :
    Falling prio (insertEntry prio e q) := by
  induction q with
  | nil => exact List.pairwise_singleton ..
  | cons x xs ih =>
    obtain ⟨below, rest⟩ := List.pairwise_cons.1 h
    unfold insertEntry
    split
    · rename_i hx
      refine List.pairwise_cons.2 ⟨fun y hy => ?_, ih rest⟩
      rcases List.mem_cons.1 ((insertEntry_perm prio e xs).mem_iff.1 hy) with rfl | hy
      · exact hx
      · exact below y hy
    · rename_i hx
      refine List.pairwise_cons.2 ⟨fun y hy => ?_, h⟩
      rcases List.mem_cons.1 hy with rfl | hy
      · omega
      · exact (below y hy).trans (by omega)

theorem Falling.reinsert {prio : Nat → Nat} {e : ChimeEntry} {q : List ChimeEntry} (h : Falling prio q) :
    Falling prio (reinsertEntry prio e q) := by
  induction q with
  | nil => exact List.pairwise_singleton ..
  | cons x xs ih =>
    obtain ⟨below, rest⟩ := List.pairwise_cons.1 h
    unfold reinsertEntry
    split
    · rename_i hx
      refine List.pairwise_cons.2 ⟨fun y hy => ?_, ih rest⟩
      rcases List.mem_cons.1 ((reinsertEntry_perm prio e xs).mem_iff.1 hy) with rfl | hy
      · omega
      · exact below y hy
    · rename_i hx
      refine List.pairwise_cons.2 ⟨fun y hy => ?_, h⟩
      rcases List.mem_cons.1 hy with rfl | hy
      · omega
      · exact (below y hy).trans (by omega)

/-! ### The queue of a state -/

/-- What `ChimesOk` says of the queue alone, for the definitions of `s`. -/
structure QueueOk (s : State) (q : List ChimeEntry) : Prop where
  short : q.length ≤ 16
  once : (q.map ChimeEntry.id).Nodup
  falling : Falling s.chimePriority q
  defined : ∀ e ∈ q, s.chimeDef e.id ≠ none

/-- The chime `id` may be on voice Q over the queue. -/
def Above (s : State) (id : Nat) (q : List ChimeEntry) : Prop :=
  s.chimeDef id ≠ none ∧ ∀ e ∈ q, e.id ≠ id ∧ s.chimePriority e.id ≤ s.chimePriority id

theorem chimesOk_iff (s : State) : ChimesOk s ↔ QueueOk s s.chu.queue ∧ (s.chu.q.st = .idle → s.chu.queue = []) ∧
    (s.chu.q.st ≠ .idle → Above s s.chu.q.id s.chu.queue) :=
  ⟨fun ⟨a, b, c, d, e, f⟩ => ⟨⟨a, b, c, d⟩, e, f⟩, fun ⟨⟨a, b, c, d⟩, e, f⟩ => ⟨a, b, c, d, e, f⟩⟩

theorem QueueOk.sublist {s : State} {q p : List ChimeEntry} (h : QueueOk s q) (k : p.Sublist q) : QueueOk s p where
  short := k.length_le.trans h.short
  once := h.once.sublist (k.map _)
  falling := h.falling.sublist k
  defined e he := h.defined e (k.subset he)

/-- An entry of a new id put into a queue with room. -/
theorem QueueOk.perm {s : State} {q p : List ChimeEntry} {e : ChimeEntry} (h : QueueOk s q) (k : p.Perm (e :: q))
    (falling : Falling s.chimePriority p) (room : q.length < 16) (new : ∀ x ∈ q, x.id ≠ e.id) (he : s.chimeDef e.id ≠ none) :
    QueueOk s p where
  short := by rw [k.length_eq]; exact room
  once := by
    rw [(k.map ChimeEntry.id).nodup_iff, List.map_cons, List.nodup_cons, List.mem_map]
    exact ⟨fun ⟨x, hx, hx'⟩ => new x hx hx', h.once⟩
  falling := falling
  defined x hx := by
    rcases List.mem_cons.1 (k.mem_iff.1 hx) with rfl | hx
    · exact he
    · exact h.defined x hx

/-- The head of a sound queue may go on voice Q over the rest. -/
theorem QueueOk.head {s : State} {e : ChimeEntry} {q : List ChimeEntry} (h : QueueOk s (e :: q)) : Above s e.id q := by
  refine ⟨h.defined e (by simp), fun x hx => ⟨?_, (List.pairwise_cons.1 h.falling).1 x hx⟩⟩
  have := (List.nodup_cons.1 h.once).1
  exact fun he => this (he ▸ List.mem_map_of_mem hx)

theorem keeps_setQueue {q : List ChimeEntry} {s : State} (h : ChimesOk s → ChimesOk (s.setQueue q)) :
    Keeps [] s (s.setQueue q) := keeps_chimes rfl h

theorem chimesOk_startChime {e : ChimeEntry} {s : State} (h : QueueOk s s.chu.queue) (k : Above s e.id s.chu.queue) :
    ChimesOk (startChime e s) := (chimesOk_iff _).2 ⟨⟨h.short, h.once, h.falling, h.defined⟩, nofun, fun _ => k⟩

/-- Voice Q that gives way starts the head of a sound queue, or rests over an empty one (R109). -/
theorem chimesOk_voiceQIdle {s : State} (h : QueueOk s s.chu.queue) : ChimesOk (voiceQIdle s) := by
  unfold voiceQIdle
  dsimp only [State.markDirty]
  split
  · rename_i hq
    exact (chimesOk_iff _).2 ⟨⟨h.short, h.once, h.falling, h.defined⟩, fun _ => hq, fun k => absurd rfl k⟩
  · rename_i e rest hq
    rw [hq] at h
    have tail := h.sublist (List.sublist_cons_self e rest)
    exact chimesOk_startChime ⟨tail.short, tail.once, tail.falling, tail.defined⟩ h.head

theorem voiceQIdle_eq (s : State) : ∃ queue q, voiceQIdle s =
    { s with chu := { s.chu with queue := queue, q := q }, seu := { s.seu with dirty := true } } := by
  unfold voiceQIdle startChime
  dsimp only [State.markDirty]
  split <;> exact ⟨_, _, rfl⟩

theorem keeps_voiceQIdle (s : State) : Keeps [] s (voiceQIdle s) := by
  obtain ⟨queue, q, e⟩ := voiceQIdle_eq s
  exact keeps_chimes (by rw [e]; rfl) fun h => chimesOk_voiceQIdle ((chimesOk_iff s).1 h).1

theorem keeps_finishChime (s : State) : Keeps [] s (finishChime s) := (keeps_raiseIf _ _ _ _ s).trans (keeps_voiceQIdle _)

theorem keeps_chimeFinish (s : State) : Keeps [] s (chimeFinish s) := by
  unfold chimeFinish
  exact .ite (keeps_finishChime s) (.refl _ s)

theorem keeps_noteOver (s : State) : Keeps [] s (noteOver s) := by
  unfold noteOver
  refine .ite (.ite (keeps_finishChime s) ?_) (.refl _ s)
  split
  · exact .refl _ s
  · exact .ite (keeps_of_vital rfl) (.ite (keeps_of_vital rfl) (keeps_of_vital rfl))

theorem keeps_gapOver (s : State) : Keeps [] s (gapOver s) := by
  unfold gapOver
  refine .ite ?_ (.refl _ s)
  split
  · exact .refl _ s
  · exact keeps_of_vital rfl

theorem keeps_releaseOver (s : State) : Keeps [] s (releaseOver s) := by
  unfold releaseOver
  exact .ite (keeps_voiceQIdle s) (.refl _ s)

/-! ### Requests to play and cancelling -/

/-- The chime that gives way goes back into the queue, or is dropped; the queue stays below what preempts it (R107). -/
theorem displace_queue (s : State) (h : ChimesOk s) : QueueOk s (displace s).1.chu.queue ∧
    (∀ x ∈ (displace s).1.chu.queue, x ∈ s.chu.queue ∨ s.chu.q.st = .playing ∧ x.id = s.chu.q.id) := by
  obtain ⟨ok, _, above⟩ := (chimesOk_iff s).1 h
  unfold displace
  dsimp only
  split
  · exact ⟨ok, fun x hx => .inl hx⟩
  · rename_i playing
    rw [ne_eq, not_not] at playing
    split
    · exact ⟨ok, fun x hx => .inl hx⟩
    · obtain ⟨defined, below⟩ := above (by rw [playing]; simp)
      have perm := reinsertEntry_perm s.chimePriority ⟨s.chu.q.id, s.chu.q.engage⟩ s.chu.queue
      have mem : ∀ x ∈ reinsertEntry s.chimePriority ⟨s.chu.q.id, s.chu.q.engage⟩ s.chu.queue,
          x ∈ s.chu.queue ∨ s.chu.q.st = .playing ∧ x.id = s.chu.q.id := fun x hx => by
        rcases List.mem_cons.1 (perm.mem_iff.1 hx) with rfl | hx
        · exact .inr ⟨playing, rfl⟩
        · exact .inl hx
      have whole (q : List ChimeEntry) (hq : q.Sublist (reinsertEntry s.chimePriority ⟨s.chu.q.id, s.chu.q.engage⟩ s.chu.queue))
          (short : q.length ≤ 16) : QueueOk s q := by
        refine ⟨short, List.Nodup.sublist (hq.map _) ?_, List.Pairwise.sublist hq ok.falling.reinsert, fun x hx => ?_⟩
        · rw [(perm.map ChimeEntry.id).nodup_iff, List.map_cons, List.nodup_cons, List.mem_map]
          exact ⟨fun ⟨x, hx, hx'⟩ => (below x hx).1 hx', ok.once⟩
        · rcases mem x (hq.subset hx) with hx | ⟨_, hx⟩
          · exact ok.defined x hx
          · exact hx ▸ defined
      split
      · rename_i short
        exact ⟨whole _ (.refl _) short, mem⟩
      · refine ⟨whole _ (List.dropLast_sublist _) ?_, fun x hx => mem x ((List.dropLast_sublist _).subset hx)⟩
        show (List.dropLast _).length ≤ 16
        rw [List.length_dropLast, perm.length_eq, List.length_cons]
        have := ok.short
        omega

theorem displace_eq (s : State) : ∃ queue dirty, (displace s).1 =
    { s with chu := { s.chu with queue := queue }, seu := { s.seu with dirty := dirty } } := by
  unfold displace
  dsimp only
  split_ifs <;> exact ⟨_, _, rfl⟩

theorem keeps_startChime {e : ChimeEntry} {s : State} (h : ChimesOk s → QueueOk s s.chu.queue ∧ Above s e.id s.chu.queue) :
    Keeps [] s (startChime e s) := keeps_chimes rfl fun k => chimesOk_startChime (h k).1 (h k).2

theorem not_mem_ids {q : List ChimeEntry} {id : Nat} (h : ¬(q.any fun x => decide (x.id = id)) = true) : ∀ x ∈ q, x.id ≠ id := by
  simpa using h

theorem keeps_requestFull {e : ChimeEntry} {s : State} (he : s.chimeDef e.id ≠ none) (new : ∀ x ∈ s.chu.queue, x.id ≠ e.id)
    (busy : s.chu.q.st ≠ .idle) (other : e.id ≠ s.chu.q.id) (low : s.chimePriority e.id ≤ s.chimePriority s.chu.q.id) :
    Keeps [] s (requestFull e s).1.1 := by
  unfold requestFull
  split
  · exact .refl _ s
  · rename_i last hlast
    split
    · refine keeps_setQueue fun h => (chimesOk_iff _).2 ?_
      obtain ⟨ok, _, above⟩ := (chimesOk_iff s).1 h
      have sub := List.dropLast_sublist s.chu.queue
      have perm := insertEntry_perm s.chimePriority e s.chu.queue.dropLast
      have room : s.chu.queue.dropLast.length < 16 := by
        have : s.chu.queue ≠ [] := fun hn => by simp [hn] at hlast
        have := List.length_pos_iff.2 this
        have := ok.short
        rw [List.length_dropLast]
        omega
      have q := (ok.sublist sub).perm perm (ok.sublist sub).falling.insert room (fun x hx => new x (sub.subset hx)) he
      refine ⟨⟨q.short, q.once, q.falling, q.defined⟩, fun hi => absurd hi busy, fun _ => ⟨(above busy).1, fun x hx => ?_⟩⟩
      rcases List.mem_cons.1 (perm.mem_iff.1 hx) with rfl | hx
      · exact ⟨other, low⟩
      · exact (above busy).2 x (sub.subset hx)
    · exact .refl _ s

theorem keeps_requestChime (e : ChimeEntry) (restart : Bool) (s : State) : Keeps [] s (requestChime e restart s).1.1 := by
  unfold requestChime
  dsimp only
  split
  · exact .refl _ s
  rename_i def1
  have he : s.chimeDef e.id ≠ none := fun h => def1 (.inr (by simp [h]))
  split
  · exact .refl _ s
  rename_i new
  replace new := not_mem_ids new
  split
  · exact .refl _ s
  split
  · rename_i on
    simp only [ne_eq, decide_eq_true_eq] at on
    refine keeps_startChime fun h => ?_
    obtain ⟨ok, _, above⟩ := (chimesOk_iff s).1 h
    exact ⟨ok, on.2 ▸ above on.1⟩
  rename_i off
  split
  · rename_i idle
    refine keeps_startChime fun h => ?_
    obtain ⟨ok, empty, _⟩ := (chimesOk_iff s).1 h
    exact ⟨ok, he, by simp [empty idle]⟩
  rename_i busy
  have other : e.id ≠ s.chu.q.id := fun h => off (by simp [busy, h])
  split
  · rename_i high
    obtain ⟨queue, dirty, e1⟩ := displace_eq s
    have start : Keeps [] s (startChime e (displace s).1) := by
      refine keeps_chimes (by rw [e1]; rfl) fun h => ?_
      obtain ⟨ok, mem⟩ := displace_queue s h
      obtain ⟨_, _, above⟩ := (chimesOk_iff s).1 h
      rw [e1] at ok mem ⊢
      refine chimesOk_startChime ⟨ok.short, ok.once, ok.falling, ok.defined⟩ ⟨he, fun x hx => ?_⟩
      rcases mem x hx with hx | ⟨_, hx⟩
      · exact ⟨new x hx, ((above busy).2 x hx).2.trans (Nat.le_of_lt high)⟩
      · exact ⟨hx ▸ other.symm, hx ▸ Nat.le_of_lt high⟩
    exact start
  rename_i low
  replace low := Nat.le_of_not_lt low
  split
  · rename_i room
    refine keeps_setQueue fun h => (chimesOk_iff _).2 ?_
    obtain ⟨ok, _, above⟩ := (chimesOk_iff s).1 h
    have perm := insertEntry_perm s.chimePriority e s.chu.queue
    have q := ok.perm perm ok.falling.insert room new he
    refine ⟨⟨q.short, q.once, q.falling, q.defined⟩, fun hi => absurd hi busy, fun _ => ⟨(above busy).1, fun x hx => ?_⟩⟩
    rcases List.mem_cons.1 (perm.mem_iff.1 hx) with rfl | hx
    · exact ⟨other, low⟩
    · exact (above busy).2 x hx
  · exact keeps_requestFull he new busy other low

theorem keeps_requestEngage (id : Nat) (s : State) : Keeps [] s (requestEngage id s).1 := by
  unfold requestEngage
  dsimp only
  split <;> exact keeps_requestChime ..

theorem keeps_doChimePlay (r : Rec) (s : State) : Keeps [] s (doChimePlay r s) :=
  (keeps_requestChime ⟨r.op1.toNat, false⟩ (flag r.op2 0) s).raised.trans (keeps_finish ..)

theorem keeps_heldEnvelope (env : Option Nat) (s : State) : Keeps [] s (heldEnvelope env s).2 := by
  unfold heldEnvelope
  split
  · exact .refl _ s
  · exact keeps_of_vital rfl

theorem keeps_cancelVoiceQ {s : State} (playing : s.chu.q.st = .playing) : Keeps [] s (cancelVoiceQ s) := by
  unfold cancelVoiceQ
  dsimp only
  refine .ite (keeps_voiceQIdle s) ((keeps_heldEnvelope s.chu.q.env s).trans ?_)
  have chu : (heldEnvelope s.chu.q.env s).2.chu = s.chu := by
    unfold heldEnvelope
    split <;> rfl
  generalize heldEnvelope s.chu.q.env s = h at chu
  refine keeps_chimes rfl fun k => (chimesOk_iff _).2 ?_
  obtain ⟨ok, _, above⟩ := (chimesOk_iff _).1 k
  refine ⟨⟨ok.short, ok.once, ok.falling, ok.defined⟩, nofun, fun _ => ?_⟩
  show Above h.2 s.chu.q.id h.2.chu.queue
  rw [← congrArg Chu.q chu]
  exact above (by rw [chu, playing]; simp)

theorem keeps_doChimeCancel (r : Rec) (s : State) : Keeps [] s (doChimeCancel r s) := by
  unfold doChimeCancel
  dsimp only
  refine .ite (keeps_finish ..) (Keeps.trans ?_ (keeps_finish ..))
  have kept (p : ChimeEntry → Bool) : Keeps [] s (s.setQueue (s.chu.queue.filter p)) := keeps_setQueue fun h => by
    obtain ⟨ok, empty, above⟩ := (chimesOk_iff s).1 h
    have q := ok.sublist (List.filter_sublist (p := p))
    exact (chimesOk_iff _).2 ⟨⟨q.short, q.once, q.falling, q.defined⟩, fun i => by simp [State.setQueue, empty i],
      fun b => ⟨(above b).1, fun x hx => (above b).2 x (List.mem_of_mem_filter hx)⟩⟩
  generalize hu : (if _ = 0 then s else s.setQueue _) = u
  have removed : Keeps [] s u := hu ▸ .ite (.refl _ s) (kept _)
  refine removed.trans ?_
  split
  · rename_i h
    exact keeps_cancelVoiceQ h.1
  · exact .refl _ _

/-! ### The chime table, the proximity warning, samples -/

theorem keeps_doChimeTable (r : Rec) (s : State) : Keeps [] s (doChimeTable r s) := by
  unfold doChimeTable
  exact .ite (keeps_finish ..) (.ite (keeps_finish ..) (keeps_beginRead ..))

/-- A table is replaced while no chime is on voice Q or waits (R102). -/
theorem keeps_chimeTableRead (ws : List Word) (s : State) : Keeps [] s (chimeTableRead ws s) := by
  unfold chimeTableRead
  split
  · exact keeps_finish ..
  · rename_i quiet
    simp only [chimesQuiet, Bool.not_eq_true', Bool.not_eq_false, Bool.and_eq_true, decide_eq_true_eq, List.isEmpty_iff] at quiet
    obtain ⟨idle, empty⟩ := quiet
    dsimp only
    split
    · exact keeps_finish ..
    · refine Keeps.trans (keeps_chimes ?_ fun _ => (chimesOk_iff _).2 ?_) (keeps_finish ..)
      · rfl
      rw [State.markDirty_chu]
      refine ⟨?_, fun _ => empty, fun h => absurd idle h⟩
      constructor <;> simp [empty, Falling]

theorem keeps_stopChimes (s : State) : Keeps [] s (stopChimes s) :=
  keeps_chimes rfl fun _ => (chimesOk_iff _).2 ⟨by constructor <;> simp [stopChimes, Falling], fun _ => rfl, fun h => absurd rfl h⟩

theorem keeps_setVoiceP (v : VoiceP) (s : State) : Keeps [] s (s.setVoiceP v) := by
  unfold State.setVoiceP
  exact Keeps.trans (t := { s with chu := { s.chu with p := v } }) (keeps_of_vital rfl) (keeps_dirtyIf ..)

theorem keeps_zoneChange (s : State) : Keeps [] s (zoneChange s) := by
  unfold zoneChange
  dsimp only
  split
  · exact .refl _ s
  · exact .refl _ s
  · exact .ite (keeps_setVoiceP ..) (.refl _ s)
  · exact .ite (keeps_setVoiceP ..) (.refl _ s)
  · exact (keeps_heldEnvelope ..).trans (keeps_setVoiceP ..)
  · exact keeps_setVoiceP ..

theorem keeps_syncVoiceP (z : Nat) (s : State) : Keeps [] s (syncVoiceP z s) := by
  unfold syncVoiceP
  exact .ite (keeps_setVoiceP ..) (.ite (keeps_setVoiceP ..) (.ite (.refl _ s) (keeps_zoneChange s)))

theorem keeps_beepOver (s : State) : Keeps [] s (beepOver s) := by
  unfold beepOver
  exact .ite ((keeps_setVoiceP ..).trans (keeps_markDirty _)) (.refl _ s)

theorem keeps_proximityGapOver (s : State) : Keeps [] s (proximityGapOver s) := by
  unfold proximityGapOver
  exact .ite (keeps_setVoiceP ..) (.refl _ s)

theorem keeps_toneReleaseOver (s : State) : Keeps [] s (toneReleaseOver s) := by
  unfold toneReleaseOver
  exact .ite (keeps_setVoiceP ..) (.refl _ s)

theorem keeps_doProximitySetup (r : Rec) (s : State) : Keeps [] s (doProximitySetup r s) := by
  unfold doProximitySetup
  exact .ite (keeps_finish ..) (keeps_beginRead ..)

theorem keeps_proximityRead (ws : List Word) (s : State) : Keeps [] s (proximityRead ws s) := by
  unfold proximityRead
  split
  · exact keeps_finish ..
  · rename_i x _
    have stored : Keeps [] s ({ s with chu := { s.chu with prox := x } } : State).markDirty := keeps_of_vital rfl
    exact (stored.trans (keeps_syncVoiceP ..)).trans (keeps_finish ..)

theorem sampleQ_voice (s : State) : (sampleQ s).2.st = s.chu.q.st ∧ (sampleQ s).2.id = s.chu.q.id := by
  unfold sampleQ
  dsimp only
  split
  · rename_i h; exact ⟨rfl, rfl⟩
  · split <;> exact ⟨rfl, rfl⟩
  · exact ⟨rfl, rfl⟩

theorem keeps_doLineSample (s : State) : Keeps [] s (doLineSample s) := by
  have ends : Keeps [] s (voiceEnds s) :=
    (((((keeps_noteOver s).trans (keeps_gapOver _)).trans (keeps_releaseOver _)).trans (keeps_beepOver _)).trans
      (keeps_proximityGapOver _)).trans (keeps_toneReleaseOver _)
  unfold doLineSample
  refine ends.trans (keeps_of_vital ?_)
  obtain ⟨st, id⟩ := sampleQ_voice (voiceEnds s)
  simp only [vital, st, id]

end Sys2Proof.Proofs
end

section
/-! PROOFS. What the Guide Engine and the Reverse Controller keep (04, 05). -/

namespace Sys2Proof.Proofs

open Sys2Proof.Machine Sys2Proof.Safety

/-! ### The banks (R97, R98) -/

/-- What `BanksOk` says of one bank. -/
def BankOk (b : List Span) : Prop := (∀ row, (rowSpans b row).length ≤ 8) ∧ ∀ sp ∈ b, 0 ≤ sp.row ∧ 0 ≤ sp.first

theorem banksOk_iff (s : State) : BanksOk s ↔ BankOk s.gde.bank0 ∧ BankOk s.gde.bank1 :=
  ⟨fun h => ⟨h _ (.inl rfl), h _ (.inr rfl)⟩, fun ⟨h0, h1⟩ b hb => by
    rcases hb with rfl | rfl
    · exact h0
    · exact h1⟩

theorem bankOk_nil : BankOk [] := ⟨by simp [rowSpans], by simp⟩

theorem bankOk_fileSpan {d : Drawing} {sp : Span} (h : BankOk d.bank) (k : 0 ≤ sp.row ∧ 0 ≤ sp.first) :
    BankOk (fileSpan d sp).bank := by
  unfold fileSpan
  split
  · rename_i room
    refine ⟨fun row => ?_, fun x hx => ?_⟩
    · simp only [rowSpans, List.filter_append, List.length_append]
      by_cases e : sp.row = row
      · simpa [e] using e ▸ room
      · simpa [e] using (show (d.bank.filter fun sp => decide (sp.row = row)).length ≤ 8 from h.1 row)
    · rcases List.mem_append.1 hx with hx | hx
      · exact h.2 x hx
      · exact List.mem_singleton.1 hx ▸ k
  · exact h

/-- A clipped span begins in the area, on a row of it (R97). -/
theorem clipSpan_nonneg {wa ha strip : Nat} {sp x : Span} (h : clipSpan wa ha strip sp = some x) : 0 ≤ x.row ∧ 0 ≤ x.first := by
  unfold clipSpan at h
  split at h
  · cases h
  · obtain rfl := Option.some.inj h
    dsimp only
    omega

theorem bankOk_foldl {sps : List Span} {d : Drawing} (h : BankOk d.bank) (k : ∀ sp ∈ sps, 0 ≤ sp.row ∧ 0 ≤ sp.first) :
    BankOk (sps.foldl fileSpan d).bank := by
  induction sps generalizing d with
  | nil => exact h
  | cons sp sps ih => exact ih (bankOk_fileSpan h (k sp (by simp))) fun x hx => k x (by simp [hx])

theorem bankOk_drawCaptured (c : Captured) : BankOk (drawCaptured c).bank := by
  unfold drawCaptured
  split
  · refine bankOk_foldl bankOk_nil fun sp hsp => ?_
    obtain ⟨x, _, hx⟩ := List.mem_filterMap.1 hsp
    exact clipSpan_nonneg hx
  · exact bankOk_nil

/-- The idle bank given sound contents. -/
theorem setIdleBank_ok {b : List Span} {g : Gde} (hb : BankOk b) (h : BankOk g.bank0 ∧ BankOk g.bank1) :
    BankOk (g.setIdleBank b).bank0 ∧ BankOk (g.setIdleBank b).bank1 := by
  unfold Gde.setIdleBank
  split
  · exact ⟨hb, h.2⟩
  · exact ⟨h.1, hb⟩

/-- A change of the Guide Engine that keeps both banks sound. -/
theorem keeps_setGde {g : Gde} {s : State} (h : BankOk s.gde.bank0 ∧ BankOk s.gde.bank1 → BankOk g.bank0 ∧ BankOk g.bank1) :
    Keeps [] s (s.setGde g) := keeps_guide rfl fun k => (banksOk_iff _).2 (h ((banksOk_iff s).1 k))

theorem keeps_sameBanks {g : Gde} {s : State}
    (h : g.bank0 = s.gde.bank0 ∧ g.bank1 = s.gde.bank1 := by exact ⟨rfl, rfl⟩) : Keeps [] s (s.setGde g) :=
  keeps_setGde fun k => by rwa [h.1, h.2]

theorem keeps_startRecompute (s : State) : Keeps [] s (startRecompute s) := by
  refine Keeps.trans (keeps_setGde fun h => ?_) (keeps_markDirty _)
  exact setIdleBank_ok bankOk_nil h

theorem keeps_trigger (s : State) : Keeps [] s (trigger s) := by
  unfold trigger
  refine .ite (.refl _ s) ?_
  split
  · exact .ite (Keeps.trans keeps_sameBanks (keeps_markDirty _)) (keeps_startRecompute s)
  · exact Keeps.trans keeps_sameBanks (keeps_dirtyIf ..)
  · exact .refl _ s

theorem keeps_triggerIf (b : Bool) (s : State) : Keeps [] s (triggerIf b s) := by
  unfold triggerIf
  exact .ite (keeps_trigger s) (.refl _ s)

theorem keeps_takeSteer (v : Word) (s : State) : Keeps [] s (takeSteer v s) := by
  unfold takeSteer
  exact (Keeps.trans keeps_sameBanks (keeps_dirtyIf ..)).trans (keeps_triggerIf ..)

theorem keeps_takeObstacle (v : Word) (s : State) : Keeps [] s (takeObstacle v s) := by
  unfold takeObstacle
  exact ((Keeps.trans keeps_sameBanks (keeps_dirtyIf ..)).trans (keeps_triggerIf ..)).trans (keeps_syncVoiceP ..)

theorem keeps_steeringExpiry (s : State) : Keeps [] s (steeringExpiry s) := by
  unfold steeringExpiry
  exact .ite (((Keeps.trans keeps_sameBanks (keeps_markDirty _)).trans (keeps_raiseIf ..)).trans (keeps_triggerIf ..)) (.refl _ s)

theorem keeps_obstacleExpiry (s : State) : Keeps [] s (obstacleExpiry s) := by
  unfold obstacleExpiry
  exact .ite (((Keeps.trans keeps_sameBanks (keeps_markDirty _)).trans (keeps_triggerIf ..)).trans (keeps_syncVoiceP ..)) (.refl _ s)

theorem keeps_doGuideSetup (r : Rec) (s : State) : Keeps [] s (doGuideSetup r s) := by
  unfold doGuideSetup
  exact .ite (keeps_finish ..) (keeps_beginRead ..)

theorem keeps_guideRead (ws : List Word) (s : State) : Keeps [] s (guideRead ws s) := by
  unfold guideRead
  split
  · exact keeps_finish ..
  · refine .ite ((Keeps.trans keeps_sameBanks (keeps_markDirty _)).trans (keeps_finish ..)) ?_
    exact ((Keeps.trans keeps_sameBanks (keeps_markDirty _)).trans (keeps_trigger _)).trans (keeps_finish ..)

theorem installPending_banks (g : Gde) : g.installPending.bank0 = g.bank0 ∧ g.installPending.bank1 = g.bank1 := by
  unfold Gde.installPending
  split <;> exact ⟨rfl, rfl⟩

theorem keeps_guideActive (s : State) : Keeps [] s (guideActive s) := by
  unfold guideActive
  exact (Keeps.trans keeps_sameBanks (keeps_markDirty _)).trans (keeps_trigger _)

theorem keeps_guideInactive (s : State) : Keeps [] s (guideInactive s) := by
  obtain ⟨h0, h1⟩ := installPending_banks s.gde
  refine Keeps.trans (keeps_setGde fun h => ?_) (keeps_markDirty _)
  simpa only [h0, h1] using h

theorem keeps_syncGuide (was : Bool) (s : State) : Keeps [] s (syncGuide was s) := by
  unfold syncGuide
  exact .ite (keeps_guideActive s) (.ite (keeps_guideInactive s) (.refl _ s))

theorem keeps_recomputeOver (s : State) : Keeps [] s (recomputeOver s) := by
  have install (t : State) (r : Recompute) :
      Keeps [] t (t.setGde { t.gde.installPending with recompute := r, pendingFlag := false }).markDirty := by
    obtain ⟨h0, h1⟩ := installPending_banks t.gde
    refine Keeps.trans (keeps_setGde fun h => ?_) (keeps_markDirty _)
    simpa only [h0, h1] using h
  unfold recomputeOver
  refine .ite ?_ (.refl _ s)
  have drawn : Keeps [] s (s.setGde { s.gde.setIdleBank (drawCaptured s.gde.captured).bank with idle := .complete }).markDirty := by
    refine Keeps.trans (keeps_setGde fun h => ?_) (keeps_markDirty _)
    exact setIdleBank_ok (bankOk_drawCaptured _) h
  exact (drawn.trans (keeps_raiseIf ..)).trans (install _ _)

theorem keeps_swapBanks (s : State) : Keeps [] s (swapBanks s) := by
  unfold swapBanks
  refine .ite (Keeps.trans keeps_sameBanks (keeps_markDirty _)) (.ite ?_ (.refl _ s))
  refine Keeps.trans (keeps_setGde fun h => ?_) (keeps_markDirty _)
  split
  · exact ⟨h.1, bankOk_nil⟩
  · exact ⟨bankOk_nil, h.2⟩

theorem keeps_guideFrameStart (s : State) : Keeps [] s (guideFrameStart s) := by
  unfold guideFrameStart
  exact (keeps_swapBanks s).trans (.ite (keeps_startRecompute _) (.refl _ _))

/-! ### What the couplings leave alone -/

/-- The Guide Engine's own work. -/
def GuideOnly (s t : State) : Prop := ∃ gde dirty, t = { s with gde := gde, seu := { s.seu with dirty := dirty } }

theorem GuideOnly.refl (s : State) : GuideOnly s s := ⟨_, _, rfl⟩

theorem trigger_guideOnly (s : State) : GuideOnly s (trigger s) := by
  unfold trigger startRecompute
  split
  · exact .refl s
  · split
    · split <;> exact ⟨_, _, rfl⟩
    · exact ⟨_, _, dirtyIf_eq ..⟩
    · exact .refl s

theorem GuideOnly.trans {s t u : State} (h : GuideOnly s t) (k : GuideOnly t u) : GuideOnly s u := by
  obtain ⟨g, d, rfl⟩ := h
  obtain ⟨g', d', rfl⟩ := k
  exact ⟨g', d', rfl⟩

theorem syncGuide_guideOnly (was : Bool) (s : State) : GuideOnly s (syncGuide was s) := by
  unfold syncGuide guideActive guideInactive
  split
  · exact GuideOnly.trans ⟨_, _, rfl⟩ (trigger_guideOnly _)
  · split
    · exact ⟨_, _, rfl⟩
    · exact .refl s

/-- Voice P's own work. -/
def VoicePOnly (s t : State) : Prop :=
  ∃ p dirty free, t = { s with chu := { s.chu with p := p }, seu := { s.seu with dirty := dirty }, free := free }

theorem VoicePOnly.refl (s : State) : VoicePOnly s s := ⟨_, _, _, rfl⟩

theorem setVoiceP_only (v : VoiceP) (s : State) : VoicePOnly s (s.setVoiceP v) := ⟨v, _, _, dirtyIf_eq ..⟩

theorem zoneChange_only (s : State) : VoicePOnly s (zoneChange s) := by
  unfold zoneChange
  dsimp only
  split
  · exact .refl s
  · exact .refl s
  · split
    · exact setVoiceP_only ..
    · exact .refl s
  · split
    · exact setVoiceP_only ..
    · exact .refl s
  · unfold heldEnvelope
    split
    · exact setVoiceP_only ..
    · exact ⟨_, _, _, dirtyIf_eq ..⟩
  · exact setVoiceP_only ..

theorem syncVoiceP_only (z : Nat) (s : State) : VoicePOnly s (syncVoiceP z s) := by
  unfold syncVoiceP
  split
  · exact setVoiceP_only ..
  · split
    · exact setVoiceP_only ..
    · split
      · exact .refl s
      · exact zoneChange_only s

/-- Capture start and stop: the camera, the memory, the port, the monitor, status-dirty. -/
def CaptureOnly (s t : State) : Prop := ∃ ccu mem ppw fma dirty,
  t = { s with ccu := ccu, mem := mem, ppw := ppw, fma := fma, seu := { s.seu with dirty := dirty } }

theorem syncCapture_only (was : Bool) (s : State) : CaptureOnly s (syncCapture was s).1 := by
  unfold syncCapture
  split
  · obtain ⟨mem, ppw, fma, e⟩ := dropAtCaptureStart_eq (s.setCcu { s.ccu with frame := none }).markDirty
    exact ⟨_, _, _, _, _, e⟩
  · split
    · unfold stopCapture
      dsimp only
      split
      · exact ⟨_, _, _, _, _, rfl⟩
      · split <;> exact ⟨_, _, _, _, _, rfl⟩
    · exact ⟨_, _, _, _, _, rfl⟩

/-! ### The reverse state -/

/-- A move of the reverse state moves nothing else of the Reverse Controller. -/
theorem moveReverse_rvc (st : RevState) (s : State) : (moveReverse st s).1.rvc = { s.rvc with st := st } := by
  unfold moveReverse
  dsimp only
  obtain ⟨p, d, f, e⟩ := syncVoiceP_only s.zone (syncGuide s.reversing
    (syncCapture s.capturing (s.setRvc { s.rvc with st := st }).markDirty).1)
  obtain ⟨g, d', e'⟩ := syncGuide_guideOnly s.reversing (syncCapture s.capturing (s.setRvc { s.rvc with st := st }).markDirty).1
  obtain ⟨c, m, pp, fm, d'', e''⟩ := syncCapture_only s.capturing (s.setRvc { s.rvc with st := st }).markDirty
  rw [e, e', e'']
  rfl

theorem keeps_moveReverse (st : RevState) (s : State) : Keeps [.reverse, .contents] s (moveReverse st s).1 := by
  have moved : Keeps [.reverse, .capture] s (s.setRvc { s.rvc with st := st }).markDirty := keeps_reverse rfl
  have captured : Keeps [.capture, .reverse, .contents] s (syncCapture s.capturing (s.setRvc { s.rvc with st := st }).markDirty).1 :=
    (moved.weaken (by decide)).trans ((keeps_syncCapture ..).weaken (by decide))
  have sound : Keeps [.reverse, .contents] s (syncCapture s.capturing (s.setRvc { s.rvc with st := st }).markDirty).1 :=
    captured.also fun h => captureOk_sync (s := (s.setRvc { s.rvc with st := st }).markDirty) h
  exact (sound.trans (keeps_syncGuide ..).but).trans (keeps_syncVoiceP ..).but

/-- Where capture does not start the memory stays. -/
theorem syncCapture_contents {was : Bool} {s : State} (h : s.capturing = true → was = true) : (syncCapture was s).1.mem = s.mem := by
  have starts : ¬(s.capturing && !was) = true := by
    rw [Bool.and_eq_true, Bool.not_eq_true']
    exact fun ⟨now, off⟩ => by rw [h now] at off; cases off
  have stopped : (stopCapture s).mem = s.mem := by
    unfold stopCapture
    dsimp only
    split
    · rfl
    · split <;> rfl
  rw [syncCapture, if_neg starts]
  split
  · exact stopped
  · rfl

/-- Only the entry from NORMAL starts capture (R46). -/
theorem moveReverse_contents {st : RevState} {s : State} (h : s.rvc.st ≠ .normal ∨ st = .normal) :
    (moveReverse st s).1.mem = s.mem := by
  have sync : (syncCapture s.capturing (s.setRvc { s.rvc with st := st }).markDirty).1.mem = s.mem := by
    refine syncCapture_contents (s := (s.setRvc { s.rvc with st := st }).markDirty) fun now => ?_
    have now : (s.ccu.setup.isSome && (s.ccu.enable || decide (st ≠ .normal))) = true := now
    show (s.ccu.setup.isSome && (s.ccu.enable || decide (s.rvc.st ≠ .normal))) = true
    rcases h with reversing | normal
    · rw [decide_eq_true reversing, Bool.or_true, Bool.and_true]
      exact (Bool.and_eq_true _ _ ▸ now).1
    · rw [decide_eq_false (not_not.2 normal), Bool.or_false, Bool.and_eq_true] at now
      rw [now.1, now.2]
      rfl
  exact (keeps_syncVoiceP s.zone _).mem.trans ((keeps_syncGuide s.reversing _).mem.trans sync)

/-- The timers run as `ReverseTimersOk` has them of a Reverse Controller. -/
def TimersOk (r : Rvc) : Prop :=
  (r.engageTimer.isSome = true ↔ r.st = .engaging) ∧ (r.lingerTimer.isSome = true ↔ r.st = .linger) ∧
    (r.st = .live → r.staleTimer.isSome = true) ∧ (r.staleTimer.isSome = true → r.st = .live ∨ r.st = .linger)

/-- A Reverse Controller given other timers, which the rules on capture do not read. -/
theorem keeps_setRvc {r : Rvc} {s : State} (h : r.st = s.rvc.st := by rfl) : Keeps [.reverse] s (s.setRvc r) := by
  have rest : Keeps [.reverse, .capture] s (s.setRvc r) := keeps_reverse rfl
  have capture : CaptureOk s → CaptureOk (s.setRvc r) := by
    simp [CaptureOk, State.capturing, State.reversing, h]
  refine ⟨fun q hq => ?_⟩
  cases q
  case reverse => simp at hq
  case capture => exact capture
  all_goals exact rest.rule _ (by simp)

/-- The reverse state is entered with the timers of `r`, where capture may start. -/
theorem keeps_enter (st : RevState) (r : Rvc) {s : State} (h : r.st = s.rvc.st) (k : TimersOk s.rvc → TimersOk { r with st := st }) :
    Keeps [.contents] s (moveReverse st (s.setRvc r)).1 := by
  refine Keeps.also (r := .reverse) (((keeps_setRvc h).weaken (by decide)).trans (keeps_moveReverse st _)) fun ok => ?_
  show TimersOk (moveReverse st (s.setRvc r)).1.rvc
  rw [moveReverse_rvc]
  exact k ok

/-- The reverse state moves to `st` with the timers of `r`. -/
theorem keeps_move (st : RevState) (r : Rvc) {s : State} (h : r.st = s.rvc.st) (stays : s.rvc.st ≠ .normal ∨ st = .normal)
    (k : TimersOk s.rvc → TimersOk { r with st := st }) : Keeps [] s (moveReverse st (s.setRvc r)).1 :=
  (keeps_enter st r h k).also (moveReverse_contents (s := s.setRvc r) (h.symm ▸ stays))

theorem keeps_releaseShown (s : State) : Keeps [] s (releaseShown s) := by
  unfold releaseShown
  refine .ite ?_ (.refl _ s)
  refine Keeps.trans (Keeps.also (keeps_setCcu _ s) ?_) (keeps_markDirty _)
  rintro ⟨bytes, _, running, writing⟩
  refine ⟨bytes, ?_, running, fun i hi => writing i ?_⟩
  · refine (List.countP_eq_zero.2 fun y hy => ?_).trans_le (Nat.zero_le 1)
    obtain ⟨x, _, rfl⟩ := List.mem_map.1 hy
    split <;> simp_all
  · simp only [State.setCcu_ccu, List.getElem?_map, Option.map_map, Option.map_eq_some_iff, Function.comp] at hi ⊢
    obtain ⟨x, hx, hw⟩ := hi
    exact ⟨x, hx, by split at hw <;> simp_all⟩

theorem keeps_engage {s : State} (h : s.rvc.st = .normal) : Keeps [.contents] s (engage s) := by
  have moved := keeps_enter .engaging
    { s.rvc with engageTimer := some s.rvc.setup.engage, staleTimer := none, releaseAtStop := false } (s := s) rfl fun ok => by
      obtain ⟨_, linger, _, _⟩ := ok
      simpa [TimersOk, h] using linger
  unfold engage
  dsimp only
  refine Keeps.raiseTogether _ (moved.trans ?_)
  split
  · exact .refl _ _
  · exact (keeps_requestEngage ..).but

theorem keeps_enterNormal (s : State) : Keeps [] s (enterNormal s) := by
  unfold enterNormal
  refine (keeps_raise .revReleased (BitVec.ofNat 32 s.rvc.st.code) 0 s).trans ?_
  generalize raise .revReleased (BitVec.ofNat 32 s.rvc.st.code) 0 s = u
  have moved := keeps_move .normal { u.rvc with
    engageTimer := none, staleTimer := none, lingerTimer := none, releaseAtStop := decide (u.scn.ctr.st = .stopping) }
    (s := u) rfl (.inr rfl) fun _ => by simp [TimersOk]
  exact moved.raised.trans (.ite (keeps_releaseShown _) (.refl _ _))

theorem keeps_riseOfR (s : State) : Keeps [.contents] s (riseOfR s) := by
  unfold riseOfR
  split
  · rename_i h
    exact keeps_engage h
  · rename_i h
    dsimp only
    split
    · rename_i stale
      refine (keeps_move .live { s.rvc with lingerTimer := none } rfl (.inl (by simp [h])) fun ok => ?_).raised.but
      obtain ⟨engage, _, _, _⟩ := ok
      have stale' : s.rvc.staleTimer.isSome = true := stale
      simpa [TimersOk, h, stale'] using engage
    · rename_i stale
      have again := keeps_move .engaging { s.rvc with lingerTimer := none, engageTimer := some s.rvc.setup.engage } (s := s) rfl
        (.inl (by simp [h])) fun _ => by
          have stale' : ¬s.rvc.staleTimer.isSome = true := stale
          simp [TimersOk, stale']
      exact again.raised.but
  all_goals exact .refl _ s

theorem keeps_fallOfR (s : State) : Keeps [] s (fallOfR s) := by
  have lingers (b : Bool) (h : s.rvc.st ≠ .normal) := (keeps_move .linger { s.rvc with
    lingerTimer := some s.rvc.setup.linger, engageTimer := none, heldBlanked := b } (s := s) rfl (.inl h)
    fun _ => by simp [TimersOk]).raised
  unfold fallOfR
  split
  · exact .refl _ s
  · exact .refl _ s
  all_goals exact .ite (keeps_enterNormal s) (lingers _ (by simp [*]))

theorem keeps_evaluateR (s : State) : Keeps [.contents] s (evaluateR s) := by
  unfold evaluateR
  refine .ite (.refl _ s) ?_
  have asked : Keeps [] s (s.setRvc { s.rvc with request := s.requestLevel }).markDirty := keeps_of_vital rfl
  exact asked.but.trans (.ite (keeps_riseOfR _) (keeps_fallOfR _).but)

theorem keeps_revExpiry (s : State) : Keeps [.contents] s (revExpiry s) := by
  unfold revExpiry
  refine .ite ?_ (.refl _ s)
  have served : Keeps [] s (s.setRvc { s.rvc with revTimer := none }) := keeps_of_vital rfl
  refine served.but.trans (.ite (.refl _ _) ?_)
  have debounced (u : State) : Keeps [] u (u.setRvc { u.rvc with debounced := u.rvc.rev }).markDirty := keeps_of_vital rfl
  exact (debounced _).but.trans (keeps_evaluateR _)

theorem keeps_doReverseSetup (r : Rec) (s : State) : Keeps [.contents] s (doReverseSetup r s) := by
  unfold doReverseSetup
  split
  · exact (keeps_finish ..).but
  · rename_i new _
    have stored : Keeps [] s (s.setRvc { s.rvc with setup := new }).markDirty := keeps_of_vital rfl
    have evaluated := stored.but.trans (.ite (c := s.rvc.setup.source = new.source) (.refl _ _) (keeps_evaluateR _))
    exact (evaluated.trans (keeps_triggerIf ..).but).trans (keeps_finish ..).but

theorem keeps_engageExpiry (s : State) : Keeps [] s (engageExpiry s) := by
  unfold engageExpiry
  split
  · rename_i h
    refine (keeps_move .blanked { s.rvc with engageTimer := none } rfl (.inl (by simp [h.2])) fun ok => ?_).raised.trans (keeps_raise ..)
    obtain ⟨_, linger, _, stale⟩ := ok
    simp only [h.2] at linger stale
    simpa [TimersOk] using And.intro linger stale
  · exact .refl _ s

theorem keeps_staleExpiry (s : State) : Keeps [] s (staleExpiry s) := by
  unfold staleExpiry
  dsimp only
  split
  · split
    · rename_i live
      have blanks := (keeps_setRvc (r := { s.rvc with staleTimer := none }) (s := s)).trans (keeps_markDirty _).but
      refine (Keeps.raised (Keeps.also (Keeps.also (r := .reverse) ((blanks.weaken (by decide)).trans (keeps_moveReverse .blanked _)) ?_)
        (moveReverse_contents (.inl ?_)))).trans (keeps_raise ..)
      case refine_2 =>
        have live' : s.rvc.st = .live := live
        exact fun normal => nomatch live'.symm.trans (show s.rvc.st = .normal from normal)
      rintro ⟨engage, linger, _, _⟩
      have live' : s.rvc.st = .live := live
      show TimersOk (moveReverse .blanked (s.setRvc { s.rvc with staleTimer := none }).markDirty).1.rvc
      rw [moveReverse_rvc]
      simp only [live'] at engage linger
      simpa [TimersOk] using And.intro engage linger
    · rename_i live
      refine (Keeps.also keeps_setRvc ?_).trans (keeps_markDirty _)
      rintro ⟨engage, linger, _, _⟩
      exact ⟨engage, linger, fun h => absurd h live, nofun⟩
  · exact .refl _ s

theorem keeps_lingerExpiry (s : State) : Keeps [] s (lingerExpiry s) := by
  unfold lingerExpiry
  exact .ite (keeps_enterNormal s) (.refl _ s)

/-! ### The reverse side of a CTR frame -/

theorem countP_modify_shown (slots : List Slot) (i : Nat) (h : ∀ x ∈ slots, x.st ≠ .shown) :
    ((setSlotState slots i .shown).countP fun x => decide (x.st = .shown)) ≤ 1 := by
  unfold setSlotState
  induction slots generalizing i with
  | nil => simp
  | cons x xs ih =>
    have none : (xs.countP fun x => decide (x.st = .shown)) = 0 := by
      simpa [List.countP_eq_zero] using fun y hy => h y (by simp [hy])
    cases i with
    | zero => simp [List.modify_zero_cons, none]
    | succ i =>
      rw [List.modify_succ_cons, List.countP_cons]
      simpa [h x (by simp)] using ih i fun y hy => h y (by simp [hy])

/-- The chosen slot becomes the only SHOWN one (R66). -/
theorem captureOk_select {s : State} (i : Nat) (h : CaptureOk s) :
    CaptureOk (s.setCcu { s.ccu with slots := setSlotState (s.ccu.slots.map fun x =>
      if x.st = .shown ∨ x.st = .ready then { x with st := SlotState.free } else x) i .shown }) := by
  obtain ⟨bytes, _, running, writing⟩ := h
  refine ⟨bytes, countP_modify_shown _ _ fun x hx => ?_, running, fun j hj => writing j ?_⟩
  · obtain ⟨y, _, rfl⟩ := List.mem_map.1 hx
    split <;> simp_all
  · have := (setSlotState_writing (by simp) hj).2
    simp only [List.getElem?_map, Option.map_map, Option.map_eq_some_iff, Function.comp] at this ⊢
    obtain ⟨x, hx, hw⟩ := this
    exact ⟨x, hx, by split at hw <;> simp_all⟩

/-- With a slot to show the reverse state is LIVE with its stale timer restarted (R66). -/
theorem keeps_goLive {u : State} (h : u.rvc.st ≠ .normal ∧ u.rvc.st ≠ .linger) :
    Keeps [] u (let v := u.setRvc { u.rvc with staleTimer := some u.rvc.setup.stale, engageTimer := none }
      if v.rvc.st = .live then v else raised (moveReverse .live v)) := by
  dsimp only
  split
  · rename_i live
    refine Keeps.also keeps_setRvc ?_
    rintro ⟨_, linger, _, _⟩
    have live' : u.rvc.st = .live := live
    exact ⟨by simp [live'], linger, fun _ => rfl, fun _ => .inl live⟩
  · refine (keeps_move .live { u.rvc with staleTimer := some u.rvc.setup.stale, engageTimer := none } rfl (.inl h.1) ?_).raised
    rintro ⟨_, linger, _, _⟩
    simp only [h.2, iff_false] at linger
    simpa [TimersOk] using linger

theorem keeps_selectSlot (s : State) : Keeps [] s (selectSlot s) := by
  unfold selectSlot
  split
  · exact .refl _ s
  · exact .refl _ s
  all_goals
    rename_i st
    split
    · exact .refl _ s
    · rename_i i _
      have picked := ((keeps_setCcu _ s).also (captureOk_select i)).trans (keeps_markDirty _)
      refine picked.trans ?_
      exact keeps_goLive (by simp [st])

/-- The work of the Reverse Controller and the Guide Engine at a CTR frame start. -/
theorem keeps_reverseFrameStart (s : State) : Keeps [] s (reverseFrameStart s) := by
  have noted (u : State) : Keeps [] u ((releaseShown u).setRvc { (releaseShown u).rvc with releaseAtStop := false }) :=
    (keeps_releaseShown u).trans (keeps_of_vital rfl)
  unfold reverseFrameStart
  dsimp only
  refine (((keeps_selectSlot s).trans (.ite (.refl _ _) (noted _))).trans (keeps_guideFrameStart _)).trans (keeps_of_vital rfl)

theorem keeps_reverseStop (s : State) : Keeps [] s (reverseStop s).1 := by
  have noted : Keeps [] s ((releaseShown s).setRvc { (releaseShown s).rvc with releaseAtStop := false }) :=
    (keeps_releaseShown s).trans (keeps_of_vital rfl)
  exact (Keeps.ite noted (.refl _ s)).trans (keeps_of_vital rfl)

end Sys2Proof.Proofs
end

section
/-! PROOFS. What the arbiter, the Film Queue Unit, the scanout units and the Status and Event Unit keep (01, 02, 08, 10). -/

namespace Sys2Proof.Proofs

open Sys2Proof.Machine Sys2Proof.Safety

/-! ### Grants -/

/-- The refreshes owed and the wait counts stay within their bounds (R143, R146). -/
theorem keeps_counted {f : Fma} {s : State} (h : CountsOk s → (∀ c, f.waits.get c ≤ 31) ∧ f.owed ≤ 8)
    (k : f.normal = s.fma.normal ∧ f.reverse = s.fma.reverse := by exact ⟨rfl, rfl⟩) : Keeps [] s { s with fma := f } :=
  keeps_arbiter rfl h fun p => by simpa only [ProfilesOk, k.1, k.2] using p

theorem takeRun_suffix (slot a : Nat) (b : List CaptureItem) : ((takeRun slot a b).2).Sublist b := by
  induction b generalizing a with
  | nil => exact .refl _
  | cons x xs ih =>
    cases x with
    | trailer => exact .refl _
    | pixel sl ad v =>
      unfold takeRun
      split
      · exact (ih (a + 1)).cons _
      · exact .refl _

/-- The bytes that CAPT takes with a grant leave the buffer. -/
theorem captGrant_buffer {s : State} {g : Grant} {rest : List CaptureItem} (h : captGrant s = some (g, rest)) :
    rest.Sublist s.ccu.buffer := by
  unfold captGrant at h
  split at h
  · cases h
  · rename_i slot a b more hb
    obtain ⟨_, rfl⟩ := Prod.mk.inj (Option.some.inj h)
    exact hb ▸ (takeRun_suffix slot (a + 1) more).cons _
  · rename_i hb
    obtain ⟨_, rfl⟩ := Prod.mk.inj (Option.some.inj h)
    exact hb ▸ .refl _

theorem keeps_carryBurst (c : Client) (s : State) : Keeps [] s (carryBurst c s) := by
  have scan (o : Output) (cl : Client) : Keeps [] s (match choosePlane (s.scan o).fetch with
      | none => s
      | some p => s.carry (lineGrant s cl o p)) := by
    split
    · exact .refl _ s
    · exact keeps_carry ..
  cases c with
  | proc =>
    unfold carryBurst
    dsimp only
    split
    · exact .refl _ s
    · exact keeps_carry ..
  | capt =>
    unfold carryBurst
    dsimp only
    split
    · exact .refl _ s
    · rename_i g rest h
      have taken : Keeps [] s { s with ccu := { s.ccu with buffer := rest } } :=
        keeps_frame rfl rfl rfl rfl rfl fun b => ((captGrant_buffer h).countP_le).trans b
      exact taken.trans (keeps_carry ..)
  | serv =>
    unfold carryBurst grantServ
    dsimp only
    split
    · exact keeps_carry ..
    · split
      · exact keeps_carry ..
      · split
        · exact keeps_carry ..
        · exact keeps_of_vital rfl
  | scanC => exact scan .ctr .scanC
  | scanL => exact scan .rl .scanL
  | scanR => exact scan .rr .scanR

theorem keeps_noteGrant (t : Target) (w : Bool) (s : State) : Keeps [] s (noteGrant t w s) := by
  unfold noteGrant
  exact .ite (.ite (keeps_of_vital rfl) (keeps_of_vital rfl)) (.refl _ s)

theorem waitsAfter_le (p : Client → Bool) (t : Target) (w : PerClient Nat) (c : Client) : (waitsAfter p t w).get c ≤ 31 := by
  rw [waitsAfter, PerClient.get_build]
  split
  · exact Nat.zero_le _
  · split
    · exact Nat.min_le_left ..
    · exact Nat.zero_le _

theorem keeps_giveGrant (p : Client → Bool) (t : Target) (w : Bool) (s : State) : Keeps [] s (giveGrant p t w s) := by
  unfold giveGrant
  have counted (u : State) : Keeps [] u { u with fma := { u.fma with waits := waitsAfter p t u.fma.waits } } :=
    keeps_counted fun h => ⟨waitsAfter_le p t _, h.2⟩
  refine ((keeps_noteGrant t w s).trans (counted _)).trans ?_
  split
  · exact keeps_counted fun h => ⟨h.1, (Nat.sub_le ..).trans h.2⟩
  · exact keeps_carryBurst ..

theorem keeps_decideAtEnd (s : State) : Keeps [] s (decideAtEnd s) := by
  unfold decideAtEnd
  refine Keeps.trans (t := { s with fma := { s.fma with memory := .idle } }) (keeps_of_vital rfl) ?_
  dsimp only
  split
  · exact .refl _ _
  · exact keeps_giveGrant ..

theorem keeps_decideFor (c : Client) (s : State) : Keeps [] s (decideFor c s) := by
  unfold decideFor
  dsimp only
  split
  · exact .refl _ s
  · exact keeps_giveGrant ..

theorem keeps_settle (s : State) : Keeps [] s (settle s) := by
  have withdrawn : Keeps [] s (withdrawWaits s) := keeps_counted fun h => ⟨fun c => by
    rw [PerClient.get_build]
    split
    · exact h.1 c
    · exact Nat.zero_le _, h.2⟩
  unfold settle
  refine withdrawn.trans ?_
  dsimp only
  split
  · split
    · exact .ite (keeps_giveGrant ..) (.refl _ _)
    · exact keeps_decideFor ..
    · rename_i c cs _ _
      exact Keeps.trans (t := { withdrawWaits s with free := (withdrawWaits s).free + 1 }) (keeps_of_vital rfl) (keeps_decideFor ..)
  all_goals exact .refl _ _

theorem keeps_refreshTick (s : State) : Keeps [] s (refreshTick s) := by
  unfold refreshTick
  refine .ite (.refl _ s) ?_
  split
  · rename_i h
    exact keeps_counted fun k => ⟨k.1, h⟩
  · exact Keeps.trans (t := { s with fma := { s.fma with lateRun := min 65535 (s.fma.lateRun + 1) } }) (keeps_of_vital rfl)
      (keeps_raise ..)

theorem keeps_doGuardSetup (r : Rec) (s : State) : Keeps [] s (doGuardSetup r s) := by
  unfold doGuardSetup
  exact .ite (keeps_finish ..) (keeps_beginRead ..)

theorem keeps_guardRead (ws : List Word) (s : State) : Keeps [] s (guardRead ws s) := by
  unfold guardRead
  dsimp only
  split
  · exact keeps_finish ..
  · exact keeps_of_vital rfl

/-- A list of six different clients holds them all (R145). -/
theorem mem_of_eachOnce {cs : List Client} (hl : cs.length = 6) (hn : cs.Nodup) (c : Client) : c ∈ cs := by
  have h := (map_code_perm_range hl hn).mem_iff.2 (List.mem_range.2 (code_lt_six c))
  obtain ⟨d, hd, e⟩ := List.mem_map.1 h
  exact code_injective e ▸ hd

theorem keeps_doArbProfile (r : Rec) (s : State) : Keeps [] s (doArbProfile r s) := by
  unfold doArbProfile
  dsimp only
  refine .ite (keeps_finish ..) ?_
  split
  · exact keeps_finish ..
  rename_i order
  simp only [not_or, not_not] at order
  have all := mem_of_eachOnce order.1 order.2
  refine .ite (keeps_finish ..) (.ite (keeps_finish ..) (Keeps.trans (Keeps.ite ?_ ?_) ((keeps_markDirty _).trans (keeps_finish ..))))
  · exact keeps_arbiter rfl id fun h c => ⟨(h c).1, all c⟩
  · exact keeps_arbiter rfl id fun h c => ⟨all c, (h c).2⟩

theorem keeps_doSampleSetup (r : Rec) (s : State) : Keeps [] s (doSampleSetup r s) := by
  unfold doSampleSetup
  exact .ite (keeps_finish ..) (keeps_of_vital rfl)

/-! ### Film queues -/

/-- What `FilmQueuesOk` says of one queue. -/
def FilmOk (q : List FilmEntry) : Prop :=
  q.length ≤ 8 ∧ (q.map FilmEntry.buf).Nodup ∧ q.Pairwise fun a b => a.due ≤ b.due

theorem FilmOk.sublist {q p : List FilmEntry} (h : FilmOk q) (k : p.Sublist q) : FilmOk p :=
  ⟨k.length_le.trans h.1, h.2.1.sublist (k.map _), h.2.2.sublist k⟩

/-- Where each queue is part of the queue before, the queues stay in order. -/
theorem keeps_shorterQueues {q : Fqu} {s : State} (h : ∀ src, (q.film src).queue.Sublist (s.fqu.film src).queue) :
    Keeps [] s (s.setFqu q) := keeps_film rfl fun ok src => FilmOk.sublist (ok src) (h src)

theorem film_setFilm (q : Fqu) (src src' : FilmSource) (f : Film) :
    (q.setFilm src f).film src' = if src' = src then f else q.film src' := by
  by_cases h : src' = src
  · rw [if_pos h, h, Fqu.film_setFilm]
  · rw [if_neg h, Fqu.film_setFilm_ne _ _ _ _ h]

/-- One source given a part of its queue. -/
theorem keeps_setFilm {f : Film} {src : FilmSource} {s : State} (h : f.queue.Sublist (s.fqu.film src).queue) :
    Keeps [] s (s.setFqu (s.fqu.setFilm src f)) := keeps_shorterQueues fun src' => by
  rw [film_setFilm]
  split
  · rename_i e
    exact e ▸ h
  · exact .refl _

theorem keeps_setRear (o : Rear) (x : RearFilm) (s : State) : Keeps [] s (s.setFqu (s.fqu.setRear o x)) :=
  keeps_shorterQueues fun src => by rw [Fqu.film_setRear]

theorem keeps_doFilmBuffers (r : Rec) (s : State) : Keeps [] s (doFilmBuffers r s) := by
  unfold doFilmBuffers
  split
  · exact keeps_finish ..
  · exact .ite (keeps_finish ..) (.ite (keeps_finish ..) (keeps_beginRead ..))

/-- A command that completes with other fields of a source than its queue. -/
theorem keeps_storedFilm {src : FilmSource} {f : Film} {code d : Word} {s : State} (h : f.queue = (s.fqu.film src).queue) :
    Keeps [] s (finish code d (s.setFqu (s.fqu.setFilm src f)).markDirty) :=
  (Keeps.trans (keeps_setFilm (h ▸ .refl _)) (keeps_markDirty _)).trans (keeps_finish ..)

theorem keeps_filmTableRead (ws : List Word) (s : State) : Keeps [] s (filmTableRead ws s) := by
  unfold filmTableRead
  split
  · exact keeps_storedFilm rfl
  · exact keeps_finish ..

theorem keeps_doFilmClock (r : Rec) (s : State) : Keeps [] s (doFilmClock r s) := by
  unfold doFilmClock
  split
  · exact keeps_finish ..
  · exact .ite (keeps_finish ..) (keeps_storedFilm rfl)

/-- An entry of a buffer not queued, not due before the last, goes to the end of a queue with room (R30). -/
theorem FilmOk.post {q : List FilmEntry} {e : FilmEntry} (h : FilmOk q) (room : q.length < 8) (new : ∀ x ∈ q, x.buf ≠ e.buf)
    (due : ∀ x, q.getLast? = some x → x.due ≤ e.due) : FilmOk (q ++ [e]) := by
  obtain ⟨_, once, order⟩ := h
  refine ⟨by rw [List.length_append]; exact room, ?_, ?_⟩
  · simp only [List.map_append, List.map_cons, List.map_nil, List.nodup_append, once, List.nodup_cons, List.not_mem_nil,
      not_false_eq_true, List.nodup_nil, and_self, true_and, List.mem_map, List.mem_singleton]
    rintro _ ⟨x, hx, rfl⟩ _ rfl
    exact new x hx
  · refine List.pairwise_append.2 ⟨order, List.pairwise_singleton .., fun x hx y hy => ?_⟩
    obtain rfl := List.mem_singleton.1 hy
    rcases List.eq_nil_or_concat' q with rfl | ⟨p, l, rfl⟩
    · cases hx
    · have last := due l (by simp)
      rcases List.mem_append.1 hx with hx | hx
      · exact BitVec.le_trans ((List.pairwise_append.1 order).2.2 x hx l (by simp)) last
      · exact List.mem_singleton.1 hx ▸ last

theorem keeps_doFilmPost (r : Rec) (s : State) : Keeps [] s (doFilmPost r s) := by
  unfold doFilmPost
  split
  · exact keeps_finish ..
  rename_i src _
  dsimp only
  split
  · exact keeps_finish ..
  rename_i room
  split
  · exact keeps_finish ..
  split
  · exact keeps_finish ..
  rename_i free
  split
  · exact keeps_finish ..
  rename_i late
  simp only [Bool.not_eq_true', Bool.not_eq_false] at free
  refine Keeps.trans (Keeps.trans (keeps_film ?_ fun ok src' => ?_) (keeps_markDirty _)) (keeps_finish ..)
  · rfl
  · show FilmOk (((s.fqu.setFilm src _).film src').queue)
    rw [film_setFilm]
    split
    · refine FilmOk.post (ok src) (Nat.lt_of_not_le room) ((bufFree_iff ..).1 free).1 fun x hx => ?_
      simpa [hx] using late
    · exact ok src'

theorem keeps_doFilmRoute (r : Rec) (s : State) : Keeps [] s (doFilmRoute r s) := by
  unfold doFilmRoute
  dsimp only
  split
  · exact (Keeps.trans (keeps_setRear ..) (keeps_markDirty _)).trans (keeps_finish ..)
  · exact keeps_finish ..

theorem keeps_doFilmFlush (r : Rec) (s : State) : Keeps [] s (doFilmFlush r s) := by
  unfold doFilmFlush
  split
  · exact keeps_finish ..
  · exact ((Keeps.trans (keeps_setFilm (List.nil_sublist _)) (keeps_markDirty _)).trans (keeps_raiseIf ..)).trans (keeps_finish ..)

theorem promote_suffix {clock : Word} {q skipped rest : List FilmEntry} {found : FilmEntry}
    (h : promote clock q = some (skipped, found, rest)) : q = skipped ++ found :: rest := by
  induction q generalizing skipped with
  | nil => cases h
  | cons e es ih =>
    unfold promote at h
    split at h
    · rename_i sk fo re hp
      obtain ⟨rfl, rfl, rfl⟩ : e :: sk = skipped ∧ fo = found ∧ re = rest := by simpa using h
      rw [ih hp]
      rfl
    · split at h
      · obtain ⟨rfl, rfl, rfl⟩ : [] = skipped ∧ e = found ∧ es = rest := by simpa using h
        rfl
      · cases h

theorem promoted_queue (f : Film) : f.promoted.1.queue.Sublist f.queue := by
  unfold Film.promoted
  split
  · exact .refl _
  · rename_i h
    rw [promote_suffix h]
    exact (List.sublist_cons_self ..).trans (List.sublist_append_right ..)

theorem keeps_changeFqu {q : Fqu} {s : State} (h : ∀ src, (q.film src).queue.Sublist (s.fqu.film src).queue) :
    Keeps [] s (s.changeFqu q) := (keeps_shorterQueues h).trans (keeps_dirtyIf ..)

theorem keeps_filmFrameStart (o : Rear) (s : State) : Keeps [] s (filmFrameStart o s).1 := by
  unfold filmFrameStart
  dsimp only
  split
  · exact keeps_changeFqu fun src => by rw [Fqu.film_setRear]
  · rename_i src _
    refine keeps_changeFqu fun src' => ?_
    rw [Fqu.film_setRear, film_setFilm]
    split
    · rename_i e
      exact e ▸ promoted_queue _
    · exact .refl _

theorem keeps_filmStop (o : Rear) (s : State) : Keeps [] s (filmStop o s).1 := (keeps_setRear ..).trans (keeps_markDirty _)

theorem keeps_filmRestart (s : State) : Keeps [] s (filmRestart s) :=
  Keeps.trans (keeps_shorterQueues (by intro src; cases src <;> exact List.nil_sublist _)) (keeps_markDirty _)

/-! ### Outputs -/

theorem keeps_modScan (s : State) (o : Output) (f : Scan → Scan) : Keeps [] s (s.modScan o f) := keeps_setScan ..

theorem keeps_doPlaneSet (r : Rec) (s : State) : Keeps [] s (doPlaneSet r s) := by
  have stored (o : Output) (v : Scan) : Keeps [] s (finish resDone 0 (s.setScan o v)) := (keeps_setScan ..).trans (keeps_finish ..)
  unfold doPlaneSet
  split
  · refine .ite (keeps_finish ..) (.ite (stored ..) (.ite (stored ..) (.ite (keeps_finish ..) ?_)))
    split
    · exact keeps_finish ..
    · dsimp only
      exact .ite (stored ..) (keeps_finish ..)
  · exact keeps_finish ..

theorem keeps_doOutputTiming (r : Rec) (s : State) : Keeps [] s (doOutputTiming r s) := by
  unfold doOutputTiming
  split
  · exact keeps_finish ..
  · exact .ite (keeps_finish ..) (.ite (keeps_finish ..)
      (((keeps_setScan ..).trans (keeps_triggerIf ..)).trans (keeps_finish ..)))

theorem keeps_doPaletteLoad (r : Rec) (s : State) : Keeps [] s (doPaletteLoad r s) := by
  unfold doPaletteLoad
  split
  · exact keeps_finish ..
  · exact .ite (keeps_finish ..) (keeps_beginRead ..)

theorem keeps_paletteRead (ws : List Word) (s : State) : Keeps [] s (paletteRead ws s) := by
  unfold paletteRead
  split
  · exact keeps_finish ..
  · exact (keeps_modMenu ..).trans (keeps_finish ..)

theorem keeps_doRampLoad (r : Rec) (s : State) : Keeps [] s (doRampLoad r s) := by
  unfold doRampLoad
  split
  · exact keeps_finish ..
  · exact .ite (keeps_finish ..) (.ite (keeps_finish ..) (.ite (keeps_finish ..) (keeps_beginRead ..)))

theorem keeps_rampRead (ws : List Word) (s : State) : Keeps [] s (rampRead ws s) := by
  unfold rampRead
  dsimp only
  split
  · exact keeps_finish ..
  · exact (keeps_modMenu ..).trans (keeps_finish ..)

theorem keeps_doMenuFade (r : Rec) (s : State) : Keeps [] s (doMenuFade r s) := by
  unfold doMenuFade
  split
  · exact keeps_finish ..
  · exact .ite (keeps_finish ..) ((keeps_modMenu ..).trans (keeps_finish ..))

theorem keeps_doPaceSet (r : Rec) (s : State) : Keeps [] s (doPaceSet r s) := by
  unfold doPaceSet
  split
  · exact keeps_finish ..
  · exact .ite (keeps_finish ..) ((keeps_modScan ..).trans (keeps_finish ..))

theorem keeps_dropLine (o : Output) (which : PlaneId → Bool) (s : State) : Keeps [] s (dropLine o which s) := by
  unfold dropLine
  split
  · split
    · exact .ite (keeps_carry ..) (.refl _ s)
    · exact .refl _ s
  all_goals exact .refl _ s

theorem keeps_blocksFrameStart (o : Output) (s : State) : Keeps [] s (blocksFrameStart o s).1 := by
  unfold blocksFrameStart
  split
  · exact keeps_reverseFrameStart s
  · exact (keeps_modMenu ..).trans (keeps_filmFrameStart ..)

theorem keeps_frameStartOf (o : Output) (s : State) : Keeps [] s (frameStartOf o s).1 := by
  unfold frameStartOf
  split
  · exact .refl _ s
  · dsimp only
    refine Keeps.trans ?_ (keeps_modScan ..)
    exact ((keeps_modScan ..).trans (keeps_blocksFrameStart o _)).trans (keeps_dropLine ..)

theorem keeps_doFrameStart (o : Output) (s : State) : Keeps [] s (doFrameStart o s) := by
  unfold doFrameStart
  exact .ite (.refl _ s) (.raiseTogether _ (Keeps.trans (t := (advanceFrames o s).1) (keeps_setScan ..) (keeps_frameStartOf ..)))

theorem keeps_doOutputStart (r : Rec) (s : State) : Keeps [] s (doOutputStart r s) := by
  unfold doOutputStart
  split
  · exact keeps_finish ..
  · exact .ite (keeps_finish ..) ((((keeps_setScan ..).trans (keeps_markDirty _)).trans (keeps_frameStartOf ..)).raised.trans
      (keeps_finish ..))

theorem keeps_doOutputStop (r : Rec) (s : State) : Keeps [] s (doOutputStop r s) := by
  unfold doOutputStop
  split
  · exact keeps_finish ..
  · dsimp only
    split
    · exact ((keeps_setScan ..).trans (keeps_markDirty _)).trans (keeps_finish ..)
    · exact keeps_finish ..
    · exact keeps_finish ..

theorem keeps_doLineStart (o : Output) (s : State) : Keeps [] s (doLineStart o s) := by
  unfold doLineStart
  exact .ite (.refl _ s) (((keeps_dropLine ..).trans (keeps_setScan ..)).trans (keeps_modScan ..))

theorem keeps_lineOver (s : State) : Keeps [] s (lineOver s) := by
  unfold lineOver
  split
  · exact (keeps_markEnded s).trans (.ite (.refl _ _) (keeps_modScan ..))
  · exact .refl _ s

theorem keeps_lastLineOver (s : State) : Keeps [] s (lastLineOver s) := by
  unfold lastLineOver
  split
  · exact keeps_lineOver s
  · exact .refl _ s

theorem keeps_scanStop (o : Output) (s : State) : Keeps [] s (scanStop o s) :=
  ((keeps_modScan ..).trans (keeps_dropLine ..)).trans (keeps_markDirty _)

theorem keeps_stopOutput (o : Output) (s : State) : Keeps [] s (stopOutput o s).1 := by
  unfold stopOutput
  split
  · exact (keeps_filmStop ..).trans (keeps_scanStop ..)
  · exact (keeps_scanStop ..).trans (keeps_reverseStop _)

theorem keeps_doFrameEnd (o : Output) (s : State) : Keeps [] s (doFrameEnd o s) := by
  unfold doFrameEnd
  exact .ite (.refl _ s) (.ite (.raiseTogether _ (keeps_stopOutput o s)) ((keeps_modScan ..).trans (keeps_raiseAll ..)))

theorem keeps_stopAtOnce (r : Rear) (s : State) : Keeps [] s (stopAtOnce r s).1 := by
  unfold stopAtOnce
  dsimp only
  split
  · exact .refl _ s
  · exact keeps_scanStop ..

theorem keeps_disablePlanes (s : State) : Keeps [] s (disablePlanes s) := by
  unfold disablePlanes
  exact ((keeps_modScan ..).trans (keeps_modScan ..)).trans (keeps_modScan ..)

theorem keeps_doSoftRestart (r : Rec) (s : State) : Keeps [] s (doSoftRestart r s) := by
  have stopped := (keeps_stopAtOnce .rl s).trans (keeps_stopAtOnce .rr _)
  have cleared := ((stopped.trans (keeps_filmRestart _)).trans (keeps_disablePlanes _)).trans (keeps_stopChimes _)
  exact (Keeps.raiseTogether _ (cleared.trans (keeps_markDirty _))).trans (keeps_finish ..)

theorem keeps_doLinkChange (o : Rear) (level : Bool) (s : State) : Keeps [] s (doLinkChange o level s) := by
  unfold doLinkChange
  exact .ite (.refl _ s) (keeps_of_vital rfl)

theorem keeps_linkExpiry (o : Rear) (s : State) : Keeps [] s (linkExpiry o s) := by
  unfold linkExpiry
  refine .ite ?_ (.refl _ s)
  exact Keeps.trans (t := { s with links := s.links.set o _ }) (keeps_of_vital rfl) (keeps_raiseIf ..)

end Sys2Proof.Proofs
end

section
/-! PROOFS. What every step keeps: the watched words, the commands, the ends of bursts and the resets, one effect for each row;
and the invariants of the part, each from what its rule keeps. -/

namespace Sys2Proof.Proofs

open Sys2Proof.Machine Sys2Proof.Safety

/-! ### Watched words -/

theorem keeps_setTaken (f : Taken → Taken) (s : State) : Keeps [] s (s.setTaken f) := keeps_of_vital rfl

theorem keeps_takeCmdPost (v : Word) (s : State) : Keeps [] s (takeCmdPost v s) := by
  have posted (t : State) : Keeps [] t (postTo (v.setWidth 8) t) := keeps_of_vital rfl
  rw [takeCmdPost_eq]
  refine (keeps_setTaken (fun t => { t with cmdPost := v }) s).trans ?_
  exact .ite (keeps_raise ..) (.ite (.refl _ _) (.ite (keeps_raise ..)
    (.ite ((posted _).trans (keeps_takeRecord _)) (posted _))))

theorem keeps_takeEvtAck (v : Word) (s : State) : Keeps [] s (takeEvtAck v s) := by
  unfold takeEvtAck
  refine (keeps_setTaken (fun t => { t with evtAck := v }) s).trans ?_
  exact .ite (.refl _ _) (keeps_of_vital rfl)

/-- A pending clear may make flags fall; they stay within what has occurred. -/
theorem keeps_takePendClr (second : Bool) (v : Word) (s : State) : Keeps [.pendingStays] s (takePendClr second v s) := by
  have seu : (takePendClr second v s).seu = { ({ s.seu with pending := pendingLeft second v s.seu } : Seu).evalLines with
      dirty := (takePendClr second v s).seu.dirty } := by
    rw [takePendClr_eq]
  have rest : Keeps [.flags, .lines, .entries, .pendingStays] s (takePendClr second v s) := by
    rw [takePendClr_eq]
    exact keeps_events rfl
  refine ⟨fun r hr => ?_⟩
  cases r
  case flags =>
    intro h
    rw [FlagsOk, seu]
    show pendingLeft second v s.seu &&& s.seu.occurred = pendingLeft second v s.seu
    have h' : s.seu.pending &&& s.seu.occurred = s.seu.pending := h
    rw [pendingLeft, BitVec.and_comm s.seu.pending, BitVec.and_assoc, h']
  case lines => exact fun _ => by rw [LinesOk, seu]; exact ⟨rfl, rfl⟩
  case entries => exact fun h => by rw [EntriesOk, seu]; exact h
  case pendingStays => simp at hr
  all_goals exact rest.rule _ (by simp)

/-- An occurrence of a pending kind is not cleared (R173). -/
theorem keeps_takeOccClr (second : Bool) (v : Word) (s : State) : Keeps [] s (takeOccClr second v s) := by
  have seu : (takeOccClr second v s).seu = { s.seu with occurred := occurredLeft second v s.seu, dirty := (takeOccClr second v s).seu.dirty } := by
    rw [takeOccClr_eq]
  have rest : Keeps [.flags, .lines, .entries, .pendingStays] s (takeOccClr second v s) := by
    rw [takeOccClr_eq]
    exact keeps_events rfl
  refine ⟨fun r hr => ?_⟩
  cases r
  case flags =>
    intro h
    rw [FlagsOk, seu]
    show s.seu.pending &&& occurredLeft second v s.seu = s.seu.pending
    ext i hi
    have hi' := congrArg (fun x : BitVec 36 => x[i]) (show s.seu.pending &&& s.seu.occurred = s.seu.pending from h)
    simp only [occurredLeft, BitVec.getElem_and, BitVec.getElem_not] at hi' ⊢
    revert hi'
    cases s.seu.pending[i] <;> simp +contextual
  case lines => exact fun h => by rw [LinesOk, seu]; exact h
  case entries => exact fun h => by rw [EntriesOk, seu]; exact h
  case pendingStays =>
    show s.seu.pending &&& (takeOccClr second v s).seu.pending = s.seu.pending
    rw [seu]
    exact BitVec.and_self
  all_goals exact rest.rule _ (by simp)

theorem keeps_takeVehicle (v : Word) (s : State) : Keeps [.contents] s (takeVehicle v s) := by
  unfold takeVehicle
  exact ((keeps_setTaken (fun t => { t with vehicle := v }) s).trans (keeps_dirtyIf ..)).but.trans (keeps_evaluateR _)

theorem keeps_takeSteerWord (v : Word) (s : State) : Keeps [] s (takeSteerWord v s) :=
  (keeps_setTaken _ s).trans (keeps_takeSteer ..)

theorem keeps_takeObstacleWord (v : Word) (s : State) : Keeps [] s (takeObstacleWord v s) :=
  (keeps_setTaken _ s).trans (keeps_takeObstacle ..)

theorem keeps_takeSampleClrWord (v : Word) (s : State) : Keeps [] s (takeSampleClrWord v s) :=
  (keeps_setTaken _ s).trans (keeps_takeSampleClr _)

theorem keeps_takeWatched (off : Nat) (v : Word) (s : State) : Keeps [.pendingStays, .contents] s (takeWatched off v s) := by
  unfold takeWatched
  split
  · exact (keeps_takeCmdPost v s).but
  · exact (keeps_takeEvtAck v s).but
  · exact (keeps_takePendClr false v s).weaken (by decide)
  · exact (keeps_takePendClr true v s).weaken (by decide)
  · exact (keeps_takeOccClr false v s).but
  · exact (keeps_takeOccClr true v s).but
  · exact (keeps_takeSteerWord v s).but
  · exact (keeps_takeObstacleWord v s).but
  · exact (keeps_takeVehicle v s).weaken (by decide)
  · exact (keeps_takeSampleClrWord v s).but
  · exact .refl _ s

theorem keeps_deliverWord (a : Nat) (w : WriteWord) (s : State) : Keeps [.pendingStays, .contents] s (deliverWord a w s) := by
  unfold deliverWord
  refine .ite ?_ (.refl _ s)
  dsimp only
  split
  · exact .refl _ s
  · exact keeps_takeWatched ..
  · exact (keeps_raise ..).but

/-- The words are delivered one after another. -/
theorem deliverWords_cons (a : Nat) (w : WriteWord) (ws : List WriteWord) (s : State) :
    deliverWords a (w :: ws) s = deliverWords (a + 4) ws (deliverWord a w s) := by
  delta deliverWords
  rfl

theorem keeps_deliverWords (a : Nat) (ws : List WriteWord) (s : State) : Keeps [.pendingStays, .contents] s (deliverWords a ws s) := by
  induction ws generalizing a s with
  | nil => exact .refl _ s
  | cons w ws ih =>
    rw [deliverWords_cons]
    exact (keeps_deliverWord a w s).trans (ih ..)

/-- After a completion the port is FREE (R121). -/
theorem completeTx_port (q : Request) (data : List Word) (counted : Bool) (s : State) :
    (completeTx q data counted s).ppw.port = .free := by
  unfold completeTx countCompletion State.setMon
  dsimp only
  split_ifs <;> rfl

theorem keeps_writeOver (s : State) : Keeps [.pendingStays, .contents] s (writeOver s) := by
  unfold writeOver
  split
  · rename_i q _ _
    have stored : Keeps [.contents] s { s with mem := writeCells s.mem (requestCells (requestAddr q) q.data) } :=
      keeps_memory rfl (wf_writeCells _)
    have dropped (t : State) : Keeps [.port] t { t with ppw := { t.ppw with tx := none } } := keeps_ppw rfl
    have written : Keeps [.port, .pendingStays, .contents] s (markEnded { s with
        mem := writeCells s.mem (requestCells (requestAddr q) q.data), ppw := { s.ppw with tx := none } }) :=
      ((stored.weaken (by decide)).trans ((dropped _).weaken (by decide))).trans (keeps_markEnded _).but
    refine ((written.trans ((keeps_deliverWords ..).weaken (by decide))).trans (keeps_completeTx ..).but).also fun _ => ?_
    simp [PortOk, completeTx_port]
  · exact .refl _ s

theorem keeps_doEventSetup (r : Rec) (s : State) : Keeps [] s (doEventSetup r s) := by
  have rest : Keeps [.flags, .lines, .entries, .pendingStays] s { s with seu := eventSetupOf r s.seu } := keeps_events rfl
  have set : Keeps [] s { s with seu := eventSetupOf r s.seu } := by
    refine ⟨fun q hq => ?_⟩
    cases q
    case flags => exact id
    case lines => exact fun _ => ⟨rfl, rfl⟩
    case entries => exact id
    case pendingStays => exact BitVec.and_self
    all_goals exact rest.rule _ (by simp)
  exact set.trans (keeps_finish ..)

theorem keeps_recordOver (s : State) : Keeps [.contents] s (recordOver s) := by
  unfold recordOver
  split
  · rename_i ws _
    have stored : Keeps [.contents] s { s with mem := writeWords s.mem s.burstAddr ws } := keeps_memory rfl (wf_writeWords _ _)
    have taken (t : State) : Keeps [] t { t with seu := { t.seu with queue := t.seu.queue.tail } } := by
      have rest : Keeps [.flags, .lines, .entries, .pendingStays] t { t with seu := { t.seu with queue := t.seu.queue.tail } } :=
        keeps_events rfl
      refine ⟨fun q hq => ?_⟩
      cases q
      case entries => exact fun h => List.Nodup.sublist ((List.tail_sublist _).map _) h
      case flags | lines => exact id
      case pendingStays => exact BitVec.and_self
      all_goals exact rest.rule _ (by simp)
    exact (stored.trans (taken _).but).trans (keeps_markEnded _).but
  · exact .refl _ s

theorem keeps_statusBlockOver (s : State) : Keeps [.contents] s (statusBlockOver s) := by
  unfold statusBlockOver
  split
  · rename_i k ws _
    have stored : Keeps [.contents] s { s with mem := writeWords s.mem s.burstAddr ws } := keeps_memory rfl (wf_writeWords _ _)
    refine .ite ((stored.trans ?_).trans (keeps_markEnded _).but) (.refl _ s)
    exact keeps_of_vital rfl
  · exact .refl _ s

theorem keeps_statusOver (s : State) : Keeps [.contents] s (statusOver s) := by
  unfold statusOver
  split
  · rename_i k ws _
    have stored : Keeps [.contents] s { s with mem := writeWords s.mem s.burstAddr ws } := keeps_memory rfl (wf_writeWords _ _)
    refine .ite (.refl _ s) ((stored.trans ?_).trans (keeps_markEnded _).but)
    exact keeps_of_vital rfl
  · exact .refl _ s

/-! ### Commands -/

theorem keeps_doBadKind (k : Byte) (s : State) : Keeps [] s (doBadKind k s) := keeps_finish ..

/-- The commands that start no capture. -/
theorem keeps_otherCommand {k : Byte} (r : Rec) (s : State) (enable : k.toNat ≠ 16) (setup : k.toNat ≠ 17) : Keeps [] s (runCommand k r s) := by
  unfold runCommand
  split
  · exact keeps_doOutputTiming r s
  · exact keeps_doOutputStart r s
  · exact keeps_doOutputStop r s
  · exact keeps_doPlaneSet r s
  · exact keeps_doPaletteLoad r s
  · exact keeps_doRampLoad r s
  · exact keeps_doMenuFade r s
  · exact keeps_doPaceSet r s
  · exact keeps_doFilmBuffers r s
  · exact keeps_doFilmPost r s
  · exact keeps_doFilmFlush r s
  · exact keeps_doFilmRoute r s
  · exact keeps_doFilmClock r s
  · exact keeps_doCameraSetup r s
  · exact keeps_doGammaLoad r s
  · exact absurd ‹_› enable
  · exact absurd ‹_› setup
  · exact keeps_doGuideSetup r s
  · exact keeps_doChimeTable r s
  · exact keeps_doChimePlay r s
  · exact keeps_doChimeCancel r s
  · exact keeps_doProximitySetup r s
  · exact keeps_doGuardSetup r s
  · exact keeps_doArbProfile r s
  · exact keeps_doSampleSetup r s
  · exact keeps_doSoftRestart r s
  · exact keeps_doEventSetup r s
  · exact keeps_doBadKind k s

theorem keeps_runCommand (k : Byte) (r : Rec) (s : State) : Keeps [.contents] s (runCommand k r s) := by
  by_cases enable : k.toNat = 16
  · rw [runCommand, enable]
    exact keeps_doCameraEnable r s
  · by_cases setup : k.toNat = 17
    · rw [runCommand, setup]
      exact keeps_doReverseSetup r s
    · exact (keeps_otherCommand r s enable setup).but

/-- The row of a command keeps what carrying the command out keeps. -/
theorem keeps_onArrival {skip : List Rule} {f : Rec → State → State} (h : ∀ r s, Keeps skip s (f r s)) (k : Byte) (r : Rec) (s : State) :
    Keeps skip s (onArrival k r f s) := by
  unfold onArrival
  exact .ite ((keeps_arriveAs ..).but.trans (h ..)) (.refl _ s)

theorem keeps_badKindArrival (k : Byte) (r : Rec) (s : State) : Keeps [] s (badKindArrival k r s) := by
  unfold badKindArrival
  exact .ite (.refl _ s) (keeps_onArrival (fun _ => keeps_doBadKind k) k r s)

theorem keeps_onReadEnd {skip : List Rule} {f : List Word → State → State} (h : ∀ ws s, Keeps skip s (f ws s)) (k : Byte) (s : State) :
    Keeps skip s (onReadEnd k f s) := by
  unfold onReadEnd
  refine .ite ?_ (.refl _ s)
  split
  · exact (keeps_markEnded s).but.trans (h ..)
  · exact .refl _ s

/-- The ends of the reads that start no capture. -/
theorem keeps_otherRead (s : State) (camera : s.cmu.cmd.kind.toNat ≠ 14) : Keeps [] s (readEnds s) := by
  unfold readEnds
  split
  · exact keeps_onReadEnd keeps_paletteRead _ s
  · exact keeps_onReadEnd keeps_rampRead _ s
  · exact keeps_onReadEnd keeps_filmTableRead _ s
  · exact absurd ‹_› camera
  · exact keeps_onReadEnd keeps_gammaRead _ s
  · exact keeps_onReadEnd keeps_guideRead _ s
  · exact keeps_onReadEnd keeps_chimeTableRead _ s
  · exact keeps_onReadEnd keeps_proximityRead _ s
  · exact keeps_onReadEnd keeps_guardRead _ s
  · exact .refl _ s

theorem keeps_readEnds (s : State) : Keeps [.contents] s (readEnds s) := by
  by_cases camera : s.cmu.cmd.kind.toNat = 14
  · rw [readEnds, camera]
    exact keeps_onReadEnd keeps_cameraRead 14 s
  · exact (keeps_otherRead s camera).but

theorem keeps_consume (s : State) : Keeps [.contents] s (consume s) := by
  unfold consume
  split
  · rename_i ws _
    have stored : Keeps [.contents] s { s with mem := writeWords s.mem s.burstAddr ws } := keeps_memory rfl (wf_writeWords _ _)
    have counted (t : State) : Keeps [] t { t with cmu := { t.cmu with c := s.cmu.c + 1 } } := keeps_of_vital rfl
    exact ((((stored.trans (counted _).but).trans (keeps_markEnded _).but).trans (keeps_raiseIf ..).but).trans
      (keeps_raiseIf ..).but).trans (keeps_takeRecord _).but
  · exact .refl _ s

theorem keeps_burstOver (s : State) : Keeps [.pendingStays, .contents] s (burstOver s) := by
  unfold burstOver
  split
  · exact .refl _ s
  · exact (keeps_readOver s).but
  · exact keeps_writeOver s
  · exact (keeps_lineOver s).but
  · exact (keeps_pixelsOver s).weaken (by decide)
  · exact (Keeps.ite (keeps_trailerOver s) (keeps_trailerHalfOver s)).weaken (by decide)
  · exact (keeps_recordOver s).weaken (by decide)
  · exact ((keeps_arriveAs ..).but.trans (keeps_runCommand ..)).weaken (by decide)
  · have words (ws : List Word) : Keeps [] s (tableWordsArrive ws s) :=
      keeps_of_vital (by unfold tableWordsArrive; rw [markEnded_state]; rfl)
    exact (Keeps.ite (keeps_readEnds s) (words _).but).weaken (by decide)
  · exact (keeps_consume s).weaken (by decide)
  · exact (Keeps.ite (keeps_statusBlockOver s) (keeps_statusOver s)).weaken (by decide)

theorem keeps_doGrantEnd (s : State) : Keeps [.pendingStays, .contents] s (doGrantEnd s) := by
  unfold doGrantEnd
  split
  · exact (keeps_burstOver s).trans (keeps_decideAtEnd _).but
  · exact (keeps_decideAtEnd s).but
  all_goals exact .refl _ s

/-! ### Resets and the millisecond -/

section
variable {phase : Phase} {straps : Straps} {mem : List Host.Cell} {rev rlp rrp due : Bool} {waiting : Option Request}
  {free : Nat} {pending : List Instr}

/-- In the reset state every invariant holds (R135, R136). -/
theorem blocksReset_sound {t : State}
    (h : t = { State.blocksReset phase straps mem rev rlp rrp waiting free pending with initDue := due }) :
    CountsOk t ∧ PortOk t ∧ ProfilesOk t ∧ FilmQueuesOk t ∧ CaptureOk t ∧ ReverseTimersOk t ∧ BanksOk t ∧ ChimesOk t ∧
      FlagsOk t ∧ LinesOk t ∧ EntriesOk t := by
  subst h
  refine ⟨⟨fun c => ?_, Nat.zero_le _⟩, nofun, fun c => ?_, fun src => ?_, ⟨Nat.zero_le _, Nat.zero_le _, nofun, nofun⟩,
    ⟨by simp [State.blocksReset, Reset.rvc], by simp [State.blocksReset, Reset.rvc], nofun, nofun⟩,
    (banksOk_iff _).2 ⟨bankOk_nil, bankOk_nil⟩,
    (chimesOk_iff _).2 ⟨⟨Nat.zero_le _, List.nodup_nil, List.Pairwise.nil, nofun⟩, fun _ => rfl, fun h => absurd rfl h⟩,
    (by decide : Reset.seu.pending &&& Reset.seu.occurred = Reset.seu.pending),
    (by decide : Reset.seu.attnN = (!Reset.seu.attnAsserted) ∧ Reset.seu.alertN = !Reset.seu.alertAsserted), List.nodup_nil⟩
  · cases c <;> exact Nat.zero_le _
  · cases c <;> simp [State.blocksReset, Reset.fma, Reset.profileNormal, Reset.profileReverse]
  · cases src <;> exact ⟨Nat.zero_le _, List.nodup_nil, List.Pairwise.nil⟩

theorem keeps_blocksReset (s : State) (h : Memory.wf s.mem = true → Memory.wf mem = true) :
    Keeps [.pendingStays, .contents] s
      { State.blocksReset phase straps mem rev rlp rrp waiting free s.pending with initDue := due } := by
  obtain ⟨counts, port, profiles, film, capture, reverse, banks, chimes, flags, lines, entries⟩ :=
    blocksReset_sound (phase := phase) (straps := straps) (mem := mem) (rev := rev) (rlp := rlp) (rrp := rrp) (due := due)
      (waiting := waiting) (free := free) (pending := s.pending) rfl
  refine ⟨fun r hr => ?_⟩
  cases r
  case memory => exact h
  case pendingStays | contents => simp at hr
  case commands => exact rfl
  all_goals exact fun _ => by assumption

end

theorem wf_memAfterBurst {s : State} (h : Memory.wf s.mem = true) : Memory.wf s.memAfterBurst = true := by
  unfold State.memAfterBurst
  split
  · split
    · exact wf_writeCells _ h
    · exact h
  · exact wf_writeCells _ h
  · exact wf_writeWords _ _ h
  · exact wf_writeWords _ _ h
  · exact wf_writeWords _ _ h
  · exact wf_writeWords _ _ h
  all_goals exact h

theorem keeps_doPor (memsz : Bool) (caSel : BitVec 4) (s : State) : Keeps [.pendingStays, .contents] s (doPor memsz caSel s) :=
  keeps_blocksReset s fun _ => rfl

theorem keeps_doResetAssert (s : State) : Keeps [.pendingStays, .contents] s (doResetAssert s) := by
  unfold doResetAssert
  exact .ite (.refl _ s) (keeps_blocksReset s wf_memAfterBurst)

theorem keeps_doResetRelease (memsz : Bool) (caSel : BitVec 4) (s : State) :
    Keeps [.pendingStays, .contents] s (doResetRelease memsz caSel s) := by
  unfold doResetRelease
  exact .ite (keeps_blocksReset s id) (.refl _ s)

theorem keeps_memoryReady (s : State) : Keeps [] s (memoryReady s) := by
  have ready : Keeps [] s { s with
      phase := .run, initDue := false, ppw := { s.ppw with port := .free }
      fma := { s.fma with memory := .idle, refreshOn := true } } :=
    Keeps.trans (t := { s with ppw := { s.ppw with port := .free } }) (keeps_port rfl nofun) (keeps_of_vital rfl)
  unfold memoryReady
  refine ready.trans ?_
  dsimp only
  split
  · exact .refl _ _
  · exact keeps_takeNow ..

theorem keeps_initOver (s : State) : Keeps [] s (initOver s) := by
  unfold initOver
  exact .ite (keeps_memoryReady s) (.refl _ s)

theorem keeps_exitOver (s : State) : Keeps [] s (exitOver s) := by
  unfold exitOver
  exact .ite (keeps_memoryReady s) (.refl _ s)

/-- What each expiry keeps, the expiries keep whatever their order. -/
theorem serveExpiries_keeps {P : State → Prop} (n : Nat) (fs : List (State → State)) (h : ∀ f ∈ fs, ∀ u, P u → P (f u))
    (counted : ∀ u, P u → P { u with free := u.free + 1 }) (s : State) (hs : P s) : P (serveExpiries n fs s) := by
  induction n generalizing fs s with
  | zero => exact hs
  | succ n ih =>
    match fs, h with
    | [], _ => exact hs
    | [f], h => exact h f (by simp) s hs
    | f :: g :: fs, h =>
      have pos : Config.expiryNext s.free % (f :: g :: fs).length < (f :: g :: fs).length := Nat.mod_lt _ (by simp)
      refine ih _ (fun x hx => h x (List.mem_of_mem_eraseIdx hx)) _ (h _ ?_ _ (counted s hs))
      rw [List.getD_eq_getElem _ _ pos]
      exact List.getElem_mem pos

/-- The expiries that a millisecond may serve. -/
inductive IsExpiry : (State → State) → Prop where
  | link (o : Rear) : IsExpiry (linkExpiry o)
  | presence : IsExpiry presenceExpiry
  | rev : IsExpiry revExpiry
  | engage : IsExpiry engageExpiry
  | stale : IsExpiry staleExpiry
  | linger : IsExpiry lingerExpiry
  | steering : IsExpiry steeringExpiry
  | obstacle : IsExpiry obstacleExpiry

theorem isExpiry_of_due {f : State → State} {s : State} (h : f ∈ dueExpiries s) : IsExpiry f := by
  obtain ⟨x, hx, rfl⟩ := List.mem_map.1 h
  have hx := List.mem_of_mem_filter hx
  simp only [List.mem_cons, List.not_mem_nil, or_false] at hx
  rcases hx with rfl | rfl | rfl | rfl | rfl | rfl | rfl | rfl | rfl
  · exact .link .rl
  · exact .link .rr
  · exact .presence
  · exact .rev
  · exact .engage
  · exact .stale
  · exact .linger
  · exact .steering
  · exact .obstacle

theorem expireDue_keeps {P : State → Prop} (h : ∀ f, IsExpiry f → ∀ u, P u → P (f u))
    (counted : ∀ u, P u → P { u with free := u.free + 1 }) (s : State) (hs : P s) : P (expireDue s) :=
  serveExpiries_keeps _ _ (fun _ hf => h _ (isExpiry_of_due hf)) counted s hs

theorem IsExpiry.keeps {f : State → State} (h : IsExpiry f) (s : State) : Keeps [.contents] s (f s) := by
  cases h with
  | link o => exact (keeps_linkExpiry o s).but
  | presence => exact (keeps_presenceExpiry s).but
  | rev => exact keeps_revExpiry s
  | engage => exact (keeps_engageExpiry s).but
  | stale => exact (keeps_staleExpiry s).but
  | linger => exact (keeps_lingerExpiry s).but
  | steering => exact (keeps_steeringExpiry s).but
  | obstacle => exact (keeps_obstacleExpiry s).but

theorem keeps_expireDue (s : State) : Keeps [.contents] s (expireDue s) :=
  expireDue_keeps (P := Keeps [.contents] s) (fun _ hf u hu => hu.trans (hf.keeps u)) (fun _ hu => hu.trans (keeps_of_vital rfl)) s (.refl _ s)

theorem isSome_tick (t : Option Nat) : (tick t).isSome = t.isSome := Option.isSome_map

theorem tick_queue (h : Bool) (f : Film) : (f.tick h).queue = f.queue := by
  unfold Film.tick
  split <;> rfl

/-- A millisecond moves no timer into or out of its states. -/
theorem keeps_advanceMs (s : State) : Keeps [] s (advanceMs s) := by
  have timers : Keeps [] s (s.setRvc { s.rvc with
      revTimer := tick s.rvc.revTimer, engageTimer := tick s.rvc.engageTimer
      staleTimer := tick s.rvc.staleTimer, lingerTimer := tick s.rvc.lingerTimer }) :=
    Keeps.also keeps_setRvc fun h => by
      simpa only [Rule.Kept, ReverseTimersOk, State.setRvc_rvc, isSome_tick] using h
  refine timers.trans (keeps_of_vital ?_)
  simp only [vital, advanceMs, tick_queue]
  rfl

theorem keeps_doTick (s : State) : Keeps [.contents] s (doTick s) := (keeps_expireDue s).trans (keeps_advanceMs _).but

theorem keeps_doRevChange (level : Bool) (s : State) : Keeps [] s (doRevChange level s) := by
  unfold doRevChange
  exact .ite (.refl _ s) (keeps_of_vital rfl)

/-! ### Effects -/

/-- What a command makes of the part, before the arbiter's part of the step. -/
def effect : Instr → State → State
  | .por memsz caSel => doPor memsz caSel
  | .sdramInitComplete => initOver
  | .resetNAssert => doResetAssert
  | .resetNRelease memsz caSel => doResetRelease memsz caSel
  | .selfRefreshExit => exitOver
  | .partTimeTick => doTick
  | .take q => doTake q
  | .procReadCompletion => readOver
  | .procWriteCompletion => writeOver
  | .cmdPost v => takeCmdPost v
  | .evtAck v => takeEvtAck v
  | .pendClr second v => takePendClr second v
  | .occClr second v => takeOccClr second v
  | .steer v => takeSteerWord v
  | .obstacle v => takeObstacleWord v
  | .vehicle v => takeVehicle v
  | .sampleClr v => takeSampleClrWord v
  | .grantEnd => doGrantEnd
  | .statusWriteEnd => statusOver
  | .eventRecordWritten => recordOver
  | .consumption => consume
  | .badKind kind r => badKindArrival kind r
  | .outputTiming r => onArrival 1 r doOutputTiming
  | .outputStart r => onArrival 2 r doOutputStart
  | .outputStop r => onArrival 3 r doOutputStop
  | .planeSet r => onArrival 4 r doPlaneSet
  | .paletteLoad r => onArrival 5 r doPaletteLoad
  | .paletteLoadReadEnd => onReadEnd 5 paletteRead
  | .rampLoad r => onArrival 6 r doRampLoad
  | .rampLoadReadEnd => onReadEnd 6 rampRead
  | .menuFade r => onArrival 7 r doMenuFade
  | .paceSet r => onArrival 8 r doPaceSet
  | .filmBuffers r => onArrival 9 r doFilmBuffers
  | .filmBuffersReadEnd => onReadEnd 9 filmTableRead
  | .filmPost r => onArrival 10 r doFilmPost
  | .filmFlush r => onArrival 11 r doFilmFlush
  | .filmRoute r => onArrival 12 r doFilmRoute
  | .filmClock r => onArrival 13 r doFilmClock
  | .cameraSetup r => onArrival 14 r doCameraSetup
  | .cameraSetupReadEnd => onReadEnd 14 cameraRead
  | .gammaLoad r => onArrival 15 r doGammaLoad
  | .gammaLoadReadEnd => onReadEnd 15 gammaRead
  | .cameraEnable r => onArrival 16 r doCameraEnable
  | .reverseSetup r => onArrival 17 r doReverseSetup
  | .guideSetup r => onArrival 18 r doGuideSetup
  | .guideSetupReadEnd => onReadEnd 18 guideRead
  | .chimeTable r => onArrival 19 r doChimeTable
  | .chimeTableReadEnd => onReadEnd 19 chimeTableRead
  | .chimePlay r => onArrival 20 r doChimePlay
  | .chimeCancel r => onArrival 21 r doChimeCancel
  | .proximitySetup r => onArrival 22 r doProximitySetup
  | .proximitySetupReadEnd => onReadEnd 22 proximityRead
  | .guardSetup r => onArrival 23 r doGuardSetup
  | .guardSetupReadEnd => onReadEnd 23 guardRead
  | .arbProfile r => onArrival 24 r doArbProfile
  | .sampleSetup r => onArrival 25 r doSampleSetup
  | .softRestart r => onArrival 26 r doSoftRestart
  | .eventSetup r => onArrival 27 r doEventSetup
  | .frameStart o => doFrameStart o
  | .lineStart o => doLineStart o
  | .lineComplete => lastLineOver
  | .frameEnd o => doFrameEnd o
  | .linkChange o level => doLinkChange o level
  | .linkTimerExpiry o => linkExpiry o
  | .hsEdge clocks => doHsEdge clocks
  | .cameraSample chroma y => doCameraSample chroma y
  | .vsEdge clocks => doVsEdge clocks
  | .camPresenceTimerExpiry => presenceExpiry
  | .trailerWriteComplete => trailerOver
  | .revChange level => doRevChange level
  | .revTimerExpiry => revExpiry
  | .engageTimerExpiry => engageExpiry
  | .staleTimerExpiry => staleExpiry
  | .lingerTimerExpiry => lingerExpiry
  | .steeringStaleTimerExpiry => steeringExpiry
  | .obstacleStaleTimerExpiry => obstacleExpiry
  | .recomputeCompletion => recomputeOver
  | .refreshTimerExpiry => refreshTick
  | .lineSample => doLineSample
  | .noteEnd => noteOver
  | .gapEnd => gapOver
  | .chimeFinish => chimeFinish
  | .cancelReleaseEnd => releaseOver
  | .beepEnd => beepOver
  | .proximityGapEnd => proximityGapOver
  | .toneReleaseEnd => toneReleaseOver

/-- How a command is run: what stops it where it does not come about, and whether the arbiter's part follows. -/
inductive Runs (i : Instr) (s : State) : Prop where
  | live (h : exec i s = live (effect i) s)
  | burst (h : exec i s = liveBurst (effect i) s)
  | always (h : exec i s = .next (settle (effect i s))) (pins : (∃ m c, i = .por m c) ∨ (∃ q, i = .take q) ∨
      (∃ o l, i = .linkChange o l) ∨ ∃ l, i = .revChange l)
  | assert (h : i = .resetNAssert)
  | release (memsz : Bool) (caSel : BitVec 4) (h : i = .resetNRelease memsz caSel)

theorem runs (i : Instr) (s : State) : Runs i s := by
  cases i
  case por m c => exact .always rfl (.inl ⟨m, c, rfl⟩)
  case take q => exact .always rfl (.inr (.inl ⟨q, rfl⟩))
  case linkChange o l => exact .always rfl (.inr (.inr (.inl ⟨o, l, rfl⟩)))
  case revChange l => exact .always rfl (.inr (.inr (.inr ⟨l, rfl⟩)))
  case resetNAssert => exact .assert rfl
  case resetNRelease m c => exact .release m c rfl
  case procReadCompletion | procWriteCompletion | grantEnd | statusWriteEnd | eventRecordWritten | consumption
    | paletteLoadReadEnd | rampLoadReadEnd | filmBuffersReadEnd | cameraSetupReadEnd | gammaLoadReadEnd | guideSetupReadEnd
    | chimeTableReadEnd | proximitySetupReadEnd | guardSetupReadEnd | lineComplete | trailerWriteComplete => exact .burst rfl
  all_goals exact .live rfl

theorem live_cases {f : State → State} {s t : State} (h : live f s = .next t) : s.phase = .held ∧ t = s ∨ t = settle (f s) := by
  unfold live at h
  split at h
  · rename_i held
    exact .inl ⟨held, (Host.Outcome.next.inj h).symm⟩
  · exact .inr (Host.Outcome.next.inj h).symm

theorem liveBurst_cases {f : State → State} {s t : State} (h : liveBurst f s = .next t) :
    s.phase = .held ∧ t = s ∨ t = settle (f s) := by
  unfold liveBurst at h
  split at h
  · cases h
  · exact live_cases h

/-- A step answers the state as it was, the command's effect, or the effect with the arbiter's part. -/
theorem exec_next {i : Instr} {s t : State} (h : exec i s = .next t) : t = s ∨ t = effect i s ∨ t = settle (effect i s) := by
  rcases runs i s with e | e | ⟨e, _⟩ | rfl | ⟨m, c, rfl⟩
  · rcases live_cases (e.symm.trans h) with ⟨_, k⟩ | k
    · exact .inl k
    · exact .inr (.inr k)
  · rcases liveBurst_cases (e.symm.trans h) with ⟨_, k⟩ | k
    · exact .inl k
    · exact .inr (.inr k)
  · exact .inr (.inr (Host.Outcome.next.inj (e.symm.trans h)).symm)
  · have h : (if s.phase ≠ .held ∧ s.burstInside = false then .fault (Fault.beyondMemory s.burstAddr) else .next (doResetAssert s)) =
      Host.Outcome.next (ρ := Refusal) t := h
    split at h
    · cases h
    · exact .inr (.inl (Host.Outcome.next.inj h).symm)
  · exact .inr (.inl (Host.Outcome.next.inj h).symm)

/-- The commands after which a pending flag may have fallen (R172, R175). -/
def MayClear (i : Instr) : Prop := (∃ m c, i = .por m c) ∨ i = .resetNAssert ∨ (∃ m c, i = .resetNRelease m c) ∨
  (∃ b v, i = .pendClr b v) ∨ i = .procWriteCompletion ∨ i = .grantEnd

/-- The commands that may write the SDRAM themselves: at the end of a burst, at a reset, or as capture starts (R124, R130, R136). -/
def MayStore : Instr → Prop
  | .por _ _ | .resetNAssert | .resetNRelease _ _ | .procWriteCompletion | .grantEnd | .statusWriteEnd | .eventRecordWritten
  | .consumption | .trailerWriteComplete | .cameraSetupReadEnd | .cameraEnable _ | .reverseSetup _ | .vehicle _ | .revTimerExpiry
  | .partTimeTick => True
  | _ => False

theorem effect_keeps (i : Instr) (s : State) : Keeps [.pendingStays, .contents] s (effect i s) ∧
    (¬MayClear i → Keeps [.contents] s (effect i s)) ∧ (¬MayStore i → Keeps [.pendingStays] s (effect i s)) := by
  have both {t : State} (h : Keeps [] s t) :
      Keeps [.pendingStays, .contents] s t ∧ (¬MayClear i → Keeps [.contents] s t) ∧ (¬MayStore i → Keeps [.pendingStays] s t) :=
    ⟨h.but, fun _ => h.but, fun _ => h.but⟩
  have stores {t : State} (h : Keeps [.contents] s t) (may : MayStore i) :
      Keeps [.pendingStays, .contents] s t ∧ (¬MayClear i → Keeps [.contents] s t) ∧ (¬MayStore i → Keeps [.pendingStays] s t) :=
    ⟨h.weaken (by decide), fun _ => h, fun no => absurd may no⟩
  cases i
  case por m c => exact ⟨keeps_doPor m c s, fun h => absurd (.inl ⟨m, c, rfl⟩) h, fun h => absurd trivial h⟩
  case resetNAssert => exact ⟨keeps_doResetAssert s, fun h => absurd (.inr (.inl rfl)) h, fun h => absurd trivial h⟩
  case resetNRelease m c => exact ⟨keeps_doResetRelease m c s, fun h => absurd (.inr (.inr (.inl ⟨m, c, rfl⟩))) h, fun h => absurd trivial h⟩
  case pendClr b v => exact ⟨(keeps_takePendClr b v s).weaken (by decide), fun h => absurd (.inr (.inr (.inr (.inl ⟨b, v, rfl⟩)))) h,
    fun _ => keeps_takePendClr b v s⟩
  case procWriteCompletion => exact ⟨keeps_writeOver s, fun h => absurd (.inr (.inr (.inr (.inr (.inl rfl))))) h, fun h => absurd trivial h⟩
  case grantEnd => exact ⟨keeps_doGrantEnd s, fun h => absurd (.inr (.inr (.inr (.inr (.inr rfl))))) h, fun h => absurd trivial h⟩
  case sdramInitComplete => exact both (keeps_initOver s)
  case selfRefreshExit => exact both (keeps_exitOver s)
  case partTimeTick => exact stores (keeps_doTick s) trivial
  case take q => exact both (keeps_doTake q s)
  case procReadCompletion => exact both (keeps_readOver s)
  case cmdPost v => exact both (keeps_takeCmdPost v s)
  case evtAck v => exact both (keeps_takeEvtAck v s)
  case occClr b v => exact both (keeps_takeOccClr b v s)
  case steer v => exact both (keeps_takeSteerWord v s)
  case obstacle v => exact both (keeps_takeObstacleWord v s)
  case vehicle v => exact stores (keeps_takeVehicle v s) trivial
  case sampleClr v => exact both (keeps_takeSampleClrWord v s)
  case statusWriteEnd => exact stores (keeps_statusOver s) trivial
  case eventRecordWritten => exact stores (keeps_recordOver s) trivial
  case consumption => exact stores (keeps_consume s) trivial
  case badKind k r => exact both (keeps_badKindArrival k r s)
  case outputTiming r => exact both (keeps_onArrival keeps_doOutputTiming 1 r s)
  case outputStart r => exact both (keeps_onArrival keeps_doOutputStart 2 r s)
  case outputStop r => exact both (keeps_onArrival keeps_doOutputStop 3 r s)
  case planeSet r => exact both (keeps_onArrival keeps_doPlaneSet 4 r s)
  case paletteLoad r => exact both (keeps_onArrival keeps_doPaletteLoad 5 r s)
  case paletteLoadReadEnd => exact both (keeps_onReadEnd keeps_paletteRead 5 s)
  case rampLoad r => exact both (keeps_onArrival keeps_doRampLoad 6 r s)
  case rampLoadReadEnd => exact both (keeps_onReadEnd keeps_rampRead 6 s)
  case menuFade r => exact both (keeps_onArrival keeps_doMenuFade 7 r s)
  case paceSet r => exact both (keeps_onArrival keeps_doPaceSet 8 r s)
  case filmBuffers r => exact both (keeps_onArrival keeps_doFilmBuffers 9 r s)
  case filmBuffersReadEnd => exact both (keeps_onReadEnd keeps_filmTableRead 9 s)
  case filmPost r => exact both (keeps_onArrival keeps_doFilmPost 10 r s)
  case filmFlush r => exact both (keeps_onArrival keeps_doFilmFlush 11 r s)
  case filmRoute r => exact both (keeps_onArrival keeps_doFilmRoute 12 r s)
  case filmClock r => exact both (keeps_onArrival keeps_doFilmClock 13 r s)
  case cameraSetup r => exact both (keeps_onArrival keeps_doCameraSetup 14 r s)
  case cameraSetupReadEnd => exact stores (keeps_onReadEnd keeps_cameraRead 14 s) trivial
  case gammaLoad r => exact both (keeps_onArrival keeps_doGammaLoad 15 r s)
  case gammaLoadReadEnd => exact both (keeps_onReadEnd keeps_gammaRead 15 s)
  case cameraEnable r => exact stores (keeps_onArrival keeps_doCameraEnable 16 r s) trivial
  case reverseSetup r => exact stores (keeps_onArrival keeps_doReverseSetup 17 r s) trivial
  case guideSetup r => exact both (keeps_onArrival keeps_doGuideSetup 18 r s)
  case guideSetupReadEnd => exact both (keeps_onReadEnd keeps_guideRead 18 s)
  case chimeTable r => exact both (keeps_onArrival keeps_doChimeTable 19 r s)
  case chimeTableReadEnd => exact both (keeps_onReadEnd keeps_chimeTableRead 19 s)
  case chimePlay r => exact both (keeps_onArrival keeps_doChimePlay 20 r s)
  case chimeCancel r => exact both (keeps_onArrival keeps_doChimeCancel 21 r s)
  case proximitySetup r => exact both (keeps_onArrival keeps_doProximitySetup 22 r s)
  case proximitySetupReadEnd => exact both (keeps_onReadEnd keeps_proximityRead 22 s)
  case guardSetup r => exact both (keeps_onArrival keeps_doGuardSetup 23 r s)
  case guardSetupReadEnd => exact both (keeps_onReadEnd keeps_guardRead 23 s)
  case arbProfile r => exact both (keeps_onArrival keeps_doArbProfile 24 r s)
  case sampleSetup r => exact both (keeps_onArrival keeps_doSampleSetup 25 r s)
  case softRestart r => exact both (keeps_onArrival keeps_doSoftRestart 26 r s)
  case eventSetup r => exact both (keeps_onArrival keeps_doEventSetup 27 r s)
  case frameStart o => exact both (keeps_doFrameStart o s)
  case lineStart o => exact both (keeps_doLineStart o s)
  case lineComplete => exact both (keeps_lastLineOver s)
  case frameEnd o => exact both (keeps_doFrameEnd o s)
  case linkChange o l => exact both (keeps_doLinkChange o l s)
  case linkTimerExpiry o => exact both (keeps_linkExpiry o s)
  case hsEdge n => exact both (keeps_doHsEdge n s)
  case cameraSample c y => exact both (keeps_doCameraSample c y s)
  case vsEdge n => exact both (keeps_doVsEdge n s)
  case camPresenceTimerExpiry => exact both (keeps_presenceExpiry s)
  case trailerWriteComplete => exact stores (keeps_trailerOver s) trivial
  case revChange l => exact both (keeps_doRevChange l s)
  case revTimerExpiry => exact stores (keeps_revExpiry s) trivial
  case engageTimerExpiry => exact both (keeps_engageExpiry s)
  case staleTimerExpiry => exact both (keeps_staleExpiry s)
  case lingerTimerExpiry => exact both (keeps_lingerExpiry s)
  case steeringStaleTimerExpiry => exact both (keeps_steeringExpiry s)
  case obstacleStaleTimerExpiry => exact both (keeps_obstacleExpiry s)
  case recomputeCompletion => exact both (keeps_recomputeOver s)
  case refreshTimerExpiry => exact both (keeps_refreshTick s)
  case lineSample => exact both (keeps_doLineSample s)
  case noteEnd => exact both (keeps_noteOver s)
  case gapEnd => exact both (keeps_gapOver s)
  case chimeFinish => exact both (keeps_chimeFinish s)
  case cancelReleaseEnd => exact both (keeps_releaseOver s)
  case beepEnd => exact both (keeps_beepOver s)
  case proximityGapEnd => exact both (keeps_proximityGapOver s)
  case toneReleaseEnd => exact both (keeps_toneReleaseOver s)

/-- Every answer keeps every rule, but for the pending flags of the commands that may clear them and the contents of the SDRAM for
those that may write it. -/
theorem exec_keeps {i : Instr} {s t : State} (h : exec i s = .next t) : Keeps [.pendingStays, .contents] s t ∧
    (¬MayClear i → Keeps [.contents] s t) ∧ (¬MayStore i → Keeps [.pendingStays] s t) := by
  obtain ⟨weak, clears, stores⟩ := effect_keeps i s
  rcases exec_next h with rfl | rfl | rfl
  · exact ⟨.refl _ _, fun _ => .refl _ _, fun _ => .refl _ _⟩
  · exact ⟨weak, clears, stores⟩
  · exact ⟨weak.trans (keeps_settle _).but, fun c => (clears c).trans (keeps_settle _).but, fun c => (stores c).trans (keeps_settle _).but⟩

/-- A step keeps every rule that no pending flag, no command of the queue and no contents of the SDRAM is in. -/
theorem step_keeps {s t : State} (h : step s = .next t) : Keeps [.pendingStays, .commands, .contents] s t := by
  unfold step at h
  split at h
  · exact Host.Outcome.next.inj h ▸ .refl _ s
  · rename_i c rest _
    have kept := (exec_keeps h).1
    refine ⟨fun r hr => ?_⟩
    simp only [List.mem_cons, List.not_mem_nil, or_false, not_or] at hr
    obtain ⟨pending, commands, contents⟩ := hr
    have later := kept.rule r (by simp [pending, contents])
    cases r
    case film => exact fun k => later fun src => k src
    case pendingStays => exact absurd rfl pending
    case commands => exact absurd rfl commands
    case contents => exact absurd rfl contents
    all_goals exact later

/-! ### The invariants of the part -/

/-- Settles O5: the memory, the counts, the port and the profiles by the rules that every step keeps. -/
theorem memoryAndArbiterStaySound : Obligations.MemoryAndArbiterStaySound := fun s t h =>
  have kept := step_keeps h
  ⟨kept.rule .memory (by decide), kept.rule .counts (by decide), fun ⟨port, profiles⟩ =>
    ⟨kept.rule .port (by decide) port, kept.rule .profiles (by decide) profiles⟩⟩

/-- Settles O19: every step keeps the rule of the film queues. -/
theorem filmQueuesStayOrdered : Obligations.FilmQueuesStayOrdered := fun s t h ok =>
  (step_keeps ok).rule .film (by decide) h

/-- Settles O26: every step keeps the rule of the capture side. -/
theorem captureStaysSound : Obligations.CaptureStaysSound := fun s t h ok =>
  (step_keeps ok).rule .capture (by decide) h

/-- Settles O31: every step keeps the rule of the reverse timers. -/
theorem reverseTimersStaySound : Obligations.ReverseTimersStaySound := fun s t h ok =>
  (step_keeps ok).rule .reverse (by decide) h

/-- Settles O36: every step keeps the rule of the banks. -/
theorem banksStayBounded : Obligations.BanksStayBounded := fun s t h ok =>
  (step_keeps ok).rule .banks (by decide) h

/-- Settles O42: every step keeps the rule of the chime queue. -/
theorem chimeQueueStaysOrdered : Obligations.ChimeQueueStaysOrdered := fun s t h ok =>
  (step_keeps ok).rule .chimes (by decide) h

/-- Settles O59: the flags, the lines and the entries by the rules that every step keeps. -/
theorem eventStateStaysSound : Obligations.EventStateStaysSound := fun s t h =>
  have kept := step_keeps h
  ⟨kept.rule .flags (by decide), kept.rule .lines (by decide), kept.rule .entries (by decide)⟩

end Sys2Proof.Proofs
end

section
/-! PROOFS. The step, the reset state, and that every command answers. -/

namespace Sys2Proof.Proofs

open Sys2Proof.Machine Sys2Proof.Safety

/-- Settles O1: both halves are the step's two cases. -/
theorem stepTakesTheFront : Obligations.StepTakesTheFront :=
  ⟨fun i rest s h => by rw [step, h], fun s h => by rw [step, h]⟩

/-! ### Every command answers -/

theorem live_held {f : State → State} {s : State} (h : s.phase = .held) : live f s = .next s := by
  rw [live, if_pos h]

theorem liveBurst_held {f : State → State} {s : State} (h : s.phase = .held) : liveBurst f s = .next s := by
  rw [liveBurst, if_neg fun k => k.1 h, live_held h]

theorem live_answers (f : State → State) (s : State) : ∃ t, live f s = .next t := by
  unfold live
  split <;> exact ⟨_, rfl⟩

theorem liveBurst_answers (f : State → State) {s : State} (h : s.burstInside = true) : ∃ t, liveBurst f s = .next t := by
  rw [liveBurst, if_neg fun k => by simp [h] at k]
  exact live_answers f s

theorem live_ne_refused (f : State → State) (s : State) (r : Refusal) : live f s ≠ .refused r := by
  obtain ⟨t, h⟩ := live_answers f s
  rw [h]
  nofun

theorem liveBurst_ne_refused (f : State → State) (s : State) (r : Refusal) : liveBurst f s ≠ .refused r := by
  unfold liveBurst
  split
  · nofun
  · exact live_ne_refused f s r

theorem exec_resetNAssert (s : State) : exec .resetNAssert s =
    if s.phase ≠ .held ∧ s.burstInside = false then .fault (Fault.beyondMemory s.burstAddr) else .next (doResetAssert s) := rfl

theorem exec_resetNRelease (memsz : Bool) (caSel : BitVec 4) (s : State) :
    exec (.resetNRelease memsz caSel) s = .next (doResetRelease memsz caSel s) := rfl

theorem exec_answers (i : Instr) {s : State} (h : s.burstInside = true) : ∃ t, exec i s = .next t := by
  rcases runs i s with e | e | ⟨e, _⟩ | rfl | ⟨m, c, rfl⟩
  · exact e ▸ live_answers ..
  · exact e ▸ liveBurst_answers _ h
  · exact ⟨_, e⟩
  · rw [exec_resetNAssert, if_neg fun k => by simp [h] at k]
    exact ⟨_, rfl⟩
  · exact ⟨_, exec_resetNRelease ..⟩

theorem exec_ne_refused (i : Instr) (s : State) (r : Refusal) : exec i s ≠ .refused r := by
  rcases runs i s with e | e | ⟨e, _⟩ | rfl | ⟨m, c, rfl⟩
  · rw [e]
    exact live_ne_refused _ s r
  · rw [e]
    exact liveBurst_ne_refused _ s r
  · rw [e]
    nofun
  · rw [exec_resetNAssert]
    split <;> nofun
  · rw [exec_resetNRelease]
    nofun

/-- While RESET_N is asserted only the pins, the processor and the resets change the part. -/
theorem exec_held {i : Instr} {s : State} (h : s.phase = .held) (por : ∀ m c, i ≠ .por m c)
    (release : ∀ m c, i ≠ .resetNRelease m c) (take : ∀ q, i ≠ .take q) (link : ∀ o l, i ≠ .linkChange o l)
    (rev : ∀ l, i ≠ .revChange l) : exec i s = .next s := by
  rcases runs i s with e | e | ⟨e, ⟨m, c, rfl⟩ | ⟨q, rfl⟩ | ⟨o, l, rfl⟩ | ⟨l, rfl⟩⟩ | rfl | ⟨m, c, rfl⟩
  · rw [e, live_held h]
  · rw [e, liveBurst_held h]
  · exact absurd rfl (por m c)
  · exact absurd rfl (take q)
  · exact absurd rfl (link o l)
  · exact absurd rfl (rev l)
  · rw [exec_resetNAssert, if_neg fun k => k.1 h, doResetAssert, if_pos h]
  · exact absurd rfl (release m c)

/-- Settles O3, by how each command is run; the queue by the rule that every answer keeps. -/
theorem everyCommandAnswers : Obligations.EveryCommandAnswers := fun i s =>
  ⟨exec_answers i, exec_ne_refused i s, fun _ h => (exec_keeps h).1.rule .commands (by decide), exec_held⟩

/-! ### The reset state -/

/-- After reset no chime is defined (R101). -/
theorem chimeDef_reset (id : Nat) : State.reset.chimeDef id = none := by
  unfold State.chimeDef
  rw [show State.reset.chu.defs = List.replicate 32 none from rfl, List.getD_eq_getElem?_getD, List.getElem?_replicate]
  split <;> rfl

/-- Settles O2 by evaluation of the reset state, the invariants by `blocksReset_sound`. -/
theorem resetState : Obligations.ResetState := by
  obtain ⟨counts, port, profiles, film, capture, reverse, banks, chimes, flags, lines, -⟩ :=
    blocksReset_sound (t := State.reset) rfl
  refine ⟨⟨rfl, rfl, rfl, by decide, rfl, rfl, rfl, fun c => by cases c <;> rfl, rfl, rfl, rfl, rfl, rfl, rfl, rfl, rfl, rfl, rfl,
      rfl, rfl, rfl, rfl, rfl, rfl, rfl, rfl, rfl, rfl, rfl, fun o => ?_, fun o => ?_, fun src => ?_, rfl, rfl, rfl, rfl, rfl, rfl,
      rfl, rfl, rfl, rfl, rfl, rfl, rfl, rfl, rfl, rfl, rfl, chimeDef_reset, rfl, rfl, rfl⟩,
    rfl, flags, lines, counts, ⟨port, profiles⟩, film, capture, reverse, banks, chimes⟩
  · cases o <;> exact ⟨rfl, rfl, rfl⟩
  · cases o <;> exact ⟨rfl, rfl⟩
  · cases src <;> rfl

end Sys2Proof.Proofs
end

section
/-! PROOFS. The arithmetic of pixels and the levels on the pins. -/

namespace Sys2Proof.Proofs

open Sys2Proof.Machine Sys2Proof.Safety

/-! ### Bytes and halfwords of a line -/

theorem toNat_byteOf (w : Word) (i : Nat) : (byteOf w i).toNat = field w (8 * i) 8 := by
  simp [byteOf, field, BitVec.toNat_setWidth, BitVec.toNat_ushiftRight, Nat.shiftRight_eq_div_pow]

theorem byteAt_eq_field (ws : List Word) (k : Nat) : byteAt ws k = field (wordAt ws (k / 4)) (8 * (k % 4)) 8 := toNat_byteOf ..

/-- Two bytes make a halfword. -/
theorem field_join (w : Word) (lo : Nat) : field w lo 8 + 256 * field w (lo + 8) 8 = field w lo 16 := by
  simp only [field, Nat.pow_add, ← Nat.div_div_eq_div_mul]
  omega

theorem halfAt_two_mul (ws : List Word) (j : Nat) : halfAt ws (2 * j) = field (wordAt ws (j / 2)) (16 * (j % 2)) 16 := by
  have low : 2 * j / 4 = j / 2 ∧ 8 * (2 * j % 4) = 16 * (j % 2) := by omega
  have high : (2 * j + 1) / 4 = j / 2 ∧ 8 * ((2 * j + 1) % 4) = 16 * (j % 2) + 8 := by omega
  rw [halfAt, byteAt_eq_field, byteAt_eq_field, low.1, low.2, high.1, high.2, field_join]

/-- A pair of pixels lies in one word: Cb, the first Y, Cr, the second Y (R9). -/
theorem yccPixel_eq (ws : List Word) (j : Nat) : yccPixel ws j =
    colourOfYcc (field (wordAt ws (j / 2)) (8 + 16 * (j % 2)) 8) (field (wordAt ws (j / 2)) 0 8)
      (field (wordAt ws (j / 2)) 16 8) := by
  have luma : (4 * (j / 2) + 1 + 2 * (j % 2)) / 4 = j / 2 ∧ 8 * ((4 * (j / 2) + 1 + 2 * (j % 2)) % 4) = 8 + 16 * (j % 2) := by
    omega
  have blue : 4 * (j / 2) / 4 = j / 2 ∧ 8 * (4 * (j / 2) % 4) = 0 := by omega
  have red : (4 * (j / 2) + 2) / 4 = j / 2 ∧ 8 * ((4 * (j / 2) + 2) % 4) = 16 := by omega
  rw [yccPixel, byteAt_eq_field, byteAt_eq_field, byteAt_eq_field, luma.1, luma.2, blue.1, blue.2, red.1, red.2]

/-! ### The blend and the planes -/

theorem blendComponent_opaque (s d : Nat) : blendComponent s d 255 = s := by
  unfold blendComponent
  omega

theorem blendComponent_clear (s d : Nat) : blendComponent s d 0 = d := by
  unfold blendComponent
  omega

theorem cameraFetch_plain {l : Option Layout} {c : Option CamSetup} {t : Timing} {p : Fetch} (h : p ∈ cameraFetch l c t) :
    p.alpha = 255 ∧ p.format = .ycbcr422 := by
  unfold cameraFetch at h
  split at h
  · split at h
    · rw [List.mem_singleton.1 (List.mem_ite_nil_left.1 h).2]
      exact ⟨rfl, rfl⟩
    · cases h
  · cases h

/-- Each component of R17 is clamped to 0 to 255, so that the natural number is the integer. -/
theorem toNat_clamp (x : Int) : ((clampInt 0 255 x).toNat : Int) = max 0 (min 255 x) := by
  unfold clampInt
  omega

/-- Settles O14: the formulas component by component, each format by its place in the line. -/
theorem pixelArithmetic : Obligations.PixelArithmetic := by
  refine ⟨fun _ _ _ => rfl, fun s d => ⟨?_, ?_⟩, fun m p line j => ⟨fun h => ?_, fun h => ?_, fun h x l hm hl => ?_⟩,
    fun m p line j => ⟨fun h => ?_, fun h => ?_, fun h => ?_, fun h x hm => ?_⟩, fun _ _ _ p h => cameraFetch_plain h,
    fun r g b hr hg hb => ?_, fun y cb cr => ⟨toNat_clamp _, toNat_clamp _, toNat_clamp _⟩⟩
  · simp only [blend, blendComponent_opaque]
  · simp only [blend, blendComponent_clear]
  · simp only [planePixel, h, mulAlpha, alphaOfWord]
  · rcases h with h | h <;> simp only [planePixel, h]
  · simp only [planePixel, h, hm, hl, mulAlpha, alphaOfWord, Option.map_some, Option.bind_some, Option.getD_some]
  · simp only [planePixel, h, colourOfWord]
  · simp only [planePixel, h, halfAt_two_mul]
  · simp only [planePixel, h, yccPixel_eq]
  · simp only [planePixel, h, hm, colourOfWord, byteAt_eq_field, Option.map_some, Option.getD_some]
  · have red : (r * 2048 + g * 32 + b) / 2048 % 32 = r := by omega
    have green : (r * 2048 + g * 32 + b) / 32 % 64 = g := by omega
    have blue : (r * 2048 + g * 32 + b) % 32 = b := by omega
    simp only [colourOf565, red, green, blue]

/-! ### The pins -/

theorem waitAsserted_iff (s : State) :
    s.waitAsserted = true ↔ s.phase = .held ∨ s.ppw.waiting ≠ none ∨ s.ppw.port = .pending := by
  simp [State.waitAsserted, Option.isSome_iff_ne_none, or_assoc]

theorem syncLevel_eq_iff (high asserted : Bool) : syncLevel high asserted = high ↔ asserted = true := by
  cases high <;> cases asserted <;> decide

theorem outputPins_running {s : State} {o : Output} {t : Timing} (h : (s.scan o).timing = some t) (run : (s.scan o).st ≠ .stopped)
    (line clock : Nat) : s.outputPins o line clock = ⟨t.activeAt line clock, syncLevel t.hsHigh (hsAsserted clock),
      syncLevel t.vsHigh (vsAsserted line), if t.activeAt line clock then (s.scan o).pixels.getD (clock - t.hb) 0 else 0⟩ := by
  unfold State.outputPins
  rw [h]
  cases st : (s.scan o).st with
  | stopped => exact absurd st run
  | running => rfl
  | stopping => rfl

/-- Settles O6: the levels of a running output from its counters, those of the chime output from the bit's place. -/
theorem pinLevels : Obligations.PinLevels := by
  refine ⟨waitAsserted_iff, fun s o line clock => ⟨fun h => ?_, fun t h => ⟨fun st => ?_, fun st => ?_⟩⟩, fun s k high hk => ⟨fun h => ?_, fun h => ?_⟩⟩
  · simp only [State.outputPins, h]
  · simp only [State.outputPins, h, st, syncLevel]
    cases t.hsHigh <;> cases t.vsHigh <;> rfl
  · rw [outputPins_running h st]
    refine ⟨?_, ?_, ?_, fun off => if_neg (by simpa using off), fun on => if_pos on⟩
    · simp [Timing.activeAt]
    · simp [syncLevel_eq_iff, hsAsserted]
    · simp [syncLevel_eq_iff, vsAsserted]
  · simp only [State.audioPins, h, if_pos]
  · simp only [State.audioPins, if_neg h, frameBit, decide_eq_true_eq, true_and]
    refine ⟨fun lo hi => ?_, fun lo => ?_, fun z => if_pos z⟩
    · rw [if_neg (by omega), show 15 - (k - 1) % 16 = 16 - k by omega]
    · rw [if_neg (by omega), show 15 - (k - 1) % 16 = 32 - k by omega]

end Sys2Proof.Proofs
end

section
/-! PROOFS. What a raise does (R167, R168, R170). -/

namespace Sys2Proof.Proofs

open Sys2Proof.Machine Sys2Proof.Safety

/-- The codes tell the kinds apart (R166). -/
theorem evKind_code_injective {j k : EvKind} (h : j.code = k.code) : j = k := by
  have ofCode (i : EvKind) : [EvKind.underrunC, .underrunL, .underrunR, .paceC, .paceL, .paceR, .linkL, .linkR, .filmLateA,
      .filmLateB, .filmStarvedA, .filmStarvedB, .filmFreeA, .filmFreeB, .camDropped, .camBad, .camGlitch, .camOverrun,
      .camPresence, .revEngaged, .revReleased, .revDegraded, .revNoOutput, .guideOverflow, .guideStale, .chimeDone,
      .chimeDropped, .guardHit, .procRange, .watchPartial, .refreshLate, .cmdDone, .cmdError, .cmdPostBad, .eventRingFull,
      .sampleReady][i.code]? = some i := by
    cases i <;> rfl
  exact Option.some.inj ((ofCode j).symm.trans (h ▸ ofCode k))

/-- Setting a kind sets its flag alone. -/
theorem getLsbD_or_bit (p : BitVec 36) (j k : EvKind) :
    (p ||| k.bit).getLsbD j.code = true ↔ p.getLsbD j.code = true ∨ j = k := by
  have same : j.code = k.code ↔ j = k := ⟨evKind_code_injective, fun h => h ▸ rfl⟩
  simp [EvKind.bit, evKind_code_lt, same]

section
variable {k : EvKind} {ws : List Word} {e : Seu}

/-- A record of the kind is wanted (R168). -/
theorem recordWanted_iff : e.recMask &&& k.bit ≠ 0 ↔ e.recMask.getLsbD k.code = true := by
  rw [ne_eq, and_bit_eq_zero_iff, Bool.not_eq_false]

theorem ringFull_iff : e.ringFull = true ↔ e.w + 1 = e.a ∨ ∃ x ∈ e.queue, x.entry = e.w := by
  simp [Seu.ringFull]

theorem placeRecord_unwanted (h : ¬(e.recMask.getLsbD k.code = true ∧ k ≠ .eventRingFull)) : e.placeRecord k ws = e :=
  if_neg fun w => h ⟨recordWanted_iff.1 w.1, w.2⟩

theorem placeRecord_lost (h : e.recMask.getLsbD k.code = true ∧ k ≠ .eventRingFull) (full : e.ringFull = true) :
    e.placeRecord k ws = e.setKind .eventRingFull := by
  rw [Seu.placeRecord, if_pos ⟨recordWanted_iff.2 h.1, h.2⟩, if_pos full]

theorem placeRecord_placed (h : e.recMask.getLsbD k.code = true ∧ k ≠ .eventRingFull) (room : ¬e.ringFull = true) :
    e.placeRecord k ws = { e with w := e.w + 1, queue := e.queue ++ [⟨e.w, ws⟩] } := by
  rw [Seu.placeRecord, if_pos ⟨recordWanted_iff.2 h.1, h.2⟩, if_neg room]

end

/-! ### Packed words -/

theorem pack_nil : pack [] = 0 := rfl

/-- A packed word is the sum of its fields, each moved to its place (R180). -/
theorem pack_cons (v i : Nat) (fs : List (Nat × Nat)) : pack ((v, i) :: fs) = BitVec.ofNat 32 (v * 2 ^ i) + pack fs := by
  rw [pack, pack, List.map_cons, List.sum_cons, BitVec.ofNat_add]

/-- A flag moved to a place weighs that place or nothing. -/
theorem ofNat_ofBool_mul (b : Bool) (n : Nat) : BitVec.ofNat 32 (ofBool b * n) = BitVec.ofNat 32 (if b then n else 0) := by
  cases b <;> simp [ofBool]

theorem eventWords_eq (k : EvKind) (d a time : Word) (tag : Byte) : eventWords k d a time tag =
    [BitVec.ofNat 32 (k.code + (if k.isError then 256 else 0) + (if k.isSafety then 512 else 0) + tag.toNat * 16777216), d,
      a &&& 0xFFFF, time] := by
  rw [eventWords]
  simp only [pack_cons, pack_nil, ofNat_ofBool_mul, BitVec.ofNat_add]
  norm_num [add_assoc]

/-- Settles O58: a record that is not wanted, one that is lost, and one that is placed. -/
theorem raiseEffect : Obligations.RaiseEffect := by
  refine ⟨fun k d a s t h => ?_, fun j k => evKind_code_injective, evKind_code_lt, fun k => ?_, fun k => ?_⟩
  · subst h
    intro e wants full words
    have recorded : eventWords k d a s.time s.seu.tag = words := eventWords_eq ..
    have isFull : (e.setKind k).ringFull = true ↔ full := ringFull_iff
    have flags (p : BitVec 36) (j : EvKind) := getLsbD_or_bit p j k
    have lost (p : BitVec 36) (j : EvKind) := getLsbD_or_bit (p ||| k.bit) j .eventRingFull
    unfold raise
    dsimp only
    rw [recorded]
    by_cases want : wants
    · by_cases room : full
      · rw [placeRecord_lost (e := e.setKind k) want (isFull.2 room), evalLines_eq]
        refine ⟨fun j => ?_, fun _ => ⟨rfl, rfl⟩, fun _ h => absurd room h, rfl, rfl, rfl⟩
        simp only [Seu.setKind, lost, flags, want, room, true_and, or_assoc, e]
      · rw [placeRecord_placed (e := e.setKind k) want (mt isFull.1 room), evalLines_eq]
        refine ⟨fun j => ?_, fun h => (h.elim (absurd want) (absurd · room)), fun _ _ => ⟨rfl, rfl⟩, rfl, rfl, rfl⟩
        simp only [Seu.setKind, flags, room, false_and, and_false, or_false, e, and_self]
    · rw [placeRecord_unwanted (e := e.setKind k) want, evalLines_eq]
      refine ⟨fun j => ?_, fun _ => ⟨rfl, rfl⟩, fun h => absurd h want, rfl, rfl, rfl⟩
      simp only [Seu.setKind, flags, want, false_and, or_false, e, and_self]
  · cases k <;> decide
  · cases k <;> decide

end Sys2Proof.Proofs
end

section
/-! PROOFS. What the burst of a granted client carries (R11, R12, R52, R138, R157, R158, R160). -/

namespace Sys2Proof.Proofs

open Sys2Proof.Machine Sys2Proof.Safety

/-! ### The plane that a scanout client serves (R12) -/

theorem requests_iff (p : Fetch) :
    p.requests = true ↔ p.lines.length < 4 ∧ p.next < p.stop ∧ p.got.length < p.words := by
  simp [Fetch.requests, and_assoc]

theorem urgent_iff (p : Fetch) : p.urgent = true ↔ p.requests = true ∧ p.lines.length < 2 := by
  simp [Fetch.urgent]

theorem choosePlane_mem {ps : List Fetch} {q : Fetch} (h : choosePlane ps = some q) : q ∈ ps ∧ q.requests = true := by
  induction ps generalizing q with
  | nil => cases h
  | cons p ps ih =>
    unfold choosePlane at h
    split at h
    · obtain ⟨hp, hq⟩ := Option.ite_none_right_eq_some.1 h
      exact Option.some.inj hq ▸ ⟨List.mem_cons_self .., hp⟩
    · rename_i x hx
      split at h
      · rename_i hp
        rw [Bool.and_eq_true] at hp
        exact Option.some.inj h ▸ ⟨List.mem_cons_self .., hp.1⟩
      · obtain ⟨hm, hr⟩ := ih hx
        exact Option.some.inj h ▸ ⟨List.mem_cons_of_mem _ hm, hr⟩

/-- The first of the requesting planes with the fewest complete lines is served. -/
theorem choosePlane_eq {below above : List Fetch} {p : Fetch} (hp : p.requests = true)
    (hb : ∀ x ∈ below, x.requests = true → p.lines.length < x.lines.length)
    (ha : ∀ x ∈ above, x.requests = true → p.lines.length ≤ x.lines.length) : choosePlane (below ++ p :: above) = some p := by
  induction below with
  | nil =>
    show choosePlane (p :: above) = some p
    unfold choosePlane
    cases h : choosePlane above with
    | none => simp [hp]
    | some q =>
      obtain ⟨hm, hr⟩ := choosePlane_mem h
      simp [hp, ha q hm hr]
  | cons x xs ih =>
    have rest := ih fun y hy => hb y (List.mem_cons_of_mem _ hy)
    show choosePlane (x :: (xs ++ p :: above)) = some p
    rw [choosePlane, rest]
    have later : (x.requests && decide (x.lines.length ≤ p.lines.length)) = false := by
      rw [Bool.and_eq_false_iff]
      cases hx : x.requests with
      | false => exact .inl rfl
      | true => exact .inr (by simpa using hb x (List.mem_cons_self ..) hx)
    simp [later]

theorem carryBurst_scan {s : State} {o : Output} {c : Client} {p : Fetch} (hc : c.output = some o)
    (h : choosePlane (s.scan o).fetch = some p) : carryBurst c s = s.carry (lineGrant s c o p) := by
  cases c <;> cases hc <;> simp only [carryBurst, Client.output, h]

/-! ### The bytes that CAPT takes (R52) -/

/-- Bytes numbered from an address on, the first apart from the others. -/
theorem map_zipIdx_cons {α : Type} (g : Nat → Byte → α) (k : Nat) (b : Byte) (bs : List Byte) :
    ((b :: bs).zipIdx.map fun x => g (k + x.2) x.1) = g k b :: bs.zipIdx.map fun x => g (k + 1 + x.2) x.1 := by
  rw [List.zipIdx_cons, List.zipIdx_succ, List.map_cons, List.map_map]
  simp [Function.comp_def, Nat.add_assoc, Nat.add_comm 1]

/-- The run of bytes taken: those that follow one another in the slot, to the end of the block or to the first that does not. -/
theorem takeRun_eq (slot k : Nat) (rest : List CaptureItem) : ∃ (more : List Byte) (left : List CaptureItem),
    rest = (more.zipIdx.map fun x => CaptureItem.pixel slot (k + 1 + x.2) x.1) ++ left ∧ k % 32 + more.length ≤ 31 ∧
    (k % 32 + more.length = 31 ∨ ∀ y l, left ≠ .pixel slot (k + 1 + more.length) y :: l) ∧
    takeRun slot (k + 1) rest = (more.zipIdx.map fun x => (k + 1 + x.2, x.1), left) := by
  have block : k % 32 + 0 ≤ 31 := by omega
  induction rest generalizing k with
  | nil => exact ⟨[], [], rfl, block, .inr nofun, rfl⟩
  | cons x xs ih =>
    cases x with
    | trailer => exact ⟨[], _, rfl, block, .inr nofun, rfl⟩
    | pixel sl ad v =>
      unfold takeRun
      split
      · rename_i next
        obtain ⟨hs, rfl, inside⟩ := next
        subst hs
        obtain ⟨more, left, rfl, fits, stops, run⟩ := ih (k + 1) (by omega)
        have after : k + 1 + (more.length + 1) = k + 1 + 1 + more.length := by omega
        refine ⟨v :: more, left, ?_, by rw [List.length_cons]; omega, ?_, ?_⟩
        · rw [map_zipIdx_cons (CaptureItem.pixel sl)]
          rfl
        · rw [List.length_cons, after]
          exact stops.imp (fun h => by omega) id
        · rw [map_zipIdx_cons Prod.mk, run]
      · rename_i other
        refine ⟨[], _, rfl, block, ?_, rfl⟩
        by_cases full : k % 32 = 31
        · exact .inl full
        · refine .inr fun y l h => other ?_
          obtain ⟨e, _⟩ := List.cons.inj h
          injection e with hs ha hv
          exact ⟨hs, ha, by omega⟩

theorem carryBurst_pixels {s : State} {slot a : Nat} {b : Byte} {rest : List CaptureItem}
    (h : s.ccu.buffer = .pixel slot a b :: rest) : carryBurst .capt s =
      { s with ccu := { s.ccu with buffer := (takeRun slot (a + 1) rest).2 } }.carry
        ⟨.capt, a, (takeRun slot (a + 1) rest).1.length + 1, .pixels ((a, b) :: (takeRun slot (a + 1) rest).1), false⟩ := by
  simp only [carryBurst, captGrant, h]

theorem carryBurst_trailer {s : State} {slot a : Nat} {ws : List Word} {half : Bool} {rest : List CaptureItem}
    (h : s.ccu.buffer = .trailer slot ws half :: rest)
    (ha : (s.ccu.setup.map fun c => c.slotBase slot).getD 0 + Config.mib - 64 = a) : carryBurst .capt s =
      s.carry (if half then ⟨.capt, a + 32, 32, .trailer true (ws.drop 8), false⟩
        else ⟨.capt, a, 32, .trailer false (ws.take 8), false⟩) := by
  subst ha
  simp only [carryBurst, captGrant, h]
  rw [← h]

/-- The trailer lies at the end of the slot's MiB (R56). -/
theorem trailer_place (c : CamSetup) (slot : Nat) :
    c.slotBase slot + Config.mib - 64 = c.base + slot * 1048576 + 1048512 := by
  rw [CamSetup.slotBase, Config.mib, Nat.add_sub_assoc (by decide)]

/-! ### The bursts of SERV for the Command Unit -/

theorem carryBurst_command {s : State} {g : Grant} (h : s.seu.queue = []) (hg : commandGrant s = some g) :
    carryBurst .serv s = s.carry g := by
  simp only [carryBurst, grantServ, h, hg]

/-- Settles O60, client by client. -/
theorem grantContents : Obligations.GrantContents := by
  refine ⟨fun p => ⟨requests_iff p, urgent_iff p⟩, fun s => ⟨fun q h => ?_, fun o c p below above hc hf hp hb ha => ?_,
    fun slot a first rest h => ?_, fun slot ws half rest c h hc => ?_, fun h => ⟨fun st => ?_, fun st b n rest plan => ?_, fun st => ?_⟩⟩⟩
  · simp only [carryBurst, h]
    rfl
  · have serves : c.output = some o := by
      rcases hc with ⟨rfl, rfl⟩ | ⟨rfl, rfl⟩ | ⟨rfl, rfl⟩ <;> rfl
    show (carryBurst c s).fma.memory = _
    rw [carryBurst_scan serves (hf ▸ choosePlane_eq hp hb ha)]
    rfl
  · obtain ⟨more, left, hrest, fits, stops, run⟩ := takeRun_eq slot a rest
    refine ⟨more, left, hrest, fits, stops, ?_, ?_⟩
    · show (carryBurst .capt s).fma.memory = _
      rw [carryBurst_pixels h, run, map_zipIdx_cons Prod.mk]
      simp only [State.carry, List.length_map, List.length_zipIdx]
    · rw [carryBurst_pixels h, run]
      rfl
  · have place : (s.ccu.setup.map fun c => c.slotBase slot).getD 0 + Config.mib - 64 = c.base + slot * 1048576 + 1048512 := by
      rw [hc, Option.map_some, Option.getD_some, trailer_place]
    dsimp only
    rw [carryBurst_trailer h place]
    cases half <;> exact ⟨rfl, rfl⟩
  · have g : commandGrant s = some ⟨.serv, s.recordAddr s.cmu.c, 32, .record (readWords s.mem (s.recordAddr s.cmu.c) 8), false⟩ := by
      simp only [commandGrant, st]
    dsimp only
    rw [carryBurst_command h g]
    exact ⟨rfl, rfl⟩
  · have g : commandGrant s = some ⟨.serv, b, 4 * n, .table (readWords s.mem b n) rest.isEmpty, false⟩ := by
      simp only [commandGrant, st, plan]
    dsimp only
    rw [carryBurst_command h g]
    cases rest <;> exact ⟨rfl, rfl⟩
  · have g : commandGrant s = some ⟨.serv, s.recordAddr s.cmu.c + 0x18, 8, .result [s.cmu.code, s.cmu.detail], false⟩ := by
      simp only [commandGrant, st]
    dsimp only
    rw [carryBurst_command h g]
    exact ⟨rfl, rfl⟩

end Sys2Proof.Proofs
end

section
/-! PROOFS. Fades and pacing, timing records, and the start and stop of an output (R1, R3, R4, R20, R22). -/

namespace Sys2Proof.Proofs

open Sys2Proof.Machine Sys2Proof.Safety

/-! ### What the arrival of a record leaves alone -/

@[simp] theorem arriveAs_menu (k : Byte) (r : Rec) (s : State) : (arriveAs k r s).menu = s.menu := by
  rw [arriveAs_eq]

theorem arriveAs_modMenu (k : Byte) (r : Rec) (s : State) (o : Rear) (f : Menu → Menu) :
    arriveAs k r (s.modMenu o f) = (arriveAs k r s).modMenu o f := by
  rw [arriveAs_eq, arriveAs_eq]; rfl

theorem arriveAs_modScan (k : Byte) (r : Rec) (s : State) (o : Output) (f : Scan → Scan) :
    arriveAs k r (s.modScan o f) = (arriveAs k r s).modScan o f := by
  rw [State.modScan, State.modScan, arriveAs_setScan, arriveAs_scan]

/-! ### MENU_FADE (R20) -/

section
variable {r : Rec} {s : State}

theorem doMenuFade_refused (h : rearOf r.target = none ∨ 1 < r.op1.toNat) : doMenuFade r s = finish resBadParam 0 s := by
  unfold doMenuFade
  split
  · rfl
  · rename_i ho
    exact if_pos (h.resolve_left (by simp [ho]))

theorem doMenuFade_moves {o : Rear} (ho : rearOf r.target = some o) (h : ¬1 < r.op1.toNat) : doMenuFade r s =
    finish resDone 0 (s.modMenu o fun m => { m with motion := m.fade (decide (r.op1 = 1)) }) := by
  simp only [doMenuFade, ho, if_neg h]

theorem answers_menuFade {o : Rear} {out : Bool} (ha : Arrives s) (ho : rearOf r.target = some o) (h : ¬1 < r.op1.toNat)
    (dir : decide (r.op1 = 1) = out) {x : FadeMotion} (hx : (s.menu.get o).fade out = x) :
    Answers (.menuFade r) s (completed 7 r resDone 0 { s with menu := s.menu.set o { s.menu.get o with motion := x } }) := by
  have moved : { s with menu := s.menu.set o { s.menu.get o with motion := x } } =
      s.modMenu o fun m => { m with motion := m.fade (decide (r.op1 = 1)) } := by
    rw [dir, ← hx]; rfl
  rw [moved]
  exact answers_completed (g := fun s => s.modMenu o fun m => { m with motion := m.fade (decide (r.op1 = 1)) }) rfl ha
    (arriveAs_modMenu ..) (doMenuFade_moves ho h)

/-! ### PACE_SET (R22) -/

theorem doPaceSet_noOutput (h : outputOf r.target = none) : doPaceSet r s = finish resBadParam 0 s := by
  simp only [doPaceSet, h]

theorem doPaceSet_outOfRange {o : Output} (ho : outputOf r.target = some o) (h : 7 < r.op1.toNat) :
    doPaceSet r s = finish resBadParam 0 s := by
  simp only [doPaceSet, ho, if_pos h]

theorem doPaceSet_sets {o : Output} (ho : outputOf r.target = some o) (h : ¬7 < r.op1.toNat) : doPaceSet r s =
    finish resDone 0 (s.modScan o fun sc => { sc with pacing := ⟨flag r.op2 0, r.op1.toNat⟩ }) := by
  simp only [doPaceSet, ho, if_neg h]

end

/-- Settles O10: the table of MENU_FADE row by row, and PACE_SET by its range. -/
theorem menuFadeAndPaceSet : Obligations.MenuFadeAndPaceSet := by
  refine ⟨⟨fun o => ?_, fun r s ha => ⟨fun h => ?_, fun o ho m hm => ⟨fun h0 => ?_, fun h1 => ?_⟩⟩⟩,
    fun o => ?_, fun r s ha => ⟨fun h => ?_, fun o ho => ⟨fun h => ?_, fun h => ?_⟩⟩⟩
  · cases o <;> exact ⟨rfl, rfl, rfl⟩
  · exact answers_refused rfl ha (doMenuFade_refused h)
  · subst hm
    have small : ¬1 < r.op1.toNat := by rw [h0]; decide
    have dir : decide (r.op1 = 1) = false := by rw [h0]; decide
    have moves {x : FadeMotion} := answers_menuFade (x := x) ha ho small dir
    refine ⟨fun hm => moves ?_, fun hm => moves ?_, fun hm => moves ?_, fun hm => moves ?_⟩ <;> simp only [Menu.fade, hm]
  · subst hm
    have small : ¬1 < r.op1.toNat := by rw [h1]; decide
    have dir : decide (r.op1 = 1) = true := by rw [h1]; decide
    have moves {x : FadeMotion} := answers_menuFade (x := x) ha ho small dir
    refine ⟨fun hm => moves ?_, fun hm => moves ?_, fun hm => moves ?_, fun hm => moves ?_⟩ <;> simp only [Menu.fade, hm]
  · cases o <;> rfl
  · exact answers_refused rfl ha (doPaceSet_noOutput h)
  · exact answers_refused rfl ha (doPaceSet_outOfRange ho h)
  · exact answers_completed (g := fun s => s.modScan o fun sc => { sc with pacing := ⟨flag r.op2 0, r.op1.toNat⟩ }) rfl ha
      (arriveAs_modScan ..) (doPaceSet_sets ho (Nat.not_lt.2 h))

/-! ### OUTPUT_TIMING (R1) -/

theorem timingOk_iff (t : Timing) : timingOk t = true ↔ (320 ≤ t.wa ∧ t.wa ≤ 1920 ∧ t.wa % 8 = 0) ∧ (240 ≤ t.ha ∧ t.ha ≤ 1080) ∧
    64 ≤ t.hb ∧ 4 ≤ t.vb ∧ (10000 ≤ t.f ∧ t.f ≤ 148500) := by
  simp [timingOk, and_assoc]

end Sys2Proof.Proofs
end

section
/-! PROOFS. The Guide Engine: triggers, activity and banks (R86, R88, R99), its inputs (R79 to R81, R87), its setup and the
completion of a recompute (R82, R89, R98). -/

namespace Sys2Proof.Proofs

open Sys2Proof.Machine Sys2Proof.Safety

/-! ### Triggers (R88) -/

theorem reversing_iff (s : State) : s.reversing = true ↔ s.rvc.st ≠ .normal := by
  simp [State.reversing]

theorem reversing_eq_false_iff (s : State) : s.reversing = false ↔ s.rvc.st = .normal := by
  simp [State.reversing]

section
variable {s : State}

theorem trigger_inactive (h : s.rvc.st = .normal) : trigger s = s := by
  rw [trigger, (reversing_eq_false_iff s).2 h]
  rfl

theorem trigger_idle (h : s.rvc.st ≠ .normal) (hr : s.gde.recompute = .idle) (hi : s.gde.idle ≠ .complete) :
    trigger s = startRecompute s := by
  simp [trigger, (reversing_iff s).2 h, hr, hi]

theorem trigger_complete (h : s.rvc.st ≠ .normal) (hr : s.gde.recompute = .idle) (hi : s.gde.idle = .complete) :
    trigger s = (s.setGde { s.gde with recompute := .waiting }).markDirty := by
  simp [trigger, (reversing_iff s).2 h, hr, hi]

theorem trigger_running (h : s.rvc.st ≠ .normal) (hr : s.gde.recompute = .running) :
    trigger s = (s.setGde { s.gde with pendingFlag := true }).dirtyIf (!s.gde.pendingFlag) := by
  simp [trigger, (reversing_iff s).2 h, hr]

theorem trigger_waiting (hr : s.gde.recompute = .waiting) : trigger s = s := by
  unfold trigger
  rw [hr]
  exact ite_id _

end

theorem captureInputs_eq (s : State) : s.captureInputs =
    { angle := s.gde.steering.angle, steerOk := s.gde.steering.valid && s.gde.steering.fresh, dist := s.gde.obstacle.dist,
      obstacleOk := s.gde.obstacle.valid && s.gde.obstacle.fresh, setup := s.gde.setup,
      area := s.scn.ctr.timing.map fun t => (t.wa, t.ha),
      strip := match s.scn.ctr.timing with
        | some t => min s.rvc.setup.strip (t.ha / 2)
        | none => s.rvc.setup.strip } := by
  unfold State.captureInputs
  cases s.scn.ctr.timing <;> rfl

theorem startRecompute_eq (s : State) : startRecompute s = { s with
    seu := { s.seu with dirty := true },
    gde := { s.gde with
      captured := s.captureInputs, idle := .drawing, recompute := .running, pendingFlag := false,
      bank0 := if s.gde.shown1 then [] else s.gde.bank0, bank1 := if s.gde.shown1 then s.gde.bank1 else [] } } := by
  unfold startRecompute Gde.setIdleBank
  split_ifs <;> rfl

/-! ### Activity (R86) -/

/-- What becoming inactive leaves of the idle bank. -/
theorem guideInactive_idle (s : State) : (guideInactive s).gde.idle ≠ .complete ∧
    (s.gde.recompute = .running → (guideInactive s).gde.idle = .clear) := by
  show (match s.gde.recompute, s.gde.idle with
    | .running, _ => IdleBank.clear
    | _, .complete => .clear
    | _, i => i) ≠ .complete ∧ (s.gde.recompute = .running → (match s.gde.recompute, s.gde.idle with
    | .running, _ => IdleBank.clear
    | _, .complete => .clear
    | _, i => i) = .clear)
  cases s.gde.recompute <;> cases s.gde.idle <;> decide

theorem installPending_eq (g : Gde) : g.installPending =
    { g with setup := if g.pendingSetup = none then g.setup else g.pendingSetup, pendingSetup := none } := by
  unfold Gde.installPending
  cases h : g.pendingSetup with
  | none => simp [← h]
  | some p => simp

theorem syncGuide_active {was : Bool} {s : State} (h : s.rvc.st ≠ .normal) (hw : was = false) :
    syncGuide was s = guideActive s := by
  simp [syncGuide, (reversing_iff s).2 h, hw]

theorem syncGuide_inactive {was : Bool} {s : State} (h : s.rvc.st = .normal) (hw : was = true) :
    syncGuide was s = guideInactive s := by
  simp [syncGuide, (reversing_eq_false_iff s).2 h, hw]

theorem syncGuide_same {was : Bool} {s : State} (h : s.rvc.st ≠ .normal ↔ was = true) : syncGuide was s = s := by
  have same : s.reversing = was := Bool.eq_iff_iff.2 ((reversing_iff s).trans h)
  simp [syncGuide, same]

/-! ### The banks at a CTR frame start (R99) -/

theorem swapBanks_eq (s : State) : swapBanks s = if s.gde.idle = .complete then
      { s with seu := { s.seu with dirty := true }, gde := { s.gde with shown1 := !s.gde.shown1, idle := .clear, outdated := false } }
    else if s.gde.outdated then
      { s with seu := { s.seu with dirty := true }, gde := { s.gde with
          outdated := false, bank0 := if s.gde.shown1 then s.gde.bank0 else [], bank1 := if s.gde.shown1 then [] else s.gde.bank1 } }
    else s := by
  unfold swapBanks
  cases s.gde.shown1 <;> rfl

theorem swapBanks_complete {s : State} (h : s.gde.idle = .complete) : swapBanks s =
    { s with seu := { s.seu with dirty := true }, gde := { s.gde with shown1 := !s.gde.shown1, idle := .clear, outdated := false } } := by
  rw [swapBanks_eq, if_pos h]

/-- Without a COMPLETE bank a swap at most empties the shown one. -/
theorem swapBanks_incomplete {s : State} (h : s.gde.idle ≠ .complete) : ∃ d b0 b1, swapBanks s =
      { s with seu := { s.seu with dirty := d }, gde := { s.gde with outdated := false, bank0 := b0, bank1 := b1 } } ∧
    (if s.gde.shown1 then b1 else b0) = if s.gde.outdated then [] else if s.gde.shown1 then s.gde.bank1 else s.gde.bank0 := by
  rw [swapBanks_eq, if_neg h]
  by_cases ho : s.gde.outdated = true
  · rw [if_pos ho, if_pos ho]
    exact ⟨_, _, _, rfl, by split_ifs <;> rfl⟩
  · have same : s.gde = { s.gde with outdated := false } := by rw [← Bool.eq_false_iff.2 ho]
    rw [if_neg ho, if_neg ho]
    exact ⟨s.seu.dirty, s.gde.bank0, s.gde.bank1, congrArg (fun g => { s with gde := g }) same, rfl⟩

theorem guideFrameStart_eq (s : State) : guideFrameStart s =
    if (swapBanks s).gde.recompute = .waiting then startRecompute (swapBanks s) else swapBanks s := rfl

/-- The swap leaves the recompute state. -/
theorem swapBanks_recompute (s : State) : (swapBanks s).gde.recompute = s.gde.recompute := by
  rw [swapBanks_eq]
  split_ifs <;> rfl

/-- A recompute that starts leaves the shown bank. -/
theorem startRecompute_shown (s : State) : (startRecompute s).gde.shown1 = s.gde.shown1 ∧
    (startRecompute s).gde.outdated = s.gde.outdated ∧ (startRecompute s).gde.shownBank = s.gde.shownBank := by
  rw [startRecompute_eq]
  refine ⟨rfl, rfl, ?_⟩
  unfold Gde.shownBank
  cases s.gde.shown1 <;> rfl

theorem guideFrameStart_shown (s : State) : (guideFrameStart s).gde.shown1 = (swapBanks s).gde.shown1 ∧
    (guideFrameStart s).gde.outdated = (swapBanks s).gde.outdated ∧
    (guideFrameStart s).gde.shownBank = (swapBanks s).gde.shownBank := by
  rw [guideFrameStart_eq]
  split_ifs
  · exact startRecompute_shown _
  · exact ⟨rfl, rfl, rfl⟩

/-- The guide's part of a frame start touches the Guide Engine and status-dirty alone. -/
theorem guideFrameStart_only (s : State) : GuideOnly s (guideFrameStart s) := by
  have swapped : GuideOnly s (swapBanks s) := by
    rw [swapBanks_eq]
    split_ifs <;> exact ⟨_, _, rfl⟩
  rw [guideFrameStart_eq]
  split_ifs
  · exact swapped.trans (by rw [startRecompute_eq]; exact ⟨_, _, rfl⟩)
  · exact swapped

/-- Settles O33: the trigger by activity and recompute state, the activity by its change, the banks step by step. -/
theorem guideTriggers : Obligations.GuideTriggers := by
  refine ⟨fun s => ⟨trigger_inactive, fun h hr hi => ?_, trigger_complete, fun h hr => ?_, fun _ => trigger_waiting⟩,
    fun was s => ⟨fun h hw => ?_, fun h hw => ?_, syncGuide_same⟩, fun s => ?_⟩
  · rewrite [trigger_idle h hr hi, startRecompute_eq, captureInputs_eq]
    rfl
  · rw [trigger_running h hr, dirtyIf_eq]
    rfl
  · rw [syncGuide_active h hw]
    rfl
  · obtain ⟨idle, drawing⟩ := guideInactive_idle s
    rw [syncGuide_inactive h hw]
    refine ⟨rfl, rfl, ?_, ?_, ?_, ?_, ?_, idle, drawing, ?_, ?_⟩ <;>
      simp [guideInactive, State.setGde, State.markDirty, installPending_eq]
  · obtain ⟨shown, outdated, bank⟩ := guideFrameStart_shown s
    obtain ⟨g, d, only⟩ := guideFrameStart_only s
    refine ⟨fun h => ?_, fun h => ?_, fun h => ?_, fun h => ⟨?_, fun hi => ?_, fun hi => ?_⟩, by rw [only], by rw [only],
      by rw [only], by rw [only]⟩
    · rw [swapBanks_complete h] at shown outdated bank
      refine ⟨shown, outdated, bank.trans ?_⟩
      show (if !s.gde.shown1 then s.gde.bank1 else s.gde.bank0) = _
      cases s.gde.shown1 <;> rfl
    · obtain ⟨d, b0, b1, swapped, emptied⟩ := swapBanks_incomplete h
      rw [swapped] at shown outdated bank
      refine ⟨shown, outdated, ?_⟩
      have bank : (if (guideFrameStart s).gde.shown1 then (guideFrameStart s).gde.bank1 else (guideFrameStart s).gde.bank0) =
        if s.gde.shown1 then b1 else b0 := bank
      rwa [shown, emptied] at bank
    · rw [guideFrameStart_eq, if_pos ((swapBanks_recompute s).trans h), startRecompute_eq]
      refine ⟨rfl, rfl, rfl, ?_⟩
      dsimp only
      cases (swapBanks s).gde.shown1 <;> rfl
    all_goals rw [guideFrameStart_eq, if_neg (swapBanks_recompute s ▸ h)]
    · exact swapBanks_recompute s
    · rw [swapBanks_complete hi]
    · obtain ⟨d, b0, b1, swapped, -⟩ := swapBanks_incomplete hi
      rw [swapped]

end Sys2Proof.Proofs
end

section
/-! PROOFS. The Guide Engine's inputs (R79 to R81, R87), its setup and the completion of a recompute (R82, R89, R98). -/

namespace Sys2Proof.Proofs

open Sys2Proof.Machine Sys2Proof.Safety

/-! ### The inputs (R79 to R81, R87) -/

theorem staleLimit_eq (s : State) : s.staleLimit = match s.gde.setup with
    | none => 500
    | some g => g.vehicle.stale := by
  unfold State.staleLimit
  cases s.gde.setup <;> rfl

theorem hysteresis_eq (s : State) : s.hysteresis = match s.gde.setup with
    | none => 20
    | some g => g.vehicle.hysteresis := by
  unfold State.hysteresis
  cases s.gde.setup <;> rfl

/-- A fresh input is usable where it is valid; its take changes what is shown of it where it was stale or its usability differs. -/
theorem inputChanged_eq (fresh valid now : Bool) :
    decide (fresh ≠ true ∨ (valid && fresh) ≠ (now && true)) = (decide (fresh = false) || decide ((valid && fresh) ≠ now)) := by
  cases fresh <;> cases valid <;> cases now <;> decide

theorem steeringTrigger_take (s : State) : steeringTrigger true s =
    (decide (s.gde.steering.usable ≠ s.gde.captured.steerOk) ||
      (s.gde.steering.usable && decide (s.hysteresis ≤ (s.gde.steering.angle - s.gde.captured.angle).natAbs))) := by
  simp [steeringTrigger]

theorem obstacleTrigger_take (s : State) : obstacleTrigger true s =
    (decide (s.gde.obstacle.usable ≠ s.gde.captured.obstacleOk) ||
      (s.gde.obstacle.usable && decide (50 ≤ ((s.gde.obstacle.dist : Int) - s.gde.captured.dist).natAbs))) := by
  simp [obstacleTrigger]

/-- An input that has gone stale is not usable: a trigger where the captured one was (R87). -/
theorem steeringTrigger_stale {s : State} (h : s.gde.steering.fresh = false) :
    steeringTrigger false s = s.gde.captured.steerOk := by
  cases hc : s.gde.captured.steerOk <;> simp [steeringTrigger, Steering.usable, h, hc]

theorem obstacleTrigger_stale {s : State} (h : s.gde.obstacle.fresh = false) :
    obstacleTrigger false s = s.gde.captured.obstacleOk := by
  cases hc : s.gde.captured.obstacleOk <;> simp [obstacleTrigger, Obstacle.usable, h, hc]

/-- A steering input stored by a take, with the trigger that comes of it (R79, R87). -/
def storeSteering (j : Steering) (s : State) : State :=
  let u := (s.setGde { s.gde with steering := j }).dirtyIf
    (decide (s.gde.steering.fresh ≠ j.fresh ∨ s.gde.steering.usable ≠ j.usable))
  triggerIf (steeringTrigger true u) u

theorem takeSteerWord_eq (v : Word) (s : State) : takeSteerWord v s = storeSteering
    ⟨max (-4500) (min 4500 (v.setWidth 16).toInt), v.getLsbD 31, true, some s.staleLimit, s.staleLimit⟩
    (s.setTaken fun t => { t with steer := v }) := rfl

theorem storeSteering_eq {j : Steering} (hj : j.fresh = true) (s : State) : storeSteering j s =
    triggerIf (decide (j.valid ≠ s.gde.captured.steerOk) ||
        (j.valid && decide (s.hysteresis ≤ (j.angle - s.gde.captured.angle).natAbs)))
      { s with
        gde := { s.gde with steering := j },
        seu := { s.seu with dirty := s.seu.dirty || (decide (s.gde.steering.fresh = false) ||
          decide ((s.gde.steering.valid && s.gde.steering.fresh) ≠ j.valid)) } } := by
  unfold storeSteering
  dsimp only
  rw [dirtyIf_eq, steeringTrigger_take, ← inputChanged_eq, Steering.usable, Steering.usable, hj]
  simp only [Steering.usable, State.setGde, hj, Bool.and_true]
  rfl

/-- An obstacle input stored by a take, with the trigger that comes of it and the Chime Unit informed (R80, R87, R117). -/
def storeObstacle (j : Obstacle) (s : State) : State :=
  let u := (s.setGde { s.gde with obstacle := j }).dirtyIf
    (decide (s.gde.obstacle.fresh ≠ j.fresh ∨ s.gde.obstacle.usable ≠ j.usable))
  syncVoiceP s.zone (triggerIf (obstacleTrigger true u) u)

theorem takeObstacleWord_eq (v : Word) (s : State) : takeObstacleWord v s = storeObstacle
    ⟨min 10000 (field v 0 16), v.getLsbD 31, true, some s.staleLimit, s.staleLimit⟩
    (s.setTaken fun t => { t with obstacle := v }) := rfl

theorem storeObstacle_eq {j : Obstacle} (hj : j.fresh = true) (s : State) : storeObstacle j s =
    syncVoiceP s.zone (triggerIf (decide (j.valid ≠ s.gde.captured.obstacleOk) ||
        (j.valid && decide (50 ≤ ((j.dist : Int) - s.gde.captured.dist).natAbs)))
      { s with
        gde := { s.gde with obstacle := j },
        seu := { s.seu with dirty := s.seu.dirty || (decide (s.gde.obstacle.fresh = false) ||
          decide ((s.gde.obstacle.valid && s.gde.obstacle.fresh) ≠ j.valid)) } }) := by
  unfold storeObstacle
  dsimp only
  rw [dirtyIf_eq, obstacleTrigger_take, ← inputChanged_eq, Obstacle.usable, Obstacle.usable, hj]
  simp only [Obstacle.usable, State.setGde, hj, Bool.and_true]
  rfl

theorem steeringExpiry_due {s : State} (h : s.gde.steering.timer = some 0) : steeringExpiry s =
    triggerIf s.gde.captured.steerOk (raiseIf s.reversing .guideStale (BitVec.ofNat 32 s.gde.steering.limit)
      (BitVec.ofNat 32 (ofBool s.gde.steering.valid))
      { s with gde := { s.gde with steering := { s.gde.steering with timer := none, fresh := false } },
               seu := { s.seu with dirty := true } }) := by
  unfold steeringExpiry
  dsimp only
  rw [if_pos h, steeringTrigger_stale (by rw [raiseIf_gde]; rfl), raiseIf_gde]
  rfl

theorem obstacleExpiry_due {s : State} (h : s.gde.obstacle.timer = some 0) : obstacleExpiry s =
    syncVoiceP s.zone (triggerIf s.gde.captured.obstacleOk
      { s with gde := { s.gde with obstacle := { s.gde.obstacle with timer := none, fresh := false } },
               seu := { s.seu with dirty := true } }) := by
  unfold obstacleExpiry
  dsimp only
  rw [if_pos h, obstacleTrigger_stale rfl]
  rfl

/-- The aux word of a flag. -/
theorem ofNat_ofBool (b : Bool) : BitVec.ofNat 32 (ofBool b) = if b then 1 else 0 := by
  cases b <;> rfl

/-- Settles O32: the two takes and the two expiries. -/
theorem guideInputs : Obligations.GuideInputs := by
  refine ⟨fun v s hs => ⟨fun i j hi hj => ?_, fun i j hi hj => ?_⟩, fun s hs => ⟨fun i hi due => ?_, fun i hi due => ?_⟩⟩
  · subst hi
    refine answers_of_live rfl hs ?_
    show takeSteerWord v s = _
    rw [takeSteerWord_eq, staleLimit_eq]
    subst hj
    rw [storeSteering_eq rfl, hysteresis_eq]
    rfl
  · subst hi
    refine answers_of_live rfl hs ?_
    show takeObstacleWord v s = _
    rw [takeObstacleWord_eq, staleLimit_eq]
    subst hj
    rw [storeObstacle_eq rfl]
    rfl
  · subst hi
    refine answers_of_live rfl hs ?_
    rw [steeringExpiry_due due, ofNat_ofBool]
    by_cases h : s.rvc.st = .normal
    · rw [(reversing_eq_false_iff s).2 h, if_pos h]; rfl
    · rw [(reversing_iff s).2 h, if_neg h]; rfl
  · subst hi
    exact answers_of_live rfl hs (obstacleExpiry_due due)

/-! ### GUIDE_SETUP when its records have been read (R82) -/

section
variable {ws : List Word} {s : State}

theorem guideRead_bad (h : guideSetupOf ws = none) : guideRead ws s = finish resBadParam 0 s := by
  simp only [guideRead, h]

theorem guideRead_pending {g : GuideSetup} (h : guideSetupOf ws = some g) (hr : s.gde.recompute = .running) :
    guideRead ws s = finish resDone 1 (s.setGde { s.gde with pendingSetup := some g }) := by
  simp only [guideRead, h, if_pos hr]
  rfl

/-- A trigger leaves status-dirty to the completion of the command. -/
theorem finish_trigger_markDirty (code d : Word) (s : State) : finish code d (trigger s.markDirty) = finish code d (trigger s) := by
  by_cases h : s.rvc.st = .normal
  · rw [trigger_inactive h, trigger_inactive (s := s.markDirty) h]
    rfl
  · cases hr : s.gde.recompute with
    | idle =>
      by_cases hi : s.gde.idle = .complete
      · rw [trigger_complete h hr hi, trigger_complete (s := s.markDirty) h hr hi]
        rfl
      · rw [trigger_idle h hr hi, trigger_idle (s := s.markDirty) h hr hi]
        rfl
    | running =>
      rw [trigger_running h hr, trigger_running (s := s.markDirty) h hr, dirtyIf_eq, dirtyIf_eq]
      rfl
    | waiting =>
      rw [trigger_waiting hr, trigger_waiting (s := s.markDirty) hr]
      rfl

theorem guideRead_installs {g : GuideSetup} (h : guideSetupOf ws = some g) (hr : s.gde.recompute ≠ .running) :
    guideRead ws s = finish resDone 0 (trigger (s.setGde { s.gde with setup := some g })) := by
  simp only [guideRead, h, if_neg hr]
  exact finish_trigger_markDirty ..

end

theorem markEnded_setGde (g : Gde) (s : State) : markEnded (s.setGde g) = (markEnded s).setGde g := by
  rw [markEnded_state, markEnded_state]; rfl

@[simp] theorem markEnded_gde (s : State) : (markEnded s).gde = s.gde := by
  rw [markEnded_eq]

/-! ### The completion of a recompute (R89, R98) -/

/-- The Guide Engine after its running recompute has completed. -/
def recomputed (g : Gde) : Gde :=
  let d := drawCaptured g.captured
  { g with
    bank0 := if g.shown1 then d.bank else g.bank0, bank1 := if g.shown1 then g.bank1 else d.bank, idle := .complete
    setup := if g.pendingSetup = none then g.setup else g.pendingSetup, pendingSetup := none
    recompute := if (g.pendingFlag || g.pendingSetup.isSome) = true then .waiting else .idle, pendingFlag := false }

theorem recomputeOver_eq {s : State} (h : s.gde.recompute = .running) : recomputeOver s =
    (raiseIf (decide ((drawCaptured s.gde.captured).dropped ≠ 0)) .guideOverflow
      (BitVec.ofNat 32 (drawCaptured s.gde.captured).dropped) (BitVec.ofInt 32 (drawCaptured s.gde.captured).lowest)
      (s.setGde (recomputed s.gde)).markDirty).markDirty := by
  have banks (b : List Span) (g : Gde) : g.setIdleBank b =
      { g with bank0 := if g.shown1 then b else g.bank0, bank1 := if g.shown1 then g.bank1 else b } := by
    unfold Gde.setIdleBank
    split_ifs <;> rfl
  unfold recomputeOver
  dsimp only
  rw [if_pos h, raiseIf_gde]
  simp only [banks, installPending_eq, State.setGde_gde, State.markDirty_gde]
  cases decide ((drawCaptured s.gde.captured).dropped ≠ 0) <;> rfl

/-! ### The events' state after raises (R167) -/

/-- What a raise makes of the events' state depends on that state and the part time. -/
theorem raise_seu_congr {s u : State} (h : u.seu = s.seu) (time : u.time = s.time) (k : EvKind) (d a : Word) :
    (raise k d a u).seu = (raise k d a s).seu := by
  unfold raise
  dsimp only
  rw [h, time]

theorem raiseAll_seu_congr {s u : State} (h : u.seu = s.seu) (time : u.time = s.time) (rs : List Raise) :
    (raiseAll rs u).seu = (raiseAll rs s).seu := by
  induction rs generalizing s u with
  | nil => exact h
  | cons r rs ih => exact ih (raise_seu_congr h time ..) time

/-- Status-dirty aside, the events' state of `u` is that of `s` after the raises. -/
def RaisesTo (rs : List Raise) (s u : State) : Prop := ∃ d, u.seu = { (raiseAll rs s).seu with dirty := d }

/-- Status-dirty is not read by the raises that follow. -/
theorem raiseAll_dirty (rs : List Raise) (s : State) (b : Bool) :
    RaisesTo rs s (raiseAll rs { s with seu := { s.seu with dirty := b } }) := by
  cases rs with
  | nil => exact ⟨b, rfl⟩
  | cons r rs =>
    refine ⟨(raiseAll rs (raise r.kind r.detail r.aux s)).seu.dirty, ?_⟩
    have flags : ({ s.seu with dirty := b } : Seu).setKind r.kind = { s.seu.setKind r.kind with dirty := b } := rfl
    have once : raise r.kind r.detail r.aux { s with seu := { s.seu with dirty := b } } = raise r.kind r.detail r.aux s := by
      unfold raise
      dsimp only
      rw [flags, placeRecord_dirty]
      rfl
    show (raiseAll rs (raise r.kind r.detail r.aux { s with seu := { s.seu with dirty := b } })).seu = _
    rw [once]
    rfl

/-- Raises on a state that differs in other blocks and in status-dirty. -/
theorem raisesTo_raiseAll {s u : State} {b : Bool} (h : u.seu = { s.seu with dirty := b }) (time : u.time = s.time)
    (rs : List Raise) : RaisesTo rs s (raiseAll rs u) := by
  obtain ⟨d, hd⟩ := raiseAll_dirty rs s b
  exact ⟨d, (raiseAll_seu_congr (s := { s with seu := { s.seu with dirty := b } }) h time rs).trans hd⟩

theorem RaisesTo.raises {rs : List Raise} {s u t : State} (h : RaisesTo rs s u) (k : Decided u t) : Raises rs s t := by
  obtain ⟨d, hd⟩ := h
  rw [Raises, k.seu, hd]

theorem raiseIf_eq_raiseAll (b : Bool) (k : EvKind) (d a : Word) (s : State) :
    raiseIf b k d a s = raiseAll (if b then [⟨k, d, a⟩] else []) s := by
  cases b <;> rfl

/-- The report of the spans that had no room (R98). -/
def overflowReport (d : Drawing) : List Raise :=
  if d.dropped = 0 then [] else [⟨.guideOverflow, BitVec.ofNat 32 d.dropped, BitVec.ofInt 32 d.lowest⟩]

theorem recomputeOver_raises {s : State} (h : s.gde.recompute = .running) :
    RaisesTo (overflowReport (drawCaptured s.gde.captured)) s (recomputeOver s) := by
  have report : (if decide ((drawCaptured s.gde.captured).dropped ≠ 0) = true then
      [(⟨.guideOverflow, BitVec.ofNat 32 (drawCaptured s.gde.captured).dropped,
        BitVec.ofInt 32 (drawCaptured s.gde.captured).lowest⟩ : Raise)] else []) = overflowReport (drawCaptured s.gde.captured) := by
    unfold overflowReport
    split_ifs <;> simp_all
  rw [recomputeOver_eq h, raiseIf_eq_raiseAll, report]
  obtain ⟨d, hd⟩ := raisesTo_raiseAll (u := (s.setGde (recomputed s.gde)).markDirty) (s := s) rfl rfl
    (overflowReport (drawCaptured s.gde.captured))
  exact ⟨true, by rw [State.markDirty, hd]⟩

/-- Settles O34: the two ways GUIDE_SETUP goes on, and the recompute's end. -/
theorem guideSetupAndCompletion : Obligations.GuideSetupAndCompletion := by
  refine ⟨fun ws s h => ⟨fun bad => answers_of_readEnd rfl h (guideRead_bad bad), fun g good => ⟨fun hr => ?_, fun hr => ?_⟩⟩,
    fun s hs hr => ?_⟩
  · refine answers_of_readEnd rfl h ?_
    rw [guideRead_pending good (by rw [markEnded_gde]; exact hr), markEnded_gde, ← markEnded_setGde]
    rfl
  · refine answers_of_readEnd rfl h ?_
    rw [guideRead_installs good (by rw [markEnded_gde]; exact hr), markEnded_gde, ← markEnded_setGde]
    rfl
  · have ends : exec .recomputeCompletion s = .next (settle (recomputeOver s)) := live_eq hs
    have kept := settle_decided (recomputeOver s)
    have raises := (recomputeOver_raises hr).raises kept
    have same : (recomputeOver s).rvc = s.rvc ∧ (recomputeOver s).scn = s.scn ∧ (recomputeOver s).chu = s.chu ∧
        (recomputeOver s).fqu = s.fqu ∧ (recomputeOver s).mem = s.mem ∧ (recomputeOver s).ppw = s.ppw ∧
        (recomputeOver s).cmu = s.cmu ∧ (recomputeOver s).time = s.time ∧ (recomputeOver s).ccu = s.ccu := by
      rw [recomputeOver_eq hr]
      simp
    have gde : (settle (recomputeOver s)).gde = recomputed s.gde := kept.gde.trans (by rw [recomputeOver_eq hr]; simp)
    obtain ⟨rvc, scn, chu, fqu, mem, ppw, cmu, time, ccu⟩ := same
    refine ⟨_, ends, ?_⟩
    rw [gde]
    refine ⟨rfl, ?_, ?_, rfl, rfl, rfl, rfl, fun due => ?_, fun idle => ?_, raises, rfl, rfl, rfl, kept.rvc.trans rvc,
      kept.scn.trans scn, kept.chu.trans chu, kept.fqu.trans fqu, kept.mem.trans mem, kept.ppw.trans ppw, kept.cmu.trans cmu,
      kept.time.trans time, by rw [kept.ccu, ccu]⟩
    · show (if s.gde.shown1 then if s.gde.shown1 then _ else _ else if s.gde.shown1 then _ else _) = _
      split_ifs <;> rfl
    · show (if s.gde.shown1 then if s.gde.shown1 then _ else _ else if s.gde.shown1 then _ else _) = _
      split_ifs <;> rfl
    · exact if_pos (by simpa [Option.isSome_iff_ne_none] using due)
    · exact if_neg (by simpa [Option.isSome_iff_ne_none] using idle)

end Sys2Proof.Proofs
end

section
/-! PROOFS. OUTPUT_TIMING, and the start and stop of an output (R1, R3, R4). -/

namespace Sys2Proof.Proofs

open Sys2Proof.Machine Sys2Proof.Safety

/-! ### OUTPUT_TIMING (R1) -/

@[simp] theorem arriveAs_gde (k : Byte) (r : Rec) (s : State) : (arriveAs k r s).gde = s.gde := by
  rw [arriveAs_eq]

@[simp] theorem arriveAs_rvc (k : Byte) (r : Rec) (s : State) : (arriveAs k r s).rvc = s.rvc := by
  rw [arriveAs_eq]

/-- A trigger reads neither the command in execution nor the memory's holder. -/
theorem arriveAs_trigger (k : Byte) (r : Rec) (s : State) : arriveAs k r (trigger s) = trigger (arriveAs k r s) := by
  by_cases h : s.rvc.st = .normal
  · rw [trigger_inactive h, trigger_inactive (by rw [arriveAs_rvc]; exact h)]
  · have h' : (arriveAs k r s).rvc.st ≠ .normal := by rw [arriveAs_rvc]; exact h
    cases hr : s.gde.recompute with
    | idle =>
      by_cases hi : s.gde.idle = .complete
      · rw [trigger_complete h hr hi, trigger_complete h' (by rw [arriveAs_gde]; exact hr) (by rw [arriveAs_gde]; exact hi),
          arriveAs_eq, arriveAs_eq]
        rfl
      · rw [trigger_idle h hr hi, trigger_idle h' (by rw [arriveAs_gde]; exact hr) (by rw [arriveAs_gde]; exact hi),
          arriveAs_eq, arriveAs_eq]
        rfl
    | running =>
      rw [trigger_running h hr, trigger_running h' (by rw [arriveAs_gde]; exact hr), dirtyIf_eq, dirtyIf_eq, arriveAs_eq,
        arriveAs_eq]
      rfl
    | waiting => rw [trigger_waiting hr, trigger_waiting (by rw [arriveAs_gde]; exact hr)]

theorem arriveAs_triggerIf (k : Byte) (r : Rec) (b : Bool) (s : State) :
    arriveAs k r (triggerIf b s) = triggerIf b (arriveAs k r s) := by
  cases b
  · rfl
  · exact arriveAs_trigger k r s


theorem disableIf_eq (bad : Bool) (d : Descriptor) :
    disableIf bad d = { d with enabled := d.enabled && !bad } := by
  cases bad <;> simp [disableIf]

/-- The detail of OUTPUT_TIMING: a bit for each plane switched off. -/
theorem pack_planes (ui film menu : Bool) : pack [(ofBool ui, 0), (ofBool film, 1), (ofBool menu, 2)] =
    BitVec.ofNat 32 ((if ui then 1 else 0) + (if film then 2 else 0) + (if menu then 4 else 0)) := by
  cases ui <;> cases film <;> cases menu <;> rfl

/-- The planes as set after a new timing record: those that no longer fit are switched off (R1). -/
def fitted (memSize : Nat) (t : Timing) (x : Planes) : Planes :=
  { x with
    ui := { x.ui with enabled := x.ui.enabled && !(x.ui.enabled && !rectOk memSize t x.ui) }
    film := { x.film with enabled := x.film.enabled && !(x.film.enabled && !filmRectOk t x.film) }
    menu := { x.menu with enabled := x.menu.enabled && !(x.menu.enabled && !rectOk memSize t x.menu) } }

/-- The planes that a new timing record switches off, a bit for each (R1). -/
def switchedOff (memSize : Nat) (t : Timing) (x : Planes) : Word :=
  BitVec.ofNat 32 ((if x.ui.enabled && !rectOk memSize t x.ui then 1 else 0) +
    (if x.film.enabled && !filmRectOk t x.film then 2 else 0) + (if x.menu.enabled && !rectOk memSize t x.menu then 4 else 0))

section
variable {r : Rec} {s : State} {o : Output}

theorem doOutputTiming_noOutput (h : outputOf r.target = none) : doOutputTiming r s = finish resBadParam 0 s := by
  simp only [doOutputTiming, h]

theorem doOutputTiming_running (ho : outputOf r.target = some o) (h : (s.scan o).st ≠ .stopped) :
    doOutputTiming r s = finish resWrongState 0 s := by
  simp only [doOutputTiming, ho, if_pos h]

theorem doOutputTiming_outOfRange (ho : outputOf r.target = some o) (h : (s.scan o).st = .stopped)
    (bad : timingOk (timingOf r) = false) : doOutputTiming r s = finish resBadParam 0 s := by
  simp [doOutputTiming, ho, h, bad]

theorem doOutputTiming_installs (ho : outputOf r.target = some o) (h : (s.scan o).st = .stopped)
    (good : timingOk (timingOf r) = true) : doOutputTiming r s =
      finish resDone (switchedOff s.memSize (timingOf r) (s.scan o).asSet) (triggerIf (decide (o = .ctr))
        (s.modScan o fun sc => { sc with timing := some (timingOf r), asSet := fitted s.memSize (timingOf r) sc.asSet })) := by
  unfold doOutputTiming
  rw [ho]
  dsimp only
  rw [if_neg (not_not.2 h), if_neg (by simp [good]), pack_planes, disableIf_eq, disableIf_eq, disableIf_eq]
  rfl

end

/-- Settles O7, check by check. -/
theorem outputTiming : Obligations.OutputTiming := by
  refine ⟨fun o => by cases o <;> rfl, fun r s ha => ⟨fun h => answers_refused rfl ha (doOutputTiming_noOutput h), fun o ho t ht => ?_⟩⟩
  have record : timingOf r = t := ht.symm
  have good := timingOk_iff t
  rw [← record] at good
  refine ⟨fun st => ?_, fun st bad => ?_, fun st fits x hx => ?_⟩
  · exact answers_refused rfl ha (doOutputTiming_running ho (by rw [arriveAs_scan]; exact st))
  · refine answers_refused rfl ha (doOutputTiming_outOfRange ho (by rw [arriveAs_scan]; exact st) ?_)
    rw [Bool.eq_false_iff]
    exact fun k => bad (record ▸ good.1 k)
  · subst hx
    have installs := doOutputTiming_installs (s := arriveAs 1 r s) ho (by rw [arriveAs_scan]; exact st) (good.2 (record ▸ fits))
    rw [arriveAs_memSize, arriveAs_scan, ← arriveAs_modScan, ← arriveAs_triggerIf, record] at installs
    exact answers_of_arrival rfl ha installs

/-! ### OUTPUT_STOP (R4) -/

section
variable {r : Rec} {s : State} {o : Output}

theorem doOutputStop_noOutput (h : outputOf r.target = none) : doOutputStop r s = finish resBadParam 0 s := by
  simp only [doOutputStop, h]

theorem doOutputStop_running (ho : outputOf r.target = some o) (h : (s.scan o).st = .running) :
    doOutputStop r s = finish resDone 0 (s.setScan o { s.scan o with st := .stopping }) := by
  simp only [doOutputStop, ho, h]
  rfl

theorem doOutputStop_stopping (ho : outputOf r.target = some o) (h : (s.scan o).st = .stopping) :
    doOutputStop r s = finish resDone 0 s := by
  simp only [doOutputStop, ho, h]

theorem doOutputStop_stopped (ho : outputOf r.target = some o) (h : (s.scan o).st = .stopped) :
    doOutputStop r s = finish resWrongState 0 s := by
  simp only [doOutputStop, ho, h]

/-! ### OUTPUT_START (R3) -/

theorem doOutputStart_noOutput (h : outputOf r.target = none) : doOutputStart r s = finish resBadParam 0 s := by
  simp only [doOutputStart, h]

theorem doOutputStart_refused (ho : outputOf r.target = some o) (h : (s.scan o).st ≠ .stopped ∨ (s.scan o).timing = none) :
    doOutputStart r s = finish resWrongState 0 s := by
  simp [doOutputStart, ho, h]

theorem doOutputStart_starts (ho : outputOf r.target = some o) (h : (s.scan o).st = .stopped) (ht : (s.scan o).timing ≠ none) :
    doOutputStart r s =
      finish resDone 0 (raised (frameStartOf o (s.setScan o { s.scan o with st := .running, frames := 0 }).markDirty)) := by
  simp [doOutputStart, ho, h, ht]

end

end Sys2Proof.Proofs
end

section
/-! PROOFS. The frame start: the blocks' work at it reads neither the counters of the scanout units, nor the command in execution, nor
the memory's holder (R8). -/

namespace Sys2Proof.Proofs

open Sys2Proof.Machine Sys2Proof.Safety

/-! ### What the blocks' work does not read -/

/-- The state with other scanout units, another Command Unit, another holder of the memory, and status-dirty perhaps set. -/
def beside (scn : PerOutput Scan) (cmu : Cmu) (mem : MemState) (d : Bool) (s : State) : State :=
  { s with scn := scn, cmu := cmu, fma := { s.fma with memory := mem }, seu := { s.seu with dirty := s.seu.dirty || d } }

section
variable {scn : PerOutput Scan} {cmu : Cmu} {mem : MemState} {d : Bool}

theorem beside_dirtyIf (b : Bool) (s : State) : (beside scn cmu mem d s).dirtyIf b = beside scn cmu mem d (s.dirtyIf b) := by
  rw [dirtyIf_eq, dirtyIf_eq]
  unfold beside
  simp only [Bool.or_right_comm]

theorem beside_markDirty (s : State) : (beside scn cmu mem d s).markDirty = beside scn cmu mem d s.markDirty :=
  beside_dirtyIf true s

theorem beside_setVoiceP (v : VoiceP) (s : State) :
    (beside scn cmu mem d s).setVoiceP v = beside scn cmu mem d (s.setVoiceP v) :=
  beside_dirtyIf _ { s with chu := { s.chu with p := v } }

theorem beside_zoneChange (s : State) : zoneChange (beside scn cmu mem d s) = beside scn cmu mem d (zoneChange s) := by
  have zone : (beside scn cmu mem d s).zone = s.zone := rfl
  have voice : (beside scn cmu mem d s).chu = s.chu := rfl
  unfold zoneChange
  rw [zone, voice]
  dsimp only
  cases s.chu.p.st with
  | off | release => rfl
  | beep | gap =>
    dsimp only
    split_ifs
    · exact beside_setVoiceP ..
    · rfl
  | tone =>
    cases henv : s.chu.p.env with
    | none => exact beside_setVoiceP _ { s with free := s.free + 1 }
    | some e => exact beside_setVoiceP _ s
  | quiet => exact beside_setVoiceP ..

theorem beside_syncVoiceP (z : Nat) (s : State) :
    syncVoiceP z (beside scn cmu mem d s) = beside scn cmu mem d (syncVoiceP z s) := by
  have active : (beside scn cmu mem d s).voicePActive = s.voicePActive := rfl
  have zone : (beside scn cmu mem d s).zone = s.zone := rfl
  have voice : (beside scn cmu mem d s).chu = s.chu := rfl
  unfold syncVoiceP
  rw [active, zone, voice]
  split_ifs
  · exact beside_setVoiceP ..
  · exact beside_setVoiceP ..
  · exact beside_setVoiceP ..
  · rfl
  · exact beside_zoneChange s

end

/-! ### Moves of the reverse state outside NORMAL -/

/-- Capture that runs as it did is left alone. -/
theorem syncCapture_same {was : Bool} {s : State} (h : s.capturing = was) : syncCapture was s = (s, []) := by
  simp [syncCapture, h]

/-- Outside NORMAL a move of the reverse state moves no coupling but voice P's. -/
theorem moveReverse_within {st : RevState} {s : State} (h : s.rvc.st ≠ .normal) (h' : st ≠ .normal) :
    moveReverse st s = (syncVoiceP s.zone (s.setRvc { s.rvc with st := st }).markDirty, []) := by
  have moved : (s.setRvc { s.rvc with st := st }).markDirty.reversing = true := decide_eq_true h'
  have before : s.reversing = true := (reversing_iff s).2 h
  have running : (s.setRvc { s.rvc with st := st }).markDirty.capturing = s.capturing := by
    unfold State.capturing
    rw [moved, before]
    rfl
  have guide : syncGuide s.reversing (s.setRvc { s.rvc with st := st }).markDirty = (s.setRvc { s.rvc with st := st }).markDirty :=
    syncGuide_same ⟨fun _ => before, fun _ => h'⟩
  rw [moveReverse, syncCapture_same running, guide]

/-! ### Slot selection (R66) -/

/-- The slots and the reverse timers after the READY slot `i` is selected. -/
def selected (i : Nat) (s : State) : State :=
  let slots := s.ccu.slots.map fun x => if x.st = .shown ∨ x.st = .ready then { x with st := SlotState.free } else x
  { s with ccu := { s.ccu with slots := setSlotState slots i .shown }, seu := { s.seu with dirty := true },
           rvc := { s.rvc with staleTimer := some s.rvc.setup.stale, engageTimer := none } }

/-- The newest READY slot. -/
def newestReady (s : State) : Option Nat := pickReady (fun a b => decide (a < b)) s.ccu.seen s.ccu.slots

/-- A frame may select a slot: the request holds (R66). -/
def Selecting (s : State) : Prop := s.rvc.st = .engaging ∨ s.rvc.st = .live ∨ s.rvc.st = .blanked

section
variable {s : State}

theorem Selecting.ne (h : Selecting s) : s.rvc.st ≠ .normal := by
  rcases h with h | h | h <;> rw [h] <;> decide

theorem selectSlot_not (h : ¬Selecting s) : selectSlot s = s := by
  unfold selectSlot
  split
  · rfl
  · rfl
  · rename_i k; exact absurd (.inl k) h
  · rename_i k; exact absurd (.inr (.inl k)) h
  · rename_i k; exact absurd (.inr (.inr k)) h

theorem selectSlot_none (h : newestReady s = none) : selectSlot s = s := by
  unfold selectSlot
  split
  · rfl
  · rfl
  all_goals
    rw [show pickReady (fun a b => decide (a < b)) s.ccu.seen s.ccu.slots = none from h]

theorem selectSlot_some {i : Nat} (h : Selecting s) (hi : newestReady s = some i) : selectSlot s =
    if s.rvc.st = .live then selected i s
    else syncVoiceP s.zone ((selected i s).setRvc { (selected i s).rvc with st := .live }).markDirty := by
  have move : s.rvc.st ≠ .normal → raised (moveReverse .live (selected i s)) =
      syncVoiceP s.zone ((selected i s).setRvc { (selected i s).rvc with st := .live }).markDirty := fun k => by
    rw [moveReverse_within (s := selected i s) k (by decide)]
    rfl
  rw [← move h.ne]
  unfold selectSlot
  rw [show pickReady (fun a b => decide (a < b)) s.ccu.seen s.ccu.slots = some i from hi]
  split
  · rename_i k; exact absurd k h.ne
  · rename_i k
    rcases h with h | h | h <;> rw [k] at h <;> cases h
  all_goals rfl

end

section
variable {scn : PerOutput Scan} {cmu : Cmu} {mem : MemState} {d : Bool}

theorem beside_selected (i : Nat) (s : State) : selected i (beside scn cmu mem d s) = beside scn cmu mem d (selected i s) := rfl

theorem beside_selectSlot (s : State) : selectSlot (beside scn cmu mem d s) = beside scn cmu mem d (selectSlot s) := by
  by_cases h : Selecting s
  · cases hi : newestReady s with
    | none => rw [selectSlot_none hi, selectSlot_none (s := beside scn cmu mem d s) hi]
    | some i =>
      rw [selectSlot_some h hi, selectSlot_some (s := beside scn cmu mem d s) h hi, beside_selected]
      have live : (beside scn cmu mem d s).rvc.st = s.rvc.st := rfl
      rw [live]
      split_ifs
      · rfl
      · rw [← beside_syncVoiceP, ← beside_markDirty]
        rfl
  · rw [selectSlot_not h, selectSlot_not (s := beside scn cmu mem d s) h]

/-! ### The frame starts of the other blocks -/

theorem beside_setGde (g : Gde) (s : State) :
    ((beside scn cmu mem d s).setGde g).markDirty = beside scn cmu mem d (s.setGde g).markDirty := beside_markDirty (s.setGde g)

theorem beside_setCcu (c : Ccu) (s : State) :
    ((beside scn cmu mem d s).setCcu c).markDirty = beside scn cmu mem d (s.setCcu c).markDirty := beside_markDirty (s.setCcu c)

theorem beside_swapBanks (s : State) : swapBanks (beside scn cmu mem d s) = beside scn cmu mem d (swapBanks s) := by
  have guide : (beside scn cmu mem d s).gde = s.gde := rfl
  unfold swapBanks
  rw [guide]
  split_ifs
  · exact beside_setGde ..
  · exact beside_setGde ..
  · exact beside_setGde ..
  · rfl

/-- A recompute captures of the scanout units the timing record of CTR alone (R88). -/
theorem beside_captureInputs {s : State} (h : scn.ctr.timing = s.scn.ctr.timing) :
    (beside scn cmu mem d s).captureInputs = s.captureInputs := by
  rw [captureInputs_eq, captureInputs_eq]
  show ({ angle := _, steerOk := _, dist := _, obstacleOk := _, setup := _, area := scn.ctr.timing.map _, strip := _ } : Captured) = _
  unfold beside
  dsimp only
  rw [h]

theorem beside_startRecompute {s : State} (h : scn.ctr.timing = s.scn.ctr.timing) :
    startRecompute (beside scn cmu mem d s) = beside scn cmu mem d (startRecompute s) := by
  have guide : (beside scn cmu mem d s).gde = s.gde := rfl
  unfold startRecompute
  rw [beside_captureInputs h, guide]
  exact beside_setGde ..

theorem beside_guideFrameStart {s : State} (h : scn.ctr.timing = s.scn.ctr.timing) :
    guideFrameStart (beside scn cmu mem d s) = beside scn cmu mem d (guideFrameStart s) := by
  have timing : (swapBanks s).scn = s.scn := by
    rw [swapBanks_eq]
    split_ifs <;> rfl
  rw [guideFrameStart_eq, guideFrameStart_eq, beside_swapBanks, beside_startRecompute (by rw [timing]; exact h)]
  exact (apply_ite (beside scn cmu mem d) _ _ _).symm

/-- The layout is dropped, and the SHOWN slot released, where the state is NORMAL (R72, R74). -/
def releasedInNormal (s : State) : State :=
  if s.reversing then s else (releaseShown s).setRvc { (releaseShown s).rvc with releaseAtStop := false }

theorem beside_releaseShown (s : State) : releaseShown (beside scn cmu mem d s) = beside scn cmu mem d (releaseShown s) := by
  have slots : (beside scn cmu mem d s).ccu = s.ccu := rfl
  unfold releaseShown
  rw [slots]
  split_ifs
  · exact beside_setCcu ..
  · rfl

theorem beside_releasedInNormal (s : State) :
    releasedInNormal (beside scn cmu mem d s) = beside scn cmu mem d (releasedInNormal s) := by
  have level : (beside scn cmu mem d s).reversing = s.reversing := rfl
  unfold releasedInNormal
  rw [level, beside_releaseShown]
  split_ifs <;> rfl

theorem latchLayout_eq (s : State) : s.latchLayout = s.scn.ctr.timing.bind fun t =>
    if s.reversing then
      some { strip := min s.rvc.setup.strip (t.ha / 2), x := s.rvc.setup.x, y := s.rvc.setup.y, scale := s.rvc.setup.scale,
             fill := s.rvc.setup.fill, unavailable := s.rvc.setup.unavailable, slot := shownSlot s.ccu.slots, mode := s.displayMode }
    else none := by
  unfold State.latchLayout
  cases s.scn.ctr.timing <;> rfl

theorem reverseFrameStart_eq (s : State) : reverseFrameStart s = { guideFrameStart (releasedInNormal (selectSlot s)) with
    layout := (guideFrameStart (releasedInNormal (selectSlot s))).latchLayout } := rfl

/-- The scanout units stay at the frame start of the other blocks. -/
theorem selectSlot_scn (s : State) : (selectSlot s).scn = s.scn := by
  by_cases h : Selecting s
  · cases hi : newestReady s with
    | none => rw [selectSlot_none hi]
    | some i =>
      rw [selectSlot_some h hi]
      split_ifs
      · rfl
      · obtain ⟨p, e, f, only⟩ := syncVoiceP_only s.zone ((selected i s).setRvc { (selected i s).rvc with st := .live }).markDirty
        rw [only]
        rfl
  · rw [selectSlot_not h]

theorem releasedInNormal_scn (s : State) : (releasedInNormal s).scn = s.scn := by
  unfold releasedInNormal releaseShown
  split_ifs <;> rfl

theorem guideFrameStart_scn (s : State) : (guideFrameStart s).scn = s.scn := by
  obtain ⟨g, e, only⟩ := guideFrameStart_only s
  rw [only]

theorem beside_reverseFrameStart {s : State} (h : scn.ctr.timing = s.scn.ctr.timing) :
    reverseFrameStart (beside scn cmu mem d s) = beside scn cmu mem d (reverseFrameStart s) := by
  have timing : scn.ctr.timing = (releasedInNormal (selectSlot s)).scn.ctr.timing := by
    rw [releasedInNormal_scn, selectSlot_scn, h]
  rw [reverseFrameStart_eq, reverseFrameStart_eq, beside_selectSlot, beside_releasedInNormal, beside_guideFrameStart timing,
    latchLayout_eq, latchLayout_eq, guideFrameStart_scn, ← timing]
  rfl

theorem beside_changeFqu (q : Fqu) (s : State) :
    (beside scn cmu mem d s).changeFqu q = beside scn cmu mem d (s.changeFqu q) := beside_dirtyIf _ (s.setFqu q)

theorem beside_filmFrameStart (o : Rear) (s : State) : filmFrameStart o (beside scn cmu mem d s) =
    (beside scn cmu mem d (filmFrameStart o s).1, (filmFrameStart o s).2) := by
  have films : (beside scn cmu mem d s).fqu = s.fqu := rfl
  have held : (beside scn cmu mem d s).filmHeld = s.filmHeld := rfl
  unfold filmFrameStart
  rw [films, held]
  dsimp only
  cases (s.fqu.rear.get o).pending with
  | none => exact congrArg₂ Prod.mk (beside_changeFqu ..) rfl
  | some src => exact congrArg₂ Prod.mk (beside_changeFqu ..) rfl

/-- The other blocks' work at a frame start reads of the scanout units the timing record of CTR alone. -/
theorem beside_blocksFrameStart {s : State} (o : Output) (h : scn.ctr.timing = s.scn.ctr.timing) :
    blocksFrameStart o (beside scn cmu mem d s) = (beside scn cmu mem d (blocksFrameStart o s).1, (blocksFrameStart o s).2) := by
  cases o with
  | ctr => exact congrArg₂ Prod.mk (beside_reverseFrameStart h) rfl
  | rl => exact beside_filmFrameStart .rl (s.modMenu .rl Menu.frameStart)
  | rr => exact beside_filmFrameStart .rr (s.modMenu .rr Menu.frameStart)

end

end Sys2Proof.Proofs
end

section
/-! PROOFS. The frame start of an output (R5, R8 to R11, R18, R21, R22). -/

namespace Sys2Proof.Proofs

open Sys2Proof.Machine Sys2Proof.Safety

/-! ### The memory's holder once a line is abandoned -/

/-- The memory's holder where bursts of the named planes' lines are abandoned (R11, R13). -/
def lineDropped (o : Output) (which : PlaneId → Bool) (m : MemState) : MemState :=
  match m with
  | .data g =>
    match g.burst with
    | .line o' p num ws last _ => if o' = o ∧ which p = true then .data { g with burst := .line o' p num ws last true } else .data g
    | _ => .data g
  | .notReady => .notReady
  | .idle => .idle
  | .refresh => .refresh

theorem dropLine_eq (o : Output) (which : PlaneId → Bool) (s : State) : dropLine o which s =
    { s with fma := { s.fma with memory := lineDropped o which s.fma.memory } } := by
  unfold dropLine lineDropped
  cases h : s.fma.memory with
  | data g =>
    dsimp only
    cases hb : g.burst with
    | line o' p num ws last dropped =>
      dsimp only
      split_ifs
      · rfl
      · rw [← h]
    | _ => dsimp only; rw [← h]
  | _ => dsimp only; rw [← h]

/-- An abandoned line goes on holding the memory. -/
theorem lineDropped_eq_idle_iff (o : Output) (which : PlaneId → Bool) (m : MemState) : lineDropped o which m = .idle ↔ m = .idle := by
  unfold lineDropped
  cases m with
  | data g =>
    dsimp only
    split
    · split_ifs <;> simp
    · simp
  | _ => simp

/-! ### The frame that begins -/

/-- The fetching planes of a frame with the descriptors `d`, bottom to top (R10). -/
def planesOf (b : State) (o : Output) (d : Planes) (t : Timing) : List Fetch :=
  match outputRear o with
  | none => cameraFetch b.layout b.ccu.setup t ++ uiFetch b.layout d.ui
  | some r => filmFetch b.fqu t r d.film ++ menuFetch (b.menu.get r) d.menu

/-- A scanout unit at the start of its frame (R8, R11, R14). -/
def freshFrame (planes : List Fetch) (x : Scan) : Scan :=
  { x with inUse := x.asSet, underruns := 0, frameOpen := true, row := 0, pixels := [], fetch := planes }

/-- The timing record of CTR stays where an output keeps its own. -/
theorem set_ctr_timing {p q : PerOutput Scan} {o : Output} {x : Scan} (hx : x.timing = (p.get o).timing)
    (h : p.ctr.timing = q.ctr.timing) : (p.set o x).ctr.timing = q.ctr.timing := by
  cases o with
  | ctr => exact hx.trans h
  | rl | rr => exact h

theorem frameStartOf_beside {scn : PerOutput Scan} {cmu : Cmu} {mem : MemState} {d : Bool} {o : Output} {s : State} {t : Timing}
    (ht : (scn.get o).timing = some t) (h : scn.ctr.timing = s.scn.ctr.timing) :
    frameStartOf o (beside scn cmu mem d s) =
      (beside (scn.set o (freshFrame (planesOf (blocksFrameStart o s).1 o (scn.get o).asSet t) (scn.get o))) cmu
        (lineDropped o (fun _ => true) mem) d (blocksFrameStart o s).1, (blocksFrameStart o s).2) := by
  have ht' : ((beside scn cmu mem d s).scan o).timing = some t := ht
  have inUse : (beside scn cmu mem d s).modScan o (fun sc => { sc with inUse := sc.asSet }) =
      beside (scn.set o { scn.get o with inUse := (scn.get o).asSet }) cmu mem d s := rfl
  have timing : (scn.set o { scn.get o with inUse := (scn.get o).asSet }).ctr.timing = s.scn.ctr.timing := set_ctr_timing rfl h
  unfold frameStartOf
  rw [ht']
  dsimp only
  rw [inUse, beside_blocksFrameStart o timing, dropLine_eq]
  refine congrArg₂ Prod.mk ?_ rfl
  unfold State.modScan State.setScan State.scan beside
  dsimp only
  rw [PerOutput.get_set, PerOutput.set_set]
  unfold framePlanes planesOf State.scan
  dsimp only
  rw [PerOutput.get_set]
  rfl

/-- The pacing event of a frame start (R22). -/
def paceRaises (o : Output) (x : Scan) : List Raise :=
  if x.pacing.on && !x.frames.getLsbD x.pacing.bit && (x.frames + 1).getLsbD x.pacing.bit
    then [⟨paceKind o, x.frames + 1, BitVec.ofNat 32 x.pacing.bit⟩] else []

/-- An output takes a frame start: it runs, its last frame has ended, and it has the timing record `t`. -/
structure Starts (o : Output) (t : Timing) (s : State) : Prop where
  runs : (s.scan o).st ≠ .stopped
  ended : (s.scan o).frameOpen = false
  timing : (s.scan o).timing = some t

/-- The scanout unit of an output after a frame start. -/
def nextFrame (o : Output) (t : Timing) (s : State) : Scan :=
  freshFrame (planesOf (blocksFrameStart o s).1 o (s.scan o).asSet t) { s.scan o with frames := (s.scan o).frames + 1 }

/-- The state after a frame start, before its raises. -/
def frameStarted (o : Output) (t : Timing) (s : State) : State :=
  beside (s.scn.set o (nextFrame o t s)) s.cmu (lineDropped o (fun _ => true) s.fma.memory) false (blocksFrameStart o s).1

theorem beside_id (scn : PerOutput Scan) (s : State) : beside scn s.cmu s.fma.memory false s = { s with scn := scn } := by
  simp [beside]

theorem doFrameStart_eq {o : Output} {t : Timing} {s : State} (h : Starts o t s) : doFrameStart o s =
    raiseTogether [paceRaises o (s.scan o), (blocksFrameStart o s).2] (frameStarted o t s) := by
  have advanced : advanceFrames o s =
      (beside (s.scn.set o { s.scan o with frames := (s.scan o).frames + 1 }) s.cmu s.fma.memory false s, paceRaises o (s.scan o)) := by
    rw [beside_id]
    rfl
  have timing : ((s.scn.set o { s.scan o with frames := (s.scan o).frames + 1 }).get o).timing = some t := by
    rw [PerOutput.get_set]
    exact h.timing
  have starts : frameStartOf o (advanceFrames o s).1 = (frameStarted o t s, (blocksFrameStart o s).2) := by
    rw [advanced, frameStartOf_beside timing (set_ctr_timing rfl rfl), PerOutput.get_set, PerOutput.set_set]
    rfl
  unfold doFrameStart
  dsimp only
  rw [if_neg (by simp [h.runs, h.ended]), starts, advanced]

end Sys2Proof.Proofs
end

section
/-! PROOFS. The frame start of an output: counter, descriptors, fetching planes, palette and fade (R5, R8 to R10, R18, R21, R22). -/

namespace Sys2Proof.Proofs

open Sys2Proof.Machine Sys2Proof.Safety

/-! ### Raises and the pending flags -/

/-- A flag that is pending stays so through raises (R167). -/
theorem pending_raiseAll {s : State} {j : EvKind} (rs : List Raise) (h : s.seu.pending.getLsbD j.code = true) :
    (raiseAll rs s).seu.pending.getLsbD j.code = true := by
  have stays : s.seu.pending &&& (raiseAll rs s).seu.pending = s.seu.pending := (keeps_raiseAll rs s).rule .pendingStays (by simp)
  rw [← stays, BitVec.getLsbD_and, Bool.and_eq_true] at h
  exact h.2

/-- A kind that is raised is pending. -/
theorem pending_of_mem {r : Raise} {rs : List Raise} {s : State} (h : r ∈ rs) :
    (raiseAll rs s).seu.pending.getLsbD r.kind.code = true := by
  induction rs generalizing s with
  | nil => cases h
  | cons x xs ih =>
    rcases List.mem_cons.1 h with rfl | later
    · exact pending_raiseAll xs (((raiseEffect.1 r.kind r.detail r.aux s _ rfl).1 r.kind).1.2 (.inr (.inl rfl)))
    · exact ih later

theorem interleave_nil (k : Nat) (xs : List Raise) : interleave k xs [] = xs := by
  cases xs <;> rfl

theorem interleaveAll_two (k : Nat) (xs ys : List Raise) : interleaveAll k [xs, ys] = interleave k xs ys := by
  show interleave k xs (interleave _ ys []) = _
  rw [interleave_nil]

/-- The raises of two blocks together are made in some order that keeps each block's (R167). -/
theorem raiseTogether_two (xs ys : List Raise) (s : State) : raiseTogether [xs, ys] s =
    raiseAll (interleave s.free xs ys) { s with free := s.free + [xs, ys].flatten.length } := by
  rw [raiseTogether, interleaveAll_two]

/-! ### What the other blocks' work at a frame start leaves alone -/

/-- The Film Queue Unit's work at a rear output's frame start (R32). -/
theorem filmFrameStart_only (o : Rear) (s : State) :
    ∃ q d, (filmFrameStart o s).1 = { s with fqu := q, seu := { s.seu with dirty := d } } := by
  have changed (q : Fqu) : ∃ q' d, s.changeFqu q = { s with fqu := q', seu := { s.seu with dirty := d } } :=
    ⟨q, _, dirtyIf_eq ..⟩
  unfold filmFrameStart
  dsimp only
  split <;> exact changed _

/-- The work of the Reverse Controller, the Guide Engine and voice P at a CTR frame start. -/
def ReverseOnly (s t : State) : Prop :=
  ∃ slots rvc gde p layout dirty free, t = { s with
    ccu := { s.ccu with slots := slots }, rvc := rvc, gde := gde, chu := { s.chu with p := p }, layout := layout,
    seu := { s.seu with dirty := dirty }, free := free }

theorem ReverseOnly.refl (s : State) : ReverseOnly s s := ⟨_, _, _, _, _, _, _, rfl⟩

theorem ReverseOnly.trans {s t u : State} (h : ReverseOnly s t) (k : ReverseOnly t u) : ReverseOnly s u := by
  obtain ⟨_, _, _, _, _, _, _, rfl⟩ := h
  obtain ⟨_, _, _, _, _, _, _, rfl⟩ := k
  exact ⟨_, _, _, _, _, _, _, rfl⟩

theorem VoicePOnly.reverse {s t : State} (h : VoicePOnly s t) : ReverseOnly s t := by
  obtain ⟨p, d, f, rfl⟩ := h
  exact ⟨s.ccu.slots, s.rvc, s.gde, p, s.layout, d, f, rfl⟩

/-- A slot is selected and the reverse timers are set; then the state may become LIVE. -/
theorem selected_only (i : Nat) (s : State) (st : RevState) :
    ReverseOnly s (selected i s) ∧ ReverseOnly s ((selected i s).setRvc { (selected i s).rvc with st := st }).markDirty := by
  unfold selected State.setRvc State.markDirty
  exact ⟨⟨_, _, s.gde, s.chu.p, s.layout, true, s.free, rfl⟩, ⟨_, _, s.gde, s.chu.p, s.layout, true, s.free, rfl⟩⟩

theorem selectSlot_only (s : State) : ReverseOnly s (selectSlot s) := by
  by_cases h : Selecting s
  · cases hi : newestReady s with
    | none => rw [selectSlot_none hi]; exact .refl s
    | some i =>
      rw [selectSlot_some h hi]
      obtain ⟨chosen, live⟩ := selected_only i s .live
      split_ifs
      · exact chosen
      · exact live.trans (syncVoiceP_only ..).reverse
  · rw [selectSlot_not h]
    exact .refl s

theorem releasedInNormal_only (s : State) : ReverseOnly s (releasedInNormal s) := by
  unfold releasedInNormal releaseShown
  split_ifs <;> exact ⟨_, _, _, _, _, _, _, rfl⟩

theorem reverseFrameStart_only (s : State) : ReverseOnly s (reverseFrameStart s) := by
  obtain ⟨g, d, guide⟩ := guideFrameStart_only (releasedInNormal (selectSlot s))
  rw [reverseFrameStart_eq]
  refine ((selectSlot_only s).trans (releasedInNormal_only _)).trans ?_
  rw [guide]
  exact ⟨_, _, _, _, _, _, _, rfl⟩

/-- At CTR a frame start is the Reverse Controller's; at a rear output the Film Queue Unit's, with palette and fade (R8). -/
theorem blocksFrameStart_cases (o : Output) (s : State) :
    (o = .ctr ∧ (blocksFrameStart o s).2 = [] ∧ ReverseOnly s (blocksFrameStart o s).1) ∨
    ∃ r q d, outputRear o = some r ∧ (blocksFrameStart o s).1 =
      { s with fqu := q, menu := s.menu.set r (s.menu.get r).frameStart, seu := { s.seu with dirty := d } } := by
  have rear (r : Rear) (h : outputRear o = some r) : ∃ r q d, outputRear o = some r ∧ (blocksFrameStart o s).1 =
      { s with fqu := q, menu := s.menu.set r (s.menu.get r).frameStart, seu := { s.seu with dirty := d } } := by
    obtain ⟨q, d, only⟩ := filmFrameStart_only r (s.modMenu r Menu.frameStart)
    refine ⟨r, q, d, h, ?_⟩
    unfold blocksFrameStart
    rw [h]
    exact only
  cases o with
  | ctr => exact .inl ⟨rfl, rfl, reverseFrameStart_only s⟩
  | rl => exact .inr (rear .rl rfl)
  | rr => exact .inr (rear .rr rfl)

/-! ### The step -/

/-- A frame start answers the state in which it has begun, with its raises, but for the arbiter's part. -/
theorem frameStart_answers {o : Output} {t : Timing} {s : State} (live : s.phase ≠ .held) (h : Starts o t s) :
    Answers (.frameStart o) s (raiseTogether [paceRaises o (s.scan o), (blocksFrameStart o s).2] (frameStarted o t s)) :=
  answers_of_live rfl live (doFrameStart_eq h)

section
variable {o : Output} {t : Timing} {s u : State}

/-- Raises change neither the scanout units nor any other block. -/
theorem scan_of_started (h : Decided (raiseTogether [paceRaises o (s.scan o), (blocksFrameStart o s).2] (frameStarted o t s)) u)
    (o' : Output) : u.scan o' = if o' = o then nextFrame o t s else s.scan o' := by
  have scn : u.scn = s.scn.set o (nextFrame o t s) := h.scn.trans (by rw [raiseTogether_eq]; rfl)
  unfold State.scan
  rw [scn]
  split_ifs with same
  · rw [same, PerOutput.get_set]
  · exact PerOutput.get_set_ne _ _ _ _ same

/-- The pacing event is raised where it is due, in whatever order. -/
theorem pace_pending (h : Decided (raiseTogether [paceRaises o (s.scan o), (blocksFrameStart o s).2] (frameStarted o t s)) u)
    (due : paceRaises o (s.scan o) ≠ []) : u.seu.pending.getLsbD (paceKind o).code = true := by
  obtain ⟨x, hx⟩ := List.exists_mem_of_ne_nil _ due
  have kind : x.kind = paceKind o := by
    unfold paceRaises at hx
    split at hx
    · rw [List.mem_singleton.1 hx]
    · cases hx
  rw [h.seu, ← kind, raiseTogether_two]
  exact pending_of_mem ((interleave_perm _ _ _).mem_iff.2 (List.mem_append_left _ hx))

/-- At CTR the pacing event is the only raise. -/
theorem started_raises (ctr : o = .ctr)
    (h : Decided (raiseTogether [paceRaises o (s.scan o), (blocksFrameStart o s).2] (frameStarted o t s)) u) :
    Raises (paceRaises o (s.scan o)) s u := by
  subst ctr
  rcases blocksFrameStart_cases .ctr s with ⟨_, silent, _, _, _, _, _, d, _, only⟩ | ⟨_, _, _, rear, _⟩
  · refine RaisesTo.raises ?_ h
    rw [silent, raiseTogether_two, interleave_nil]
    refine raisesTo_raiseAll (b := d || false) ?_ ?_ _
    · unfold frameStarted beside
      rw [only]
    · unfold frameStarted beside
      rw [only]
  · cases rear

end

end Sys2Proof.Proofs
end

section
/-! PROOFS. FRAME_START: counter, descriptors, fetching planes, palette and fade (R5, R8 to R10, R18, R21, R22). -/

namespace Sys2Proof.Proofs

open Sys2Proof.Machine Sys2Proof.Safety

/-! ### The fetching planes (R7, R9, R10, R74) -/

/-- A plane at the start of its frame holds no line. -/
def Fresh (p : Fetch) : Prop := p.lines = [] ∧ p.got = [] ∧ p.next = p.first ∧ p.latest = none

theorem planesOf_fresh {b : State} {o : Output} {d : Planes} {t : Timing} {p : Fetch} (h : p ∈ planesOf b o d t) : Fresh p := by
  have fresh (plane : PlaneId) (format : PixelFormat) (base pitch first stop words pixels x y top scale alpha : Nat) :
      Fresh (freshFetch plane format base pitch first stop words pixels x y top scale alpha) := ⟨rfl, rfl, rfl, rfl⟩
  have ui (l : Option Layout) (d : Descriptor) : ∀ p ∈ uiFetch l d, Fresh p := fun p hp => by
    unfold uiFetch at hp
    split at hp
    · cases hp
    · rw [List.mem_singleton.1 hp]; exact fresh ..
  have camera (l : Option Layout) (c : Option CamSetup) : ∀ p ∈ cameraFetch l c t, Fresh p := fun p hp => by
    unfold cameraFetch at hp
    split at hp
    · split at hp
      · rw [List.mem_singleton.1 (List.mem_ite_nil_left.1 hp).2]; exact fresh ..
      · cases hp
    · cases hp
  have film (q : Fqu) (r : Rear) (d : Descriptor) : ∀ p ∈ filmFetch q t r d, Fresh p := fun p hp => by
    unfold filmFetch at hp
    split at hp
    · cases hp
    · split at hp
      · cases hp
      · rw [List.mem_singleton.1 hp]; exact fresh ..
  have menu (m : Menu) (d : Descriptor) : ∀ p ∈ menuFetch m d, Fresh p := fun p hp => by
    unfold menuFetch at hp
    split at hp
    · cases hp
    · rw [List.mem_singleton.1 hp]; exact fresh ..
  unfold planesOf at h
  split at h
  · exact (List.mem_append.1 h).elim (camera _ _ p) (ui _ _ p)
  · exact (List.mem_append.1 h).elim (film _ _ _ p) (menu _ _ p)

/-! ### The fade (R21) -/

section
variable {m : Menu}

theorem fadeStep_fadingIn (h : m.motion = .fadingIn) : m.fadeStep = { m with
    pos := m.pos + 1, motion := if m.pos + 2 = m.ramp.length then .inRest else .fadingIn
    level := some (m.ramp.getD (m.pos + 1) 0).toNat } := by
  simp only [Menu.fadeStep, h]

theorem fadeStep_fadingOut (h : m.motion = .fadingOut) : m.fadeStep = if m.pos - 1 = 0
    then { m with pos := 0, motion := .outRest, level := none }
    else { m with pos := m.pos - 1, level := some (m.ramp.getD (m.pos - 1) 0).toNat } := by
  simp only [Menu.fadeStep, h]

theorem fadeStep_inRest (h : m.motion = .inRest) :
    m.fadeStep = { m with level := some (m.ramp.getD (m.ramp.length - 1) 0).toNat } := by
  simp only [Menu.fadeStep, h]

theorem fadeStep_outRest (h : m.motion = .outRest) : m.fadeStep = { m with level := none } := by
  simp only [Menu.fadeStep, h]

theorem fadeStep_kept (m : Menu) :
    m.fadeStep.ramp = m.ramp ∧ m.fadeStep.palette = m.palette ∧ m.fadeStep.pendingPalette = m.pendingPalette := by
  unfold Menu.fadeStep
  dsimp only
  split
  · exact ⟨rfl, rfl, rfl⟩
  · split_ifs <;> exact ⟨rfl, rfl, rfl⟩
  · exact ⟨rfl, rfl, rfl⟩
  · exact ⟨rfl, rfl, rfl⟩

end

/-! ### What a frame start leaves alone -/

section
variable {o : Output} {t : Timing} {s u : State}

/-- The blocks that no frame start touches. -/
theorem started_leaves (h : Decided (raiseTogether [paceRaises o (s.scan o), (blocksFrameStart o s).2] (frameStarted o t s)) u) :
    u.time = s.time ∧ u.straps = s.straps ∧ u.mem = s.mem ∧ u.ppw = s.ppw ∧ u.cmu = s.cmu ∧ u.links = s.links ∧
      u.pending = s.pending := by
  have same : (frameStarted o t s).time = s.time ∧ (frameStarted o t s).straps = s.straps ∧ (frameStarted o t s).mem = s.mem ∧
      (frameStarted o t s).ppw = s.ppw ∧ (frameStarted o t s).links = s.links ∧ (frameStarted o t s).pending = s.pending := by
    unfold frameStarted beside
    rcases blocksFrameStart_cases o s with ⟨_, _, _, _, _, _, _, _, _, only⟩ | ⟨r, q, d, _, only⟩ <;> rw [only] <;>
      exact ⟨rfl, rfl, rfl, rfl, rfl, rfl⟩
  obtain ⟨time, straps, mem, ppw, links, pending⟩ := same
  rw [raiseTogether_eq] at h
  exact ⟨h.time.trans time, h.straps.trans straps, h.mem.trans mem, h.ppw.trans ppw, h.cmu, h.links.trans links,
    h.pending.trans pending⟩

theorem started_rear_leaves (rear : o ≠ .ctr)
    (h : Decided (raiseTogether [paceRaises o (s.scan o), (blocksFrameStart o s).2] (frameStarted o t s)) u) :
    u.rvc = s.rvc ∧ u.gde = s.gde ∧ u.chu = s.chu ∧ u.layout = s.layout ∧ u.ccu.slots = s.ccu.slots := by
  have same : (frameStarted o t s).rvc = s.rvc ∧ (frameStarted o t s).gde = s.gde ∧ (frameStarted o t s).chu = s.chu ∧
      (frameStarted o t s).layout = s.layout ∧ (frameStarted o t s).ccu = s.ccu := by
    unfold frameStarted beside
    rcases blocksFrameStart_cases o s with ⟨ctr, _⟩ | ⟨r, q, d, _, only⟩
    · exact absurd ctr rear
    · rw [only]
      exact ⟨rfl, rfl, rfl, rfl, rfl⟩
  obtain ⟨rvc, gde, chu, layout, ccu⟩ := same
  rw [raiseTogether_eq] at h
  exact ⟨h.rvc.trans rvc, h.gde.trans gde, h.chu.trans chu, h.layout.trans layout, by
    rw [h.ccu, ← ccu]⟩

theorem started_ctr_leaves (ctr : o = .ctr)
    (h : Decided (raiseTogether [paceRaises o (s.scan o), (blocksFrameStart o s).2] (frameStarted o t s)) u) :
    u.fqu = s.fqu ∧ u.menu = s.menu := by
  have same : (frameStarted o t s).fqu = s.fqu ∧ (frameStarted o t s).menu = s.menu := by
    unfold frameStarted beside
    rcases blocksFrameStart_cases o s with ⟨_, _, _, _, _, _, _, _, _, only⟩ | ⟨r, q, d, rear, _⟩
    · rw [only]
      exact ⟨rfl, rfl⟩
    · rw [ctr] at rear
      cases rear
  rw [raiseTogether_eq] at h
  exact ⟨h.fqu.trans same.1, h.menu.trans same.2⟩

end

/-! ### The fetching planes of the answer (R9, R10, R74) -/

/-- At CTR the camera plane lies under the UI plane (R10, R74). -/
theorem planesOf_ctr (b : State) (d : Planes) (t : Timing) :
    planesOf b .ctr d t = cameraFetch b.layout b.ccu.setup t ++ uiFetch b.layout d.ui := rfl

theorem planesOf_rear {o : Output} {r : Rear} (h : outputRear o = some r) (b : State) (d : Planes) (t : Timing) :
    planesOf b o d t = filmFetch b.fqu t r d.film ++ menuFetch (b.menu.get r) d.menu := by
  unfold planesOf
  rw [h]

theorem cameraFetch_none {l : Option Layout} {c : Option CamSetup} (t : Timing)
    (h : ∀ x, l = some x → x.mode ≠ .camera ∨ x.slot = none ∨ c = none) : cameraFetch l c t = [] := by
  unfold cameraFetch
  split
  · rename_i x c
    split
    · rename_i mode slot
      rcases h x rfl with k | k | k
      · exact absurd mode k
      · rw [slot] at k; cases k
      · cases k
    · rfl
  · rfl

theorem cameraFetch_some {x : Layout} {c : CamSetup} {slot : Nat} (t : Timing) (mode : x.mode = .camera)
    (hs : x.slot = some slot) : cameraFetch (some x) (some c) t =
      if t.wa ≤ x.x ∨ t.ha ≤ x.y ∨ min c.hc ((t.ha - x.y + x.scale - 1) / x.scale) ≤
          (if x.strip ≤ x.y then 0 else (x.strip - x.y) / x.scale) then []
      else [freshFetch .camera .ycbcr422 (c.slotBase slot) c.pitch (if x.strip ≤ x.y then 0 else (x.strip - x.y) / x.scale)
        (min c.hc ((t.ha - x.y + x.scale - 1) / x.scale)) (visiblePixels c.wc t.wa x.x x.scale / 2)
        (visiblePixels c.wc t.wa x.x x.scale) x.x x.y (max x.y x.strip) x.scale 255] := by
  unfold cameraFetch
  simp only [mode, hs]

theorem uiFetch_eq (l : Option Layout) (d : Descriptor) : uiFetch l d = if d.enabled = false then [] else
    [freshFetch .ui (if d.format = 1 then .rgb565 else .argb8888) d.base d.pitch 0
      (l.elim d.height fun x => min d.height (x.strip - d.y))
      ((d.width * (if d.format = 0 then 4 else if d.format = 1 then 2 else 1) + 3) / 4) d.width d.x d.y d.y 1 d.alpha] := by
  unfold uiFetch
  rw [bytesPerPixel_eq]
  cases d.enabled <;> cases l <;> rfl

theorem filmFetch_eq (q : Fqu) (t : Timing) (r : Rear) (d : Descriptor) : filmFetch q t r d =
    (q.rear.get r).latched.elim [] fun x => if d.enabled = false then [] else
      [freshFetch .film .ycbcr422 ((q.film x.1).bases.getD x.2 0) (q.film x.1).pitch 0
        (min (q.film x.1).height ((t.ha - d.y + d.scale - 1) / d.scale)) (visiblePixels (q.film x.1).width t.wa d.x d.scale / 2)
        (visiblePixels (q.film x.1).width t.wa d.x d.scale) d.x d.y d.y d.scale d.alpha] := by
  unfold filmFetch
  cases (q.rear.get r).latched with
  | none => rfl
  | some x => cases d.enabled <;> rfl

theorem menuFetch_eq (m : Menu) (d : Descriptor) : menuFetch m d = if d.enabled = false ∨ m.motion = .outRest then [] else
    [freshFetch .menu .index8 d.base d.pitch 0 d.height ((d.width + 3) / 4) d.width d.x d.y d.y 1 d.alpha] := by
  unfold menuFetch
  cases d.enabled <;> simp

/-- What the planes of the answer are read from: the layout, the camera setup, the film sources and the fades of the answer. -/
theorem planesOf_started {o : Output} {t : Timing} {s u : State}
    (h : Decided (raiseTogether [paceRaises o (s.scan o), (blocksFrameStart o s).2] (frameStarted o t s)) u) (d : Planes) :
    planesOf (blocksFrameStart o s).1 o d t = planesOf u o d t ∧ u.ccu.setup = s.ccu.setup := by
  rw [raiseTogether_eq] at h
  have layout : u.layout = (blocksFrameStart o s).1.layout := h.layout
  have fqu : u.fqu = (blocksFrameStart o s).1.fqu := h.fqu
  have menu : u.menu = (blocksFrameStart o s).1.menu := h.menu
  have setup : u.ccu.setup = (blocksFrameStart o s).1.ccu.setup := by rw [h.ccu]; rfl
  have same : (blocksFrameStart o s).1.ccu.setup = s.ccu.setup := by
    rcases blocksFrameStart_cases o s with ⟨_, _, _, _, _, _, _, _, _, only⟩ | ⟨r, q, d, _, only⟩ <;> rw [only]
  refine ⟨?_, setup.trans same⟩
  unfold planesOf
  rw [layout, fqu, menu, setup]

theorem outputRear_rearOutput (r : Rear) : outputRear (rearOutput r) = some r := by
  cases r <;> rfl

theorem menu_of_started {r : Rear} {t : Timing} {s u : State}
    (h : Decided (raiseTogether [paceRaises (rearOutput r) (s.scan (rearOutput r)), (blocksFrameStart (rearOutput r) s).2]
      (frameStarted (rearOutput r) t s)) u) : u.menu = s.menu.set r (s.menu.get r).frameStart := by
  rw [raiseTogether_eq] at h
  have menu : u.menu = (blocksFrameStart (rearOutput r) s).1.menu := h.menu
  rcases blocksFrameStart_cases (rearOutput r) s with ⟨ctr, _⟩ | ⟨r', q, d, hr, only⟩
  · cases r <;> cases ctr
  · rw [outputRear_rearOutput] at hr
    rw [menu, only, Option.some.inj hr]

/-- A pending palette comes into use (R18). -/
def withPalette (m : Menu) : Menu := { m with palette := m.pendingPalette.getD m.palette, pendingPalette := none }

/-- At a frame start the palette comes into use and the fade steps (R18, R21). -/
theorem frameStart_fade (m : Menu) : m.frameStart = (withPalette m).fadeStep := rfl

theorem frameStart_runs {o : Output} {s : State} {tm : Timing} (live : s.phase ≠ .held) (h : Starts o tm s) :
    ∃ t, exec (.frameStart o) s = .next t ∧
      Decided (raiseTogether [paceRaises o (s.scan o), (blocksFrameStart o s).2] (frameStarted o tm s)) t :=
  frameStart_answers live h

/-- Settles O11: the scanout unit, the fetching planes, and palette and fade of the answer. -/
theorem frameStart : Obligations.FrameStart := by
  refine ⟨fun o s tm live run ended timing => ?_, fun o s tm live run ended timing => ?_, fun o s m live run ended timing hm => ?_⟩
  · obtain ⟨t, answers, kept⟩ := frameStart_runs live ⟨run, ended, timing⟩
    have own : t.scan o = nextFrame o tm s := (scan_of_started kept o).trans (if_pos rfl)
    obtain ⟨time, straps, mem, ppw, cmu, links, pending⟩ := started_leaves kept
    refine ⟨t, answers, ?_⟩
    rw [own]
    refine ⟨rfl, rfl, rfl, rfl, rfl, fun p hp => planesOf_fresh hp, fun on low high => pace_pending kept ?_, rfl, timing, rfl, rfl,
      fun o' h => (scan_of_started kept o').trans (if_neg h), time, straps, mem, ppw, cmu, links, pending,
      fun rear => started_rear_leaves rear kept, fun ctr => ?_⟩
    · unfold paceRaises
      rw [on, low, high]
      exact List.cons_ne_nil _ _
    · obtain ⟨fqu, menu⟩ := started_ctr_leaves ctr kept
      have raises := started_raises ctr kept
      subst ctr
      exact ⟨fqu, menu, raises⟩
  · obtain ⟨t, answers, kept⟩ := frameStart_runs live ⟨run, ended, timing⟩
    have own : (t.scan o).fetch = planesOf t o (s.scan o).asSet tm := by
      rw [scan_of_started kept o, if_pos rfl]
      exact (planesOf_started kept _).1
    have setup := (planesOf_started kept (s.scan o).asSet).2
    refine ⟨t, answers, ?_⟩
    rw [own]
    intro d plane even shown bytes ui
    have isUi : uiFetch t.layout d.ui = ui := by
      have height : (t.layout.elim d.ui.height fun x => min d.ui.height (x.strip - d.ui.y)) = match t.layout with
          | none => d.ui.height
          | some l => min d.ui.height (l.strip - d.ui.y) := by
        cases t.layout <;> rfl
      rw [uiFetch_eq, height]
      rfl
    refine ⟨fun ctr => ⟨fun l c slot hl mode hs hc => ?_, fun none => ?_⟩, fun r hr => ?_⟩
    · subst ctr
      intro i0 stop wv
      rw [planesOf_ctr, isUi, hl, setup, hc, cameraFetch_some tm mode hs]
      by_cases off : tm.wa ≤ l.x ∨ tm.ha ≤ l.y ∨ stop ≤ i0
      · exact (congrArg (· ++ ui) (if_pos off)).trans (if_pos off).symm
      · exact (congrArg (· ++ ui) (if_neg off)).trans (if_neg off).symm
    · subst ctr
      rw [planesOf_ctr, isUi, cameraFetch_none tm (by rw [setup]; exact none)]
      rfl
    · rw [planesOf_rear hr, filmFetch_eq, menuFetch_eq]
      cases (t.fqu.rear.get r).latched <;> rfl
  · obtain ⟨tm, ht⟩ := Option.ne_none_iff_exists'.1 timing
    obtain ⟨t, answers, kept⟩ := frameStart_runs live ⟨run, ended, ht⟩
    have menu := menu_of_started kept
    subst hm
    obtain ⟨ramp, palette, taken⟩ := fadeStep_kept (withPalette (s.menu.get o))
    refine ⟨t, _, answers, rfl, ?_⟩
    rw [menu, PerRear.get_set, frameStart_fade]
    refine ⟨ramp, taken, palette, fun o' h => PerRear.get_set_ne _ _ _ _ h, fun k => ?_, fun k => ?_, fun k => ?_, fun k => ?_⟩
    · rw [fadeStep_fadingIn (m := withPalette (s.menu.get o)) k]
      exact ⟨rfl, rfl, rfl⟩
    · rw [fadeStep_fadingOut (m := withPalette (s.menu.get o)) k]
      by_cases low : (s.menu.get o).pos ≤ 1
      · have zero : (withPalette (s.menu.get o)).pos - 1 = 0 := Nat.sub_eq_zero_of_le low
        rw [if_pos zero, if_pos low]
        exact ⟨zero.symm, rfl, rfl⟩
      · have pos : (withPalette (s.menu.get o)).pos - 1 ≠ 0 := fun z => low (Nat.le_of_sub_eq_zero z)
        rw [if_neg pos, if_neg low]
        exact ⟨rfl, k, rfl⟩
    · rw [fadeStep_inRest (m := withPalette (s.menu.get o)) k]
      exact ⟨rfl, k, rfl⟩
    · rw [fadeStep_outRest (m := withPalette (s.menu.get o)) k]
      exact ⟨rfl, k, rfl⟩

end Sys2Proof.Proofs
end

section
/-! PROOFS. The frame start of CTR: slot selection, the reverse layout, release in NORMAL, the guide banks (R66, R72, R74, R99). -/

namespace Sys2Proof.Proofs

open Sys2Proof.Machine Sys2Proof.Safety

/-! ### The READY slot that is preferred (R55, R66) -/

/-- Among the first `n` slots nothing is READY, or the slot noted is READY and no READY one comes before it in the order `le` of
their ages. -/
def PickedAmong (le : Nat → Nat → Prop) (seen : Word) (slots : List Slot) (n : Nat) (best : Option (Nat × Nat)) : Prop :=
  match best with
  | none => ∀ j < n, (slotAt slots j).st ≠ .ready
  | some (i, age) => i < n ∧ (slotAt slots i).st = .ready ∧ age = slotAge seen (slotAt slots i) ∧
      ∀ j < n, (slotAt slots j).st = .ready → le age (slotAge seen (slotAt slots j))

section
variable {better : Nat → Nat → Bool} {le : Nat → Nat → Prop}
  (better_le : ∀ a b, better a b = true → le a b) (not_better : ∀ a b, better a b = false → le b a)
  (le_trans : ∀ a b c, le a b → le b c → le a c) (le_refl : ∀ a, le a a)
include better_le not_better le_trans le_refl

theorem pickedAmong_fold (seen : Word) (slots : List Slot) (n : Nat) : PickedAmong le seen slots n
    ((List.range n).foldl (fun best i =>
      let x := slotAt slots i
      if x.st = .ready then
        match best with
        | none => some (i, slotAge seen x)
        | some (j, age) => if better (slotAge seen x) age then some (i, slotAge seen x) else some (j, age)
      else best) none) := by
  induction n with
  | zero => exact fun j hj => absurd hj (Nat.not_lt_zero j)
  | succ n ih =>
    rw [List.range_succ, List.foldl_append, List.foldl_cons, List.foldl_nil]
    generalize (List.range n).foldl _ none = best at ih ⊢
    have below {P : Nat → Prop} (h : ∀ j < n, P j) (last : P n) : ∀ j < n + 1, P j := fun j hj =>
      (Nat.lt_succ_iff_lt_or_eq.1 hj).elim (h j) fun e => e ▸ last
    dsimp only
    split_ifs with ready
    · cases best with
      | none =>
        exact ⟨Nat.lt_succ_self n, ready, rfl, below (fun j hj k => absurd k (ih j hj)) fun _ => le_refl _⟩
      | some b =>
        obtain ⟨i, age⟩ := b
        obtain ⟨hi, st, rfl, best⟩ := ih
        dsimp only
        split_ifs with new
        · exact ⟨Nat.lt_succ_self n, ready, rfl,
            below (fun j hj k => le_trans _ _ _ (better_le _ _ new) (best j hj k)) fun _ => le_refl _⟩
        · exact ⟨Nat.lt_succ_of_lt hi, st, rfl, below best fun _ => not_better _ _ (Bool.eq_false_iff.2 new)⟩
    · cases best with
      | none => exact below ih ready
      | some b =>
        obtain ⟨i, age⟩ := b
        obtain ⟨hi, st, e, best⟩ := ih
        exact ⟨Nat.lt_succ_of_lt hi, st, e, below best fun k => absurd k ready⟩

theorem pickReady_some {seen : Word} {slots : List Slot} {i : Nat} (h : pickReady better seen slots = some i) :
    i < slots.length ∧ (slotAt slots i).st = .ready ∧ ∀ j < slots.length, (slotAt slots j).st = .ready →
      le (slotAge seen (slotAt slots i)) (slotAge seen (slotAt slots j)) := by
  have picked := pickedAmong_fold better_le not_better le_trans le_refl seen slots slots.length
  unfold pickReady at h
  generalize (List.range slots.length).foldl _ none = best at picked h
  cases best with
  | none => cases h
  | some b =>
    obtain ⟨j, age⟩ := b
    obtain ⟨hj, st, rfl, best⟩ := picked
    rw [← Option.some.inj h]
    exact ⟨hj, st, best⟩

theorem pickReady_none {seen : Word} {slots : List Slot} (h : pickReady better seen slots = none) :
    ∀ j < slots.length, (slotAt slots j).st ≠ .ready := by
  have picked := pickedAmong_fold better_le not_better le_trans le_refl seen slots slots.length
  unfold pickReady at h
  generalize (List.range slots.length).foldl _ none = best at picked h
  cases best with
  | none => exact picked
  | some b => cases h

end

/-- The newest READY slot is one of the least age. -/
theorem newestReady_some {s : State} {i : Nat} (h : newestReady s = some i) :
    i < s.ccu.slots.length ∧ (slotAt s.ccu.slots i).st = .ready ∧
      ∀ j < s.ccu.slots.length, (slotAt s.ccu.slots j).st = .ready →
        slotAge s.ccu.seen (slotAt s.ccu.slots i) ≤ slotAge s.ccu.seen (slotAt s.ccu.slots j) :=
  pickReady_some (le := fun a b => a ≤ b) (fun _ _ h => Nat.le_of_lt (of_decide_eq_true h))
    (fun _ _ h => Nat.not_lt.1 (of_decide_eq_false h)) (fun _ _ _ => Nat.le_trans) Nat.le_refl h

theorem newestReady_none {s : State} (h : newestReady s = none) :
    ∀ j < s.ccu.slots.length, (slotAt s.ccu.slots j).st ≠ .ready :=
  pickReady_none (le := fun a b => a ≤ b) (fun _ _ h => Nat.le_of_lt (of_decide_eq_true h))
    (fun _ _ h => Nat.not_lt.1 (of_decide_eq_false h)) (fun _ _ _ => Nat.le_trans) Nat.le_refl h

/-! ### The slots after the selection -/

theorem slotAt_setSlotState (slots : List Slot) (i : Nat) (st : SlotState) {j : Nat} (h : j < slots.length) :
    slotAt (setSlotState slots i st) j = if i = j then { slotAt slots j with st := st } else slotAt slots j := by
  unfold slotAt setSlotState
  rw [List.getD_eq_getElem?_getD, List.getElem?_modify, List.getD_eq_getElem?_getD, List.getElem?_eq_getElem h]
  split_ifs <;> rfl

theorem slotAt_map (f : Slot → Slot) (slots : List Slot) {j : Nat} (h : j < slots.length) :
    slotAt (slots.map f) j = f (slotAt slots j) := by
  unfold slotAt
  rw [List.getD_eq_getElem?_getD, List.getElem?_map, List.getD_eq_getElem?_getD, List.getElem?_eq_getElem h]
  rfl

/-- The one slot that is SHOWN is found. -/
theorem shownSlot_unique {slots : List Slot} {i : Nat} (h : i < slots.length) (hi : (slotAt slots i).st = .shown)
    (only : ∀ j < slots.length, j ≠ i → (slotAt slots j).st ≠ .shown) : shownSlot slots = some i := by
  have at_eq {j : Nat} (hj : j < slots.length) : slotAt slots j = slots[j] := by
    unfold slotAt
    rw [List.getD_eq_getElem _ _ hj]
  rw [shownSlot, List.findIdx?_eq_some_iff_getElem]
  refine ⟨h, by simpa [at_eq h] using hi, fun j hj => ?_⟩
  have hj' : j < slots.length := Nat.lt_trans hj h
  simpa [at_eq hj'] using only j hj' (Nat.ne_of_lt hj)

/-- The slots after the selection of slot `i`, which alone is SHOWN (R66). -/
theorem selected_slots {s : State} {i : Nat} (h : i < s.ccu.slots.length) : let slots := (selected i s).ccu.slots
    slots.length = s.ccu.slots.length ∧ (slotAt slots i).st = .shown ∧ (∀ j < s.ccu.slots.length, j ≠ i → (slotAt slots j).st =
      if (slotAt s.ccu.slots j).st = .shown ∨ (slotAt s.ccu.slots j).st = .ready then .free else (slotAt s.ccu.slots j).st) ∧
    shownSlot slots = some i := by
  intro slots
  have length : slots.length = s.ccu.slots.length := by
    show (List.modify _ _ _).length = _
    rw [List.length_modify, List.length_map]
  have at_eq {j : Nat} (hj : j < s.ccu.slots.length) : slotAt slots j =
      if i = j then { (if (slotAt s.ccu.slots j).st = .shown ∨ (slotAt s.ccu.slots j).st = .ready
        then { slotAt s.ccu.slots j with st := SlotState.free } else slotAt s.ccu.slots j) with st := .shown }
      else if (slotAt s.ccu.slots j).st = .shown ∨ (slotAt s.ccu.slots j).st = .ready
        then { slotAt s.ccu.slots j with st := SlotState.free } else slotAt s.ccu.slots j := by
    show slotAt (setSlotState (s.ccu.slots.map _) i .shown) j = _
    rw [slotAt_setSlotState _ _ _ (by rw [List.length_map]; exact hj), slotAt_map _ _ hj]
  have chosen : (slotAt slots i).st = .shown := by rw [at_eq h, if_pos rfl]
  have others : ∀ j < s.ccu.slots.length, j ≠ i → (slotAt slots j).st =
      if (slotAt s.ccu.slots j).st = .shown ∨ (slotAt s.ccu.slots j).st = .ready then .free else (slotAt s.ccu.slots j).st := by
    intro j hj ne
    rw [at_eq hj, if_neg (Ne.symm ne)]
    split_ifs <;> rfl
  refine ⟨length, chosen, others, shownSlot_unique (length.symm ▸ h) chosen fun j hj ne => ?_⟩
  rw [others j (length ▸ hj) ne]
  split_ifs with k
  · decide
  · exact fun e => k (.inl e)

theorem selectSlot_result {s : State} {i : Nat} (h : Selecting s) (hi : newestReady s = some i) :
    (selectSlot s).ccu = (selected i s).ccu ∧ (selectSlot s).rvc = { (selected i s).rvc with st := .live } := by
  rw [selectSlot_some h hi]
  split_ifs with live
  · refine ⟨rfl, ?_⟩
    show _ = ({ (selected i s).rvc with st := .live } : Rvc)
    rw [← live]
    rfl
  · obtain ⟨p, e, f, only⟩ := syncVoiceP_only s.zone ((selected i s).setRvc { (selected i s).rvc with st := .live }).markDirty
    rw [only]
    exact ⟨rfl, rfl⟩

/-! ### The layout (R72) -/

/-- The layout of a frame that begins in `s`, with the slot that it shows and its mode. -/
def layoutWith (tm : Timing) (x : RevSetup) (slot : Option Nat) (mode : DisplayMode) : Layout :=
  { strip := min x.strip (tm.ha / 2), x := x.x, y := x.y, scale := x.scale, fill := x.fill, unavailable := x.unavailable,
    slot := slot, mode := mode }

theorem latchLayout_reversing {s : State} {tm : Timing} (ht : s.scn.ctr.timing = some tm) (h : s.rvc.st ≠ .normal) :
    s.latchLayout = some (layoutWith tm s.rvc.setup (shownSlot s.ccu.slots) s.displayMode) := by
  rw [latchLayout_eq, ht, (reversing_iff s).2 h]
  rfl

theorem latchLayout_normal {s : State} (h : s.rvc.st = .normal) : s.latchLayout = none := by
  rw [latchLayout_eq, (reversing_eq_false_iff s).2 h]
  cases s.scn.ctr.timing <;> rfl

theorem displayMode_selecting {s : State} (h : Selecting s) : s.displayMode =
    if s.rvc.st = .blanked then .unavailable else if shownSlot s.ccu.slots ≠ none then .camera else .fill := by
  unfold State.displayMode
  rcases h with h | h | h <;> rw [h] <;> cases shownSlot s.ccu.slots <;> rfl

theorem displayMode_linger {s : State} (h : s.rvc.st = .linger) : s.displayMode =
    if s.rvc.heldBlanked then .unavailable else if shownSlot s.ccu.slots ≠ none then .camera else .fill := by
  unfold State.displayMode
  rw [h]
  cases s.rvc.heldBlanked <;> cases shownSlot s.ccu.slots <;> rfl

/-! ### The Guide Engine at the frame start -/

/-- The Guide Engine's work reads its own state, the strip of the reverse setup and the timing record of CTR. -/
theorem guideFrameStart_congr {s u : State} (gde : u.gde = s.gde) (setup : u.rvc.setup = s.rvc.setup) (scn : u.scn = s.scn) :
    (guideFrameStart u).gde = (guideFrameStart s).gde := by
  have swapped : (swapBanks u).gde = (swapBanks s).gde := by
    rw [swapBanks_eq, swapBanks_eq, gde]
    by_cases complete : s.gde.idle = .complete
    · rw [if_pos complete, if_pos complete]
    · rw [if_neg complete, if_neg complete]
      by_cases outdated : s.gde.outdated = true
      · rw [if_pos outdated, if_pos outdated]
      · rw [if_neg outdated, if_neg outdated, gde]
  have captured : (swapBanks u).captureInputs = (swapBanks s).captureInputs := by
    have rest : (swapBanks u).rvc.setup = (swapBanks s).rvc.setup ∧ (swapBanks u).scn = (swapBanks s).scn := by
      rw [swapBanks_eq, swapBanks_eq, gde]
      split_ifs <;> exact ⟨setup, scn⟩
    rw [captureInputs_eq, captureInputs_eq, swapped, rest.1, rest.2]
  rw [guideFrameStart_eq, guideFrameStart_eq, swapped]
  split_ifs
  · rw [startRecompute_eq, startRecompute_eq, swapped, captured]
  · exact swapped

theorem releasedInNormal_reversing {s : State} (h : s.rvc.st ≠ .normal) : releasedInNormal s = s := by
  rw [releasedInNormal, (reversing_iff s).2 h]
  rfl

theorem releasedInNormal_normal {s : State} (h : s.rvc.st = .normal) :
    (releasedInNormal s).rvc = { s.rvc with releaseAtStop := false } ∧
      (releasedInNormal s).ccu.slots = s.ccu.slots.map fun x => if x.st = .shown then { x with st := .free } else x := by
  have unchanged (none : (shownSlot s.ccu.slots).isSome = false) :
      s.ccu.slots = s.ccu.slots.map fun x => if x.st = .shown then { x with st := SlotState.free } else x := by
    have absent : ∀ x ∈ s.ccu.slots, x.st ≠ .shown := by
      simpa [shownSlot] using none
    exact (List.map_id' s.ccu.slots).symm.trans (List.map_congr_left fun x hx => (if_neg (absent x hx)).symm)
  unfold releasedInNormal
  rw [(reversing_eq_false_iff s).2 h, if_neg Bool.false_ne_true]
  unfold releaseShown
  split_ifs with shown
  · exact ⟨rfl, rfl⟩
  · exact ⟨rfl, unchanged (Bool.eq_false_iff.2 shown)⟩

/-- Neither the selection of a slot nor the release in NORMAL touches the Guide Engine or the reverse setup. -/
theorem selectSlot_guide (s : State) : (selectSlot s).gde = s.gde ∧ (selectSlot s).rvc.setup = s.rvc.setup := by
  by_cases h : Selecting s
  · cases hi : newestReady s with
    | none => rw [selectSlot_none hi]; exact ⟨rfl, rfl⟩
    | some i =>
      rw [selectSlot_some h hi]
      split_ifs
      · exact ⟨rfl, rfl⟩
      · obtain ⟨p, e, f, only⟩ := syncVoiceP_only s.zone ((selected i s).setRvc { (selected i s).rvc with st := .live }).markDirty
        rw [only]
        exact ⟨rfl, rfl⟩
  · rw [selectSlot_not h]
    exact ⟨rfl, rfl⟩

theorem releasedInNormal_guide (s : State) :
    (releasedInNormal s).gde = s.gde ∧ (releasedInNormal s).rvc.setup = s.rvc.setup := by
  unfold releasedInNormal releaseShown
  split_ifs <;> exact ⟨rfl, rfl⟩

/-- The reverse frame start, block by block. -/
theorem reverseFrameStart_blocks (s : State) : (reverseFrameStart s).gde = (guideFrameStart s).gde ∧
    (reverseFrameStart s).ccu = (releasedInNormal (selectSlot s)).ccu ∧
    (reverseFrameStart s).rvc = (releasedInNormal (selectSlot s)).rvc ∧
    (reverseFrameStart s).layout = (releasedInNormal (selectSlot s)).latchLayout := by
  obtain ⟨gde, setup⟩ := releasedInNormal_guide (selectSlot s)
  obtain ⟨gde', setup'⟩ := selectSlot_guide s
  have scn : (releasedInNormal (selectSlot s)).scn = s.scn := (releasedInNormal_scn _).trans (selectSlot_scn s)
  have guide := guideFrameStart_congr (gde.trans gde') (setup.trans setup') scn
  obtain ⟨g, d, only⟩ := guideFrameStart_only (releasedInNormal (selectSlot s))
  rw [reverseFrameStart_eq, latchLayout_eq, latchLayout_eq]
  refine ⟨guide, ?_⟩
  rw [only]
  exact ⟨rfl, rfl, rfl⟩

theorem frameStarted_blocks (o : Output) (tm : Timing) (s : State) : (frameStarted o tm s).gde = (blocksFrameStart o s).1.gde ∧
    (frameStarted o tm s).ccu = (blocksFrameStart o s).1.ccu ∧ (frameStarted o tm s).rvc = (blocksFrameStart o s).1.rvc ∧
    (frameStarted o tm s).layout = (blocksFrameStart o s).1.layout := ⟨rfl, rfl, rfl, rfl⟩

/-- What a CTR frame start leaves of the slots, the reverse state and the layout, and the Guide Engine's work. -/
theorem ctrStarted {s t : State} {tm : Timing}
    (h : Decided (raiseTogether [paceRaises .ctr (s.scan .ctr), (blocksFrameStart .ctr s).2] (frameStarted .ctr tm s)) t) :
    t.gde = (guideFrameStart s).gde ∧ t.ccu.slots = (releasedInNormal (selectSlot s)).ccu.slots ∧
      t.rvc = (releasedInNormal (selectSlot s)).rvc ∧ t.layout = (releasedInNormal (selectSlot s)).latchLayout := by
  have work : (blocksFrameStart .ctr s).1 = reverseFrameStart s := rfl
  obtain ⟨gde, ccu, rvc, layout⟩ := reverseFrameStart_blocks s
  obtain ⟨gde', ccu', rvc', layout'⟩ := frameStarted_blocks .ctr tm s
  rw [work] at gde' ccu' rvc' layout'
  rw [raiseTogether_eq] at h
  have slots : t.ccu.slots = (frameStarted .ctr tm s).ccu.slots := by rw [h.ccu]
  exact ⟨h.gde.trans (gde'.trans gde), by rw [slots, ccu', ccu], h.rvc.trans (rvc'.trans rvc), h.layout.trans (layout'.trans layout)⟩

/-- Settles O29: a slot is selected, or none, by the reverse state, before the layout is latched. -/
theorem centreFrameStart : Obligations.CentreFrameStart := by
  intro s tm live run ended timing r slots ready shows selecting held
  obtain ⟨t, answers, kept⟩ := frameStart_runs (o := .ctr) live ⟨run, ended, timing⟩
  obtain ⟨gde, slots', rvc', layout'⟩ := ctrStarted kept
  refine ⟨⟨t, answers, gde⟩, fun sel hready => ?_, fun sel hnone => ?_, fun linger => ?_, fun normal => ?_⟩
  · cases hi : newestReady s with
    | none =>
      obtain ⟨j, hj, st⟩ := hready
      exact absurd st (newestReady_none hi j hj)
    | some i =>
      obtain ⟨bound, st, newest⟩ := newestReady_some hi
      obtain ⟨ccu, rvc⟩ := selectSlot_result sel hi
      obtain ⟨length, chosen, others, shown⟩ := selected_slots bound
      have now : (selectSlot s).rvc.st = .live := by rw [rvc]
      have reversing : (selectSlot s).rvc.st ≠ .normal := by rw [now]; decide
      rw [releasedInNormal_reversing reversing] at slots' rvc' layout'
      rw [latchLayout_reversing (tm := tm) (by rw [selectSlot_scn]; exact timing) reversing,
        displayMode_selecting (.inr (.inl now)), now, ccu, shown, (selectSlot_guide s).2] at layout'
      rw [ccu] at slots'
      rw [rvc] at rvc'
      refine ⟨t, i, answers, ⟨bound, st⟩, fun j hj => newest j hj.1 hj.2, ?_⟩
      rw [slots', rvc']
      exact ⟨length, chosen, others, rfl, rfl, rfl, layout'⟩
  · have none : newestReady s = none := by
      rw [← Option.not_isSome_iff_eq_none, Option.isSome_iff_exists]
      rintro ⟨i, hi⟩
      exact hnone ⟨i, (newestReady_some hi).1, (newestReady_some hi).2.1⟩
    have reversing := Selecting.ne sel
    rw [selectSlot_none none, releasedInNormal_reversing reversing] at slots' rvc' layout'
    rw [latchLayout_reversing timing reversing, displayMode_selecting sel] at layout'
    exact ⟨t, answers, slots', rvc', layout'⟩
  · have reversing : s.rvc.st ≠ .normal := fun k => by rw [show s.rvc.st = .linger from linger] at k; cases k
    have waits : ¬Selecting s := by
      unfold Selecting
      rw [show s.rvc.st = .linger from linger]
      decide
    rw [selectSlot_not waits, releasedInNormal_reversing reversing] at slots' rvc' layout'
    rw [latchLayout_reversing timing reversing, displayMode_linger linger] at layout'
    exact ⟨t, answers, slots', rvc', layout'⟩
  · have waits : ¬Selecting s := fun sel => Selecting.ne sel normal
    have released := releasedInNormal_normal normal
    rw [selectSlot_not waits, released.1] at rvc'
    rw [selectSlot_not waits, released.2] at slots'
    have dropped : (releasedInNormal s).rvc.st = .normal := by rw [released.1]; exact normal
    rw [selectSlot_not waits, latchLayout_normal dropped] at layout'
    exact ⟨t, answers, layout', rvc', slots'⟩

end Sys2Proof.Proofs
end

section
/-! PROOFS. A rear frame start: the pending route, promotion, the latch, retirement and starvation, with every raise (R22, R32 to R35). -/

namespace Sys2Proof.Proofs

open Sys2Proof.Machine Sys2Proof.Safety

/-! ### Raises of two blocks of which one has a single raise (R167) -/

/-- A single raise of one block stands anywhere among those of the other. -/
theorem interleave_one (k : Nat) (x : Raise) (ys : List Raise) : ∃ n, interleave k [x] ys = ys.take n ++ [x] ++ ys.drop n := by
  cases ys with
  | nil => exact ⟨0, rfl⟩
  | cons y ys =>
    refine ⟨Config.raisePlace k % (ys.length + 2), ?_⟩
    rw [List.append_assoc]
    rfl

theorem interleave_atMostOne (k : Nat) {xs : List Raise} (h : xs.length ≤ 1) (ys : List Raise) :
    ∃ n, interleave k xs ys = ys.take n ++ xs ++ ys.drop n := by
  match xs, h with
  | [], _ => exact ⟨0, by simp [interleave]⟩
  | [x], _ => exact interleave_one k x ys

theorem paceRaises_length (o : Output) (x : Scan) : (paceRaises o x).length ≤ 1 := by
  unfold paceRaises
  split_ifs <;> simp

/-! ### Which flags raises set (R167) -/

/-- A kind other than EVENT_RING_FULL is pending after raises where it was, or is raised. -/
theorem pending_raiseAll_iff {j : EvKind} (h : j ≠ .eventRingFull) (rs : List Raise) (s : State) :
    (raiseAll rs s).seu.pending.getLsbD j.code = true ↔ s.seu.pending.getLsbD j.code = true ∨ ∃ r ∈ rs, r.kind = j := by
  induction rs generalizing s with
  | nil => simp [raiseAll]
  | cons r rs ih =>
    have once := ((raiseEffect.1 r.kind r.detail r.aux s _ rfl).1 j).1
    have cons : raiseAll (r :: rs) s = raiseAll rs (raise r.kind r.detail r.aux s) := rfl
    rw [cons, ih, once]
    simp only [h, and_false, or_false, List.mem_cons, exists_eq_or_imp, or_assoc, eq_comm (a := j)]

/-! ### The films after a rear frame start (R32) -/

/-- The films of a rear output without a route: nothing is latched. -/
def unrouted (q : Fqu) (o : Rear) : Fqu := q.setRear o { q.rear.get o with route := none, latched := none }

/-- The source after promotion and the starvation check. -/
def latchedFrom (held : Bool) (f : Film) : Film := { f.promoted.1 with armed := f.armed && !starves held f }

/-- The films of a rear output whose route `src` comes into use. -/
def routed (held : Bool) (q : Fqu) (o : Rear) (src : FilmSource) : Fqu :=
  (q.setFilm src (latchedFrom held (q.film src))).setRear o { q.rear.get o with
    route := some src, latched := (q.film src).promoted.1.current.map fun c => (src, c.1) }

/-- FILM_LATE for the entries that promotion skipped. -/
def lateRaises (f : Film) (src : FilmSource) : List Raise :=
  f.promoted.2.getLast?.toList.map fun e : FilmEntry => ⟨lateKind src, BitVec.ofNat 32 f.promoted.2.length, e.tag.setWidth 32⟩

/-- FILM_STARVED where the source runs dry. -/
def dryRaises (held : Bool) (f : Film) (o : Rear) (src : FilmSource) : List Raise :=
  if starves held f then [⟨starvedKind src, f.clock, rearCode o⟩] else []

section
variable {o : Rear} {s : State}

theorem changeFqu_fqu (q : Fqu) (s : State) : (s.changeFqu q).fqu = q := by
  unfold State.changeFqu
  rw [dirtyIf_eq]
  rfl

theorem filmFrameStart_none (h : (s.fqu.rear.get o).pending = none) : (filmFrameStart o s).1.fqu = unrouted s.fqu o ∧
    (filmFrameStart o s).2 = freedRaises s.fqu (unrouted s.fqu o) (rearCode o) (s.fqu.rear.get o).route none := by
  unfold filmFrameStart unrouted
  dsimp only
  rw [h]
  exact ⟨changeFqu_fqu _ _, rfl⟩

theorem filmFrameStart_some {src : FilmSource} (h : (s.fqu.rear.get o).pending = some src) :
    (filmFrameStart o s).1.fqu = routed s.filmHeld s.fqu o src ∧ (filmFrameStart o s).2 =
      lateRaises (s.fqu.film src) src ++ dryRaises s.filmHeld (s.fqu.film src) o src ++
        freedRaises s.fqu (routed s.filmHeld s.fqu o src) (rearCode o) (s.fqu.rear.get o).route (some src) := by
  unfold filmFrameStart routed
  dsimp only
  rw [h]
  exact ⟨changeFqu_fqu _ _, rfl⟩

end

/-- Without a due entry nothing is promoted. -/
theorem promoted_none {f : Film} (h : ∀ e ∈ f.queue, ¬ e.due ≤ f.clock) : f.promoted = (f, []) := by
  have stays (q : List FilmEntry) (hq : ∀ e ∈ q, ¬ e.due ≤ f.clock) : promote f.clock q = none := by
    induction q with
    | nil => rfl
    | cons e es ih =>
      unfold promote
      rw [ih fun x hx => hq x (List.mem_cons_of_mem _ hx)]
      exact if_neg (hq e List.mem_cons_self)
  unfold Film.promoted
  rw [stays f.queue h]

/-- The newest due entry becomes current, and the older ones leave the queue. -/
theorem promoted_some {f : Film} {older newer : List FilmEntry} {e : FilmEntry} (h : f.queue = older ++ e :: newer)
    (due : e.due ≤ f.clock) (later : ∀ y ∈ newer, ¬ y.due ≤ f.clock) :
    f.promoted = ({ f with queue := newer, current := some (e.buf, e.tag) }, older) := by
  have none : promote f.clock newer = none := by
    have := congrArg (fun p : Film × List FilmEntry => p.1.current) (promoted_none (f := { f with queue := newer, current := none }) later)
    unfold Film.promoted at this
    dsimp only at this
    cases k : promote f.clock newer with
    | none => rfl
    | some p =>
      rw [k] at this
      cases this
  have finds (xs : List FilmEntry) : promote f.clock (xs ++ e :: newer) = some (xs, e, newer) := by
    induction xs with
    | nil =>
      show promote f.clock (e :: newer) = _
      unfold promote
      rw [none]
      exact if_pos due
    | cons x xs ih =>
      show promote f.clock (x :: (xs ++ e :: newer)) = _
      unfold promote
      rw [ih]
  unfold Film.promoted
  rw [h, finds]

/-- The other rear output and the other source stay. -/
theorem unrouted_rest (q : Fqu) (o : Rear) : (∀ o', o' ≠ o → (unrouted q o).rear.get o' = q.rear.get o') ∧
    ((unrouted q o).rear.get o).route = none ∧ ((unrouted q o).rear.get o).pending = (q.rear.get o).pending ∧
    ((unrouted q o).rear.get o).latched = none ∧ ∀ src, (unrouted q o).film src = q.film src := by
  unfold unrouted
  refine ⟨fun o' h => PerRear.get_set_ne _ _ _ _ h, ?_⟩
  rw [Fqu.setRear, PerRear.get_set]
  exact ⟨rfl, rfl, rfl, fun src => Fqu.film_setRear q o _ src⟩

theorem routed_rest (held : Bool) (q : Fqu) (o : Rear) (src : FilmSource) :
    (∀ o', o' ≠ o → (routed held q o src).rear.get o' = q.rear.get o') ∧
    ((routed held q o src).rear.get o).route = some src ∧
    ((routed held q o src).rear.get o).pending = (q.rear.get o).pending ∧
    ((routed held q o src).rear.get o).latched = (q.film src).promoted.1.current.map (fun c => (src, c.1)) ∧
    (routed held q o src).film src = latchedFrom held (q.film src) ∧
    ∀ src', src' ≠ src → (routed held q o src).film src' = q.film src' := by
  unfold routed
  refine ⟨fun o' h => ?_, ?_⟩
  · rw [Fqu.setRear, PerRear.get_set_ne _ _ _ _ h, Fqu.rear_setFilm]
  · rw [Fqu.film_setRear, Fqu.film_setFilm, Fqu.setRear, PerRear.get_set]
    exact ⟨rfl, rfl, rfl, rfl, fun src' h => (Fqu.film_setRear ..).trans (Fqu.film_setFilm_ne _ _ _ _ h)⟩

/-! ### The step -/

/-- A rear frame start leaves the films of the Film Queue Unit's work, with its raises and the pacing event among them. -/
theorem rearStarted {o : Rear} {s t : State} {tm : Timing}
    (h : Decided (raiseTogether [paceRaises (rearOutput o) (s.scan (rearOutput o)), (blocksFrameStart (rearOutput o) s).2]
      (frameStarted (rearOutput o) tm s)) t) :
    t.fqu = (filmFrameStart o s).1.fqu ∧
    ∃ k, Raises ((filmFrameStart o s).2.take k ++ paceRaises (rearOutput o) (s.scan (rearOutput o)) ++ (filmFrameStart o s).2.drop k) s t := by
  have work : (blocksFrameStart (rearOutput o) s).1.fqu = (filmFrameStart o s).1.fqu ∧
      (blocksFrameStart (rearOutput o) s).2 = (filmFrameStart o s).2 := by
    have films : (s.modMenu o Menu.frameStart).fqu = s.fqu ∧ (s.modMenu o Menu.frameStart).filmHeld = s.filmHeld := ⟨rfl, rfl⟩
    unfold blocksFrameStart
    rw [outputRear_rearOutput]
    dsimp only
    cases hp : (s.fqu.rear.get o).pending with
    | none =>
      have moved := filmFrameStart_none (s := s.modMenu o Menu.frameStart) hp
      rw [films.1] at moved
      exact ⟨moved.1.trans (filmFrameStart_none hp).1.symm, moved.2.trans (filmFrameStart_none hp).2.symm⟩
    | some src =>
      have moved := filmFrameStart_some (s := s.modMenu o Menu.frameStart) hp
      rw [films.1, films.2] at moved
      exact ⟨moved.1.trans (filmFrameStart_some hp).1.symm, moved.2.trans (filmFrameStart_some hp).2.symm⟩
  rw [work.2] at h
  have fqu : t.fqu = (blocksFrameStart (rearOutput o) s).1.fqu := by
    rw [h.fqu, raiseTogether_eq]
    rfl
  refine ⟨fqu.trans work.1, ?_⟩
  obtain ⟨k, order⟩ := interleave_atMostOne s.free (paceRaises_length (rearOutput o) (s.scan (rearOutput o))) (filmFrameStart o s).2
  refine ⟨k, ?_⟩
  have free : (frameStarted (rearOutput o) tm s).free = s.free ∧ (frameStarted (rearOutput o) tm s).time = s.time ∧
      ∃ d, (frameStarted (rearOutput o) tm s).seu = { s.seu with dirty := d } := by
    unfold frameStarted beside
    rcases blocksFrameStart_cases (rearOutput o) s with ⟨ctr, _⟩ | ⟨r, q, d, _, only⟩
    · cases o <;> cases ctr
    · rw [only]
      exact ⟨rfl, rfl, _, rfl⟩
  obtain ⟨free, time, d, seu⟩ := free
  rw [← order]
  refine RaisesTo.raises ?_ h
  rw [raiseTogether_two, free]
  refine raisesTo_raiseAll (b := d) ?_ ?_ _
  · exact seu
  · exact time

theorem starves_iff (held : Bool) (f : Film) :
    starves held f = true ↔ f.playing = true ∧ held = false ∧ f.queue = [] ∧ f.armed = true := by
  simp [starves, and_assoc]

theorem rearCode_eq (o : Rear) : rearCode o = if o = .rl then 0 else 1 := by
  cases o <;> rfl

/-- FILM_FREE names the old source and then the new one where it is another. -/
theorem freedRaises_eq (q q' : Fqu) (aux : Word) (old new : Option FilmSource) : freedRaises q q' aux old new =
    old.elim [] (freedRaise q q' aux) ++ new.elim [] fun src => if old = some src then [] else freedRaise q q' aux src := by
  unfold freedRaises
  cases old with
  | none =>
    cases new with
    | none => rfl
    | some src => simp
  | some was =>
    cases new with
    | none => simp
    | some now =>
      by_cases same : was = now
      · simp [same]
      · simp [same]

theorem starvedKind_ne (src : FilmSource) : (∀ o, paceKind (rearOutput o) ≠ starvedKind src) ∧ lateKind src ≠ starvedKind src ∧
    (∀ z, freeKind z ≠ starvedKind src) ∧ starvedKind src ≠ .eventRingFull := by
  cases src <;> refine ⟨fun o => ?_, by decide, fun z => ?_, by decide⟩
  · cases o <;> decide
  · cases z <;> decide
  · cases o <;> decide
  · cases z <;> decide

/-- FILM_STARVED is pending after the raises of a rear frame start where it was, or where the source runs dry. -/
theorem starved_pending {o : Rear} {s t : State} {src : FilmSource} {k : Nat} {q : Fqu} {rs : List Raise} {y : Option FilmSource}
    {x : Scan} (reports : rs = lateRaises (s.fqu.film src) src ++ dryRaises s.filmHeld (s.fqu.film src) o src ++
      freedRaises s.fqu q (rearCode o) y (some src))
    (raises : Raises (rs.take k ++ paceRaises (rearOutput o) x ++ rs.drop k) s t) :
    t.seu.pending.getLsbD (starvedKind src).code = true ↔
      s.seu.pending.getLsbD (starvedKind src).code = true ∨ starves s.filmHeld (s.fqu.film src) = true := by
  have flags : t.seu.pending = (raiseAll (rs.take k ++ paceRaises (rearOutput o) x ++ rs.drop k) s).seu.pending := by rw [raises]
  have notFull := (starvedKind_ne src).2.2.2
  have pace : ∀ r ∈ paceRaises (rearOutput o) x, r.kind ≠ starvedKind src := by
    unfold paceRaises
    intro r hr
    rw [List.mem_singleton.1 (List.mem_ite_nil_right.1 hr).2]
    exact (starvedKind_ne src).1 o
  have late : ∀ r ∈ lateRaises (s.fqu.film src) src, r.kind ≠ starvedKind src := by
    unfold lateRaises
    intro r hr
    obtain ⟨e, _, rfl⟩ := List.mem_map.1 hr
    exact (starvedKind_ne src).2.1
  have freed : ∀ r ∈ freedRaises s.fqu q (rearCode o) y (some src), r.kind ≠ starvedKind src := by
    unfold freedRaises freedRaise
    intro r hr
    obtain ⟨z, _, hr⟩ := List.mem_flatMap.1 hr
    rw [List.mem_singleton.1 (List.mem_ite_nil_left.1 hr).2]
    exact (starvedKind_ne src).2.2.1 z
  have dry : (∃ r ∈ dryRaises s.filmHeld (s.fqu.film src) o src, r.kind = starvedKind src) ↔
      starves s.filmHeld (s.fqu.film src) = true := by
    unfold dryRaises
    split_ifs with h <;> simp [h]
  rw [flags, pending_raiseAll_iff notFull, ← dry]
  refine or_congr Iff.rfl ⟨fun ⟨r, hr, kind⟩ => ⟨r, ?_, kind⟩, fun ⟨r, hr, kind⟩ => ⟨r, ?_, kind⟩⟩
  · have among : r ∈ rs ∨ r ∈ paceRaises (rearOutput o) x := by
      rcases List.mem_append.1 hr with h | h
      · exact (List.mem_append.1 h).imp List.mem_of_mem_take id
      · exact .inl (List.mem_of_mem_drop h)
    have among := among.resolve_right fun h => pace r h kind
    rw [reports, List.mem_append, List.mem_append] at among
    exact (among.resolve_right fun h => freed r h kind).resolve_left fun h => late r h kind
  · have among : r ∈ rs.take k ++ rs.drop k := by
      rw [List.take_append_drop, reports]
      exact List.mem_append_left _ (List.mem_append_right _ hr)
    rw [List.append_assoc, List.mem_append, List.mem_append]
    exact (List.mem_append.1 among).imp id .inr

/-- Settles O18: the raises of each branch of the route and of promotion, and the starvation check. -/
theorem rearFrameStartFilm : Obligations.RearFrameStartFilm := by
  refine ⟨fun o s live run ended timing => ?_, fun o s src f live run ended timing hp hf => ?_⟩
  · obtain ⟨tm, ht⟩ := Option.ne_none_iff_exists'.1 timing
    obtain ⟨t, answers, kept⟩ := frameStart_runs live ⟨run, ended, ht⟩
    obtain ⟨fqu, k, raises⟩ := rearStarted kept
    intro x sc c aux pace dry free old new starts
    have code : rearCode o = aux := rearCode_eq o
    have freed (src : FilmSource) : freedRaise s.fqu t.fqu aux src = free t src := rfl
    refine ⟨fun hp => ?_, fun src hp f hf => ?_⟩
    · obtain ⟨films, silent⟩ := filmFrameStart_none (o := o) (s := s) hp
      obtain ⟨others, route, pending, latched, sources⟩ := unrouted_rest s.fqu o
      rw [films] at fqu
      rw [silent, code, ← fqu, freedRaises_eq] at raises
      rw [← fqu] at others route pending latched sources
      have same : [] ++ dry ++ old t ++ new t = (s.fqu.rear.get o).route.elim [] (freedRaise s.fqu t.fqu aux) ++ [] := by
        show [] ++ (match x.pending with | none => _ | some src => _) ++ (match x.route with | none => _ | some src => _) ++
          (match x.pending with | none => _ | some src => _) = (x.route.elim _ _) ++ []
        rw [hp]
        cases x.route <;> rfl
      refine ⟨t, k, answers, latched, ?_, others, route.trans hp.symm, pending, fun src _ => sources src⟩
      rw [same]
      exact raises
    · subst hf
      obtain ⟨films, reports⟩ := filmFrameStart_some (o := o) (s := s) hp
      obtain ⟨others, route, pending, latched, source, sources⟩ := routed_rest s.filmHeld s.fqu o src
      rw [films] at fqu
      rw [reports, code, ← fqu, freedRaises_eq] at raises
      rw [← fqu] at others route pending latched source sources
      have dried : dry = dryRaises s.filmHeld (s.fqu.film src) o src := by
        show (match x.pending with | none => _ | some src => _) = _
        rw [hp, dryRaises, code]
        exact if_congr (starves_iff _ _).symm rfl rfl
      have retired : old t = x.route.elim [] (freedRaise s.fqu t.fqu aux) := by
        show (match x.route with | none => _ | some src => _) = _
        cases x.route <;> rfl
      have entered : new t = if x.route = some src then [] else freedRaise s.fqu t.fqu aux src := by
        show (match x.pending with | none => _ | some src => _) = _
        rw [hp]
        rfl
      have goes {late : List Raise} {u : State → Prop} (hl : late = lateRaises (s.fqu.film src) src) (hu : u t) : starts late u := by
        refine ⟨t, k, answers, hu, ?_, others, route.trans hp.symm, pending,
          fun src' h => sources src' fun same => h (hp.trans (congrArg some same.symm))⟩
        show Raises (List.take k (late ++ dry ++ old t ++ new t) ++ pace ++ List.drop k (late ++ dry ++ old t ++ new t)) s t
        rw [hl, dried, retired, entered, List.append_assoc _ (Option.elim ..)]
        exact raises
      refine ⟨fun idle => goes ?_ ?_, fun older e newer split due later => goes ?_ ?_⟩
      · rw [lateRaises, promoted_none idle]
        rfl
      · rw [source, latched, latchedFrom, promoted_none idle]
        exact ⟨rfl, rfl, rfl, rfl⟩
      · rw [lateRaises, promoted_some split due later]
        cases older.getLast? <;> rfl
      · rw [source, latched, latchedFrom, promoted_some split due later]
        exact ⟨rfl, rfl, rfl, rfl⟩
  · obtain ⟨tm, ht⟩ := Option.ne_none_iff_exists'.1 timing
    obtain ⟨t, answers, kept⟩ := frameStart_runs live ⟨run, ended, ht⟩
    obtain ⟨fqu, k, raises⟩ := rearStarted kept
    subst hf
    obtain ⟨films, reports⟩ := filmFrameStart_some (o := o) (s := s) hp
    obtain ⟨_, _, _, _, source, _⟩ := routed_rest s.filmHeld s.fqu o src
    rw [films] at fqu
    rw [← fqu] at source
    have armed : (t.fqu.film src).armed = ((s.fqu.film src).armed && !starves s.filmHeld (s.fqu.film src)) := by rw [source]; rfl
    have flag := starved_pending reports raises
    refine ⟨t, answers, fun starved => ?_, fun fed => ?_⟩
    · have dry := (starves_iff s.filmHeld (s.fqu.film src)).2 starved
      exact ⟨by rw [armed, dry, Bool.not_true, Bool.and_false], flag.2 (.inr dry)⟩
    · have wet := Bool.eq_false_iff.2 fun k => fed ((starves_iff s.filmHeld (s.fqu.film src)).1 k)
      refine ⟨by rw [armed, wet, Bool.not_false, Bool.and_true], fun clear => Bool.eq_false_iff.2 fun set => ?_⟩
      rcases flag.1 set with before | dry
      · rw [clear] at before; cases before
      · rw [wet] at dry; cases dry

end Sys2Proof.Proofs
end

section
/-! PROOFS. OUTPUT_START and OUTPUT_STOP: the first frame start is that of FRAME_START (R3, R4). -/

namespace Sys2Proof.Proofs

open Sys2Proof.Machine Sys2Proof.Safety

theorem nil_interleave (k : Nat) (ys : List Raise) : interleave k [] ys = ys := by
  cases ys <;> rfl

/-! ### The two frame starts -/

/-- The scanout unit of an output that starts. -/
def starting (x : Scan) : Scan := { x with st := .running, frames := 0 }

/-- The scanout unit of a running output before its first frame start, which its counter of -1 makes frame 0. -/
def rewound (x : Scan) : Scan := { x with st := .running, frames := BitVec.allOnes 32, frameOpen := false }

theorem rewound_next (x : Scan) : (rewound x).frames + 1 = 0 := by
  show BitVec.allOnes 32 + 1 = 0
  decide

/-- The scanout unit of the output in its first frame. -/
def firstFrame (o : Output) (tm : Timing) (s : State) : Scan :=
  freshFrame (planesOf (blocksFrameStart o s).1 o (s.scan o).asSet tm) (starting (s.scan o))

section
variable {o : Output} {tm : Timing} {s : State}

/-- OUTPUT_START's frame start, on the other blocks' work. -/
theorem firstFrame_command (k : Byte) (r : Rec) (ht : (s.scan o).timing = some tm) :
    raised (frameStartOf o ((arriveAs k r s).setScan o (starting ((arriveAs k r s).scan o))).markDirty) =
      raiseAll (blocksFrameStart o s).2 (beside (s.scn.set o (firstFrame o tm s)) { s.cmu with cmd := ⟨k, r⟩ }
        (lineDropped o (fun _ => true) (endedMemory s.fma.memory)) true (blocksFrameStart o s).1) := by
  have begins : ((arriveAs k r s).setScan o (starting ((arriveAs k r s).scan o))).markDirty =
      beside (s.scn.set o (starting (s.scan o))) { s.cmu with cmd := ⟨k, r⟩ } (endedMemory s.fma.memory) true s := by
    rw [arriveAs_scan, arriveAs_eq]
    unfold beside
    rw [Bool.or_true]
    rfl
  have timing : ((s.scn.set o (starting (s.scan o))).get o).timing = some tm := by
    rw [PerOutput.get_set]
    exact ht
  rw [begins, frameStartOf_beside timing (set_ctr_timing rfl rfl), PerOutput.get_set, PerOutput.set_set]
  rfl

/-- FRAME_START of the output made RUNNING with a counter of -1, on the other blocks' work. -/
theorem firstFrame_frameStart (ht : (s.scan o).timing = some tm) :
    doFrameStart o (s.setScan o (rewound (s.scan o))) =
      raiseAll (blocksFrameStart o s).2 { beside (s.scn.set o (firstFrame o tm s)) s.cmu
        (lineDropped o (fun _ => true) s.fma.memory) false (blocksFrameStart o s).1 with
          free := (blocksFrameStart o s).1.free + (blocksFrameStart o s).2.length } := by
  have as : s.setScan o (rewound (s.scan o)) =
      beside (s.scn.set o (rewound (s.scan o))) s.cmu s.fma.memory false s :=
    (beside_id _ s).symm
  have own : (s.setScan o (rewound (s.scan o))).scan o =
      rewound (s.scan o) := PerOutput.get_set ..
  have starts : Starts o tm (s.setScan o (rewound (s.scan o))) := by
    refine ⟨?_, ?_, ?_⟩ <;> rw [own]
    · exact fun k => by cases k
    · rfl
    · exact ht
  have blocks := beside_blocksFrameStart (cmu := s.cmu) (mem := s.fma.memory) (d := false) o
    (set_ctr_timing (p := s.scn) (q := s.scn) (o := o) (x := rewound (s.scan o)) rfl rfl)
  rw [← as] at blocks
  have silent : paceRaises o (rewound (s.scan o)) = [] := by
    unfold paceRaises
    rw [rewound_next, show BitVec.getLsbD (0 : Word) _ = false from BitVec.getLsbD_zero, Bool.and_false]
    rfl
  have frame : nextFrame o tm (s.setScan o (rewound (s.scan o))) =
      firstFrame o tm s := by
    unfold nextFrame firstFrame
    rw [own, blocks, rewound_next]
    rfl
  have started : frameStarted o tm (s.setScan o (rewound (s.scan o))) =
      beside (s.scn.set o (firstFrame o tm s)) s.cmu (lineDropped o (fun _ => true) s.fma.memory) false (blocksFrameStart o s).1 := by
    unfold frameStarted
    rw [frame, blocks]
    unfold beside State.setScan
    rw [PerOutput.set_set, Bool.or_false, Bool.or_false]
  rewrite [doFrameStart_eq starts, own, silent, started, blocks, raiseTogether_two, nil_interleave, List.flatten_cons, List.flatten_cons, List.flatten_nil,
    List.nil_append, List.append_nil]
  rfl

end

/-- A step that leaves the memory busy leaves its effect as it is, but for the wait counts. -/
theorem decided_busy {u t : State} (h : Decided u t) (busy : u.fma.memory ≠ .idle) :
    t.scn = u.scn ∧ t.menu = u.menu ∧ t.layout = u.layout ∧ t.fqu = u.fqu ∧ t.ccu = u.ccu ∧ t.rvc = u.rvc ∧ t.gde = u.gde ∧
      t.chu = u.chu ∧ t.seu = u.seu ∧ t.cmu = u.cmu ∧ t.mem = u.mem ∧ t.time = u.time ∧ t.ppw = u.ppw ∧ t.links = u.links ∧
      t.pending = u.pending := by
  rw [h.quiet busy]
  exact ⟨rfl, rfl, rfl, rfl, rfl, rfl, rfl, rfl, rfl, rfl, rfl, rfl, rfl, rfl, rfl⟩

/-- Where a record arrives the memory is held. -/
theorem arrives_busy {s : State} (h : Arrives s) : s.fma.memory ≠ .idle := by
  intro idle
  have h' := h.2
  simp [State.recordInFlight, State.burst, idle] at h'

theorem endedMemory_eq_idle_iff (m : MemState) : endedMemory m = .idle ↔ m = .idle := by
  cases m <;> simp [endedMemory]

/-- Settles O8: OUTPUT_START by what FRAME_START makes, and OUTPUT_STOP by the state of the output. -/
theorem outputStartAndStop : Obligations.OutputStartAndStop := by
  refine ⟨fun r s ha => ⟨fun h => answers_refused rfl ha (doOutputStart_noOutput h), fun o ho => ⟨fun h => ?_, fun st ht => ?_⟩⟩,
    fun r s ha => ⟨fun h => answers_refused rfl ha (doOutputStop_noOutput h), fun o ho => ⟨fun h => ?_, fun h => ?_, fun h => ?_⟩⟩⟩
  · exact answers_refused rfl ha (doOutputStart_refused ho (by rw [arriveAs_scan]; exact h))
  · obtain ⟨tm, htm⟩ := Option.ne_none_iff_exists'.1 ht
    have command := doOutputStart_starts (s := arriveAs 2 r s) ho (by rw [arriveAs_scan]; exact st) (by rw [arriveAs_scan]; exact ht)
    have first := firstFrame_command 2 r htm
    unfold starting at first
    rw [first] at command
    obtain ⟨t, answers, kept⟩ := answers_of_arrival (i := .outputStart r) rfl ha command
    obtain ⟨f, answers', kept'⟩ := answers_of_live (i := .frameStart o) rfl
      (s := s.setScan o (rewound (s.scan o))) ha.1
      (firstFrame_frameStart htm)
    have free : (raiseAll (blocksFrameStart o s).2 (beside (s.scn.set o (firstFrame o tm s)) { s.cmu with cmd := ⟨2, r⟩ }
        (lineDropped o (fun _ => true) (endedMemory s.fma.memory)) true (blocksFrameStart o s).1)).fma.memory ≠ .idle := by
      rw [raiseAll_eq]
      exact fun k => arrives_busy ha ((endedMemory_eq_idle_iff _).1 ((lineDropped_eq_idle_iff ..).1 k))
    have free' : (raiseAll (blocksFrameStart o s).2 { beside (s.scn.set o (firstFrame o tm s)) s.cmu
        (lineDropped o (fun _ => true) s.fma.memory) false (blocksFrameStart o s).1 with
          free := (blocksFrameStart o s).1.free + (blocksFrameStart o s).2.length }).fma.memory ≠ .idle := by
      rw [raiseAll_eq]
      exact fun k => arrives_busy ha ((lineDropped_eq_idle_iff ..).1 k)
    obtain ⟨scn, menu, layout, fqu, ccu, rvc, gde, chu, seu, cmu, mem, time, ppw, links, pending⟩ := decided_busy kept free
    obtain ⟨scn', menu', layout', fqu', ccu', rvc', gde', chu', seu', _⟩ := decided_busy kept' free'
    obtain ⟨d, effect⟩ := raisesTo_raiseAll (s := (blocksFrameStart o s).1) (u := beside (s.scn.set o (firstFrame o tm s))
      { s.cmu with cmd := ⟨2, r⟩ } (lineDropped o (fun _ => true) (endedMemory s.fma.memory)) true (blocksFrameStart o s).1)
      rfl rfl (blocksFrameStart o s).2
    obtain ⟨d', effect'⟩ := raisesTo_raiseAll (s := (blocksFrameStart o s).1)
      (u := { beside (s.scn.set o (firstFrame o tm s)) s.cmu (lineDropped o (fun _ => true) s.fma.memory) false (blocksFrameStart o s).1 with
          free := (blocksFrameStart o s).1.free + (blocksFrameStart o s).2.length }) rfl rfl (blocksFrameStart o s).2
    have raises : t.seu = { f.seu with dirty := true } := by
      rw [seu, seu', finish_seu, effect, effect']
    rw [raiseAll_eq] at scn menu layout fqu ccu rvc gde chu cmu mem time ppw links pending
    rw [raiseAll_eq] at scn' menu' layout' fqu' ccu' rvc' gde' chu'
    have own : t.scan o = firstFrame o tm s := (congrArg (fun p : PerOutput Scan => p.get o) scn).trans (PerOutput.get_set ..)
    have others : ∀ o', o' ≠ o → t.scan o' = s.scan o' := fun o' h =>
      (congrArg (fun p : PerOutput Scan => p.get o') scn).trans (PerOutput.get_set_ne _ _ _ _ h)
    have blocks : (blocksFrameStart o s).1.mem = s.mem ∧ (blocksFrameStart o s).1.time = s.time ∧
        (blocksFrameStart o s).1.ppw = s.ppw ∧ (blocksFrameStart o s).1.links = s.links ∧
        (blocksFrameStart o s).1.pending = s.pending := by
      rcases blocksFrameStart_cases o s with ⟨_, _, _, _, _, _, _, _, _, only⟩ | ⟨_, _, _, _, only⟩ <;> rw [only] <;>
        exact ⟨rfl, rfl, rfl, rfl, rfl⟩
    obtain ⟨mem', time', ppw', links', pending'⟩ := blocks
    refine ⟨t, answers, ?_⟩
    rw [own]
    refine ⟨rfl, rfl, rfl, rfl, rfl, rfl, rfl, rfl, rfl, others, ?_, ?_, ?_, ?_, ?_, mem.trans mem', time.trans time',
      ppw.trans ppw', links.trans links', pending.trans pending', f, answers', scn.trans scn'.symm, menu.trans menu'.symm,
      layout.trans layout'.symm, fqu.trans fqu'.symm, ccu.trans ccu'.symm, rvc.trans rvc'.symm, gde.trans gde'.symm,
      chu.trans chu'.symm, raises⟩
    · rw [cmu]; rfl
    · rw [cmu]; rfl
    · rw [cmu]; rfl
    · rw [cmu]; rfl
    · rw [raises]
  · have goes := doOutputStop_running (s := arriveAs 3 r s) ho (by rw [arriveAs_scan]; exact h)
    rw [arriveAs_scan, ← arriveAs_setScan] at goes
    exact answers_of_arrival rfl ha goes
  · exact answers_of_arrival rfl ha (doOutputStop_stopping ho (by rw [arriveAs_scan]; exact h))
  · exact answers_refused rfl ha (doOutputStop_stopped ho (by rw [arriveAs_scan]; exact h))

end Sys2Proof.Proofs
end

section
/-! PROOFS. LINE_START and LINE_COMPLETE: the planes on a row, its pixels, and the lines in the buffers (R11, R13 to R15, R72, R73). -/

namespace Sys2Proof.Proofs

open Sys2Proof.Machine Sys2Proof.Safety

/-! ### A plane at a row (R13) -/

section
variable {p : Fetch} {row : Nat}

theorem atRow_uncovered (h : p.covers row = false) : p.atRow row = { p with shown := none, missed := false } := by
  simp [Fetch.atRow, h]

theorem atRow_later (h : p.covers row = true) (first : p.firstRow row = false) : p.atRow row = p := by
  simp [Fetch.atRow, h, first]

theorem atRow_complete {ws : List Word} {rest : List (Nat × List Word)} (h : p.covers row = true) (first : p.firstRow row = true)
    (lines : p.lines = (p.lineOf row, ws) :: rest) :
    p.atRow row = { p with shown := some ws, missed := false, lines := rest } := by
  simp [Fetch.atRow, h, first, lines]

theorem atRow_missed (h : p.covers row = true) (first : p.firstRow row = true) (lines : p.lines = [])
    (next : p.next ≤ p.lineOf row) :
    p.atRow row = { p with shown := p.latest, missed := true, next := p.lineOf row + 1, got := [] } := by
  simp [Fetch.atRow, h, first, lines, next]

end

/-! ### The pixels of a row (R15, R73) -/

/-- The colour of a pixel of the row. -/
def rowPixel (s : State) (o : Output) (row col : Nat) : Colour :=
  let menu := (outputRear o).map s.menu.get
  let fill := colourOfRgb (s.scan o).inUse.fill
  match if o = .ctr then s.layout else none with
  | none => (s.scan o).fetch.foldl (blendPlane menu col) fill
  | some l =>
    if row < l.strip then ((s.scan o).fetch.filter fun p => decide (p.plane ≠ .camera)).foldl (blendPlane menu col) fill
    else reversePixel l s.ccu.setup (s.scan o).fetch (rowSpans s.gde.shownBank row) col row

theorem composeRow_eq {s : State} {o : Output} {tm : Timing} (row : Nat) (h : (s.scan o).timing = some tm) :
    composeRow s o row = (List.range tm.wa).map fun col => (rowPixel s o row col).toRgb := by
  unfold composeRow rowPixel
  have width : ((s.scan o).timing.map Timing.wa).getD 0 = tm.wa := by rw [h]; rfl
  dsimp only
  rw [width]
  generalize (if o = .ctr then s.layout else none) = layout
  cases layout with
  | none => rfl
  | some l =>
    dsimp only
    split_ifs <;> rfl

/-- A 24-bit colour by its fields. -/
theorem colourOfRgb_eq (c : Rgb) : colourOfRgb c =
    ⟨field (c.setWidth 32) 16 8, field (c.setWidth 32) 8 8, field (c.setWidth 32) 0 8⟩ := by
  have width : (c.setWidth 32).toNat = c.toNat := by
    rw [BitVec.toNat_setWidth]
    exact Nat.mod_eq_of_lt (Nat.lt_of_lt_of_le c.isLt (by decide))
  have top : c.toNat < 16777216 := c.isLt
  unfold colourOfRgb field
  rw [width]
  congr 1
  · omega
  · omega

/-- The guide spans that cover a pixel are those of its row. -/
theorem blendGuides_rowSpans (bank : List Span) (row col : Nat) (below : Colour) : blendGuides (rowSpans bank row) col below =
    (bank.filter fun sp => decide (sp.row = (row : Int) ∧ sp.first ≤ (col : Int) ∧ (col : Int) ≤ sp.last)).getLast?.elim below
      fun sp => blend ⟨field sp.colour 16 8, field sp.colour 8 8, field sp.colour 0 8⟩ below (field sp.colour 24 8) := by
  have same : (rowSpans bank row).filter (fun sp => decide (sp.first ≤ (col : Int)) && decide ((col : Int) ≤ sp.last)) =
      bank.filter fun sp => decide (sp.row = (row : Int) ∧ sp.first ≤ (col : Int) ∧ (col : Int) ≤ sp.last) := by
    rw [rowSpans, List.filter_filter]
    refine List.filter_congr fun sp _ => ?_
    simp only [Bool.decide_and, Bool.and_comm (decide (sp.row = (row : Int)))]
  unfold blendGuides
  rw [same]
  cases (bank.filter _).getLast? <;> rfl

/-! ### The line start -/

/-- The scanout unit of an output after a line start but for the pixels. -/
def atLine (x : Scan) : Scan :=
  { x with
    fetch := x.fetch.map (Fetch.atRow x.row)
    row := x.row + 1
    underruns := x.underruns + (x.fetch.map (Fetch.atRow x.row)).countP Fetch.missed }

/-- The state in which a row is composed. -/
def lined (o : Output) (s : State) : State :=
  { s with
    scn := s.scn.set o (atLine (s.scan o))
    fma := { s.fma with
      memory := lineDropped o (abandoned (s.scan o).fetch ((s.scan o).fetch.map (Fetch.atRow (s.scan o).row))) s.fma.memory } }

theorem scan_lined (o : Output) (s : State) : (lined o s).scan o = atLine (s.scan o) := PerOutput.get_set ..

theorem doLineStart_eq {o : Output} {s : State} {tm : Timing} (frame : (s.scan o).frameOpen = true)
    (ht : (s.scan o).timing = some tm) (row : (s.scan o).row < tm.ha) : doLineStart o s =
      (lined o s).modScan o fun x => { x with pixels := composeRow (lined o s) o (s.scan o).row } := by
  unfold doLineStart
  have height : ((s.scan o).timing.map Timing.ha).getD 0 = tm.ha := by rw [ht]; rfl
  dsimp only
  rewrite [height, if_neg (by simp [frame, row]), dropLine_eq]
  rfl

/-- The step: the effect, and the scanout unit of the output in it. -/
theorem lineStart_answers {o : Output} {s : State} {tm : Timing} (live : s.phase ≠ .held) (frame : (s.scan o).frameOpen = true)
    (ht : (s.scan o).timing = some tm) (row : (s.scan o).row < tm.ha) : ∃ t, exec (.lineStart o) s = .next t ∧
      Decided ((lined o s).modScan o fun x => { x with pixels := composeRow (lined o s) o (s.scan o).row }) t ∧
      t.scan o = { atLine (s.scan o) with
        pixels := (List.range tm.wa).map fun col => (rowPixel (lined o s) o (s.scan o).row col).toRgb } := by
  obtain ⟨t, answers, kept⟩ := answers_of_live (i := .lineStart o) rfl live (doLineStart_eq frame ht row)
  have timing : ((lined o s).scan o).timing = some tm := by rw [scan_lined]; exact ht
  refine ⟨t, answers, kept, ?_⟩
  rw [composeRow_eq _ timing] at kept
  have own := congrArg (fun p : PerOutput Scan => p.get o) kept.scn
  exact own.trans ((PerOutput.get_set ..).trans (by rw [scan_lined]))

section
variable {o : Output} {s : State} {l : Layout} {row : Nat} (col : Nat)

/-- In the normal stack a pixel is the planes over the fill (R15). -/
theorem rowPixel_normal (row : Nat) (h : o ≠ .ctr ∨ s.layout = none) : rowPixel (lined o s) o row col =
    (atLine (s.scan o)).fetch.foldl (blendPlane ((outputRear o).map s.menu.get) col) (colourOfRgb (s.scan o).inUse.fill) := by
  have plain : (if o = .ctr then (lined o s).layout else none) = none := by
    rcases h with h | h
    · exact if_neg h
    · exact (congrArg (fun l => if o = .ctr then l else none) h).trans (ite_self _)
  unfold rowPixel
  rw [plain, scan_lined]
  rfl

theorem layout_lined (ctr : o = .ctr) (hl : s.layout = some l) : (if o = .ctr then (lined o s).layout else none) = some l :=
  (if_pos ctr).trans hl

/-- Above the strip of a reverse layout the camera plane is left out (R73). -/
theorem rowPixel_strip (ctr : o = .ctr) (hl : s.layout = some l) (strip : row < l.strip) : rowPixel (lined o s) o row col =
    ((atLine (s.scan o)).fetch.filter fun p => decide (p.plane ≠ .camera)).foldl (blendPlane ((outputRear o).map s.menu.get) col)
      (colourOfRgb (s.scan o).inUse.fill) := by
  unfold rowPixel
  rw [layout_lined ctr hl, scan_lined]
  exact if_pos strip

/-- Below the strip the display mode decides (R73). -/
theorem rowPixel_reverse (ctr : o = .ctr) (hl : s.layout = some l) (strip : l.strip ≤ row) : rowPixel (lined o s) o row col =
    reversePixel l s.ccu.setup (atLine (s.scan o)).fetch (rowSpans s.gde.shownBank row) col row := by
  unfold rowPixel
  rw [layout_lined ctr hl, scan_lined]
  exact if_neg (Nat.not_lt.2 strip)

end

/-! ### A line's last burst (R11) -/

theorem lastLineOver_eq {s : State} {o : Output} {id : PlaneId} {num : Nat} {ws : List Word} {dropped : Bool}
    (h : s.burst = some (.line o id num ws true dropped)) : lastLineOver s =
      if dropped then markEnded s
      else markEnded (s.setScan o { s.scan o with fetch := (s.scan o).fetch.map fun p =>
         if p.plane = id ∧ p.next = num then
           { p with next := num + 1, got := [], lines := p.lines ++ [(num, p.got ++ ws)], latest := some (p.got ++ ws) }
         else p }) := by
  have arrives (p : Fetch) : (if p.plane = id then p.arrive num ws true else p) =
      if p.plane = id ∧ p.next = num then
        { p with next := num + 1, got := [], lines := p.lines ++ [(num, p.got ++ ws)], latest := some (p.got ++ ws) }
      else p := by
    by_cases plane : p.plane = id <;> by_cases next : p.next = num <;> simp [plane, next, Fetch.arrive]
  have last : lastLineOver s = lineOver s := by simp only [lastLineOver, h]
  rw [last, lineOver, h]
  cases dropped with
  | true => rfl
  | false =>
    simp only [Bool.false_eq_true, if_false]
    rw [markEnded_state, markEnded_state]
    simp only [arrives]
    rfl

/-- Settles O12: the planes on the row, the colour of each of its pixels, and the line completed. -/
theorem lineStartAndComplete : Obligations.LineStartAndComplete := by
  refine ⟨⟨fun o s tm live frame ht row => ?_, fun p row covers first => ⟨fun ws rest lines => atRow_complete covers first lines,
    fun lines next => atRow_missed covers first lines next⟩, fun p row covers first => atRow_later covers first,
    fun p row covers => ?_⟩, fun o s tm row live frame ht hr below => ?_, fun s o id num ws dropped live inside burst =>
      answers_of_liveBurst rfl live inside (lastLineOver_eq burst)⟩
  · obtain ⟨t, answers, kept, own⟩ := lineStart_answers live frame ht row
    have others (o' : Output) (h : o' ≠ o) : t.scan o' = s.scan o' :=
      (congrArg (fun p : PerOutput Scan => p.get o') kept.scn).trans
        ((PerOutput.get_set_ne _ _ _ _ h).trans (PerOutput.get_set_ne _ _ _ _ h))
    refine ⟨t, answers, ?_⟩
    rw [own]
    exact ⟨rfl, rfl, rfl, by rw [List.length_map, List.length_range], rfl, rfl, rfl, rfl, others, kept.time, kept.mem, kept.ppw,
      kept.cmu, kept.menu, kept.links, kept.fqu, kept.rvc, kept.gde, kept.chu, kept.layout, kept.pending⟩
  · rw [atRow_uncovered covers]
    exact ⟨rfl, rfl⟩
  · subst hr
    obtain ⟨t, answers, kept, own⟩ := lineStart_answers live frame ht below
    refine ⟨t, answers, ?_⟩
    rw [own]
    intro planes rgb fill menu stack guides shows
    have shown {pixel : Nat → Colour} (h : ∀ col, rowPixel (lined o s) o (s.scan o).row col = pixel col) : shows pixel := by
      intro col hcol
      show ((List.range tm.wa).map _)[col]? = _
      rw [List.getElem?_map, List.getElem?_range hcol, Option.map_some, h]
      rfl
    have colour (c : Rgb) : colourOfRgb c = rgb c := colourOfRgb_eq c
    have guided (col : Nat) (d : Colour) : blendGuides (rowSpans s.gde.shownBank (s.scan o).row) col d = guides col d := by
      rw [blendGuides_rowSpans]
      simp only [guides, Gde.shownBank]
      generalize (List.filter _ _).getLast? = latest
      cases latest <;> rfl
    refine ⟨fun h => shown fun col => ?_, fun l ctr hl => ⟨fun strip => shown fun col => ?_, fun strip =>
      ⟨fun mode => shown fun col => ?_, fun mode => shown fun col => ?_, fun mode setup => shown fun col => ?_,
        fun mode c setup => shown fun col => ?_⟩⟩⟩
    · rw [rowPixel_normal _ _ h, colour]
      rfl
    · rw [rowPixel_strip _ ctr hl strip, colour]
      subst ctr
      rfl
    · rw [rowPixel_reverse _ ctr hl strip, reversePixel, mode, colour]
      subst ctr
      exact guided col (stack (planes.filter fun p => decide (p.plane = .camera)) col (rgb l.fill))
    · rw [rowPixel_reverse _ ctr hl strip, reversePixel, mode, colour]
      exact guided col _
    · rw [rowPixel_reverse _ ctr hl strip, reversePixel, mode, setup, colour]
      rfl
    · rw [rowPixel_reverse _ ctr hl strip, reversePixel, mode, setup, colour, colour]
      refine if_congr ?_ rfl rfl
      simp only [Option.map_some, Option.getD_some, Layout.inRect, Bool.and_eq_true, decide_eq_true_eq, and_assoc]

end Sys2Proof.Proofs
end

section
/-! PROOFS. FRAME_END: the underrun report, and the stop of a STOPPING output (R4, R14, R37, R65, R74). -/

namespace Sys2Proof.Proofs

open Sys2Proof.Machine Sys2Proof.Safety

/-! ### The stop of an output -/

/-- A scanout unit that has stopped: its line buffers are empty (R4). -/
def stopScan (x : Scan) : Scan := { x with st := .stopped, frameOpen := false, row := 0, fetch := [], pixels := [] }

theorem scanStop_eq (o : Output) (s : State) : scanStop o s = { s with
    scn := s.scn.set o (stopScan (s.scan o)), fma := { s.fma with memory := lineDropped o (fun _ => true) s.fma.memory },
    seu := { s.seu with dirty := true } } := by
  unfold scanStop
  rw [dropLine_eq]
  rfl

/-- The films of a rear output that stops: its pending route comes into use, and nothing is latched (R37). -/
def filmStopped (q : Fqu) (o : Rear) : Fqu := q.setRear o { q.rear.get o with route := (q.rear.get o).pending, latched := none }

theorem filmStop_eq (o : Rear) (s : State) : filmStop o s = ((s.setFqu (filmStopped s.fqu o)).markDirty,
    freedRaises s.fqu (filmStopped s.fqu o) (rearCode o) ((s.fqu.rear.get o).latched.map Prod.fst) (s.fqu.rear.get o).pending) := rfl

/-- The stop of CTR releases the SHOWN slot where the state is NORMAL and the entry to it found CTR STOPPING (R72). -/
theorem reverseStop_eq (s : State) : reverseStop s =
    ({ (if s.rvc.releaseAtStop = true ∧ s.rvc.st = .normal then releasedInNormal s else s) with layout := none },
      if s.rvc.st = .normal then [] else [⟨.revNoOutput, 2, 0⟩]) := by
  unfold reverseStop releasedInNormal
  by_cases normal : s.rvc.st = .normal
  · rw [(reversing_eq_false_iff s).2 normal]
    simp [normal]
  · rw [(reversing_iff s).2 normal]
    simp [normal]

/-- The blocks that no stop of an output touches. -/
structure StopLeaves (o : Output) (s u : State) : Prop where
  scn : u.scn = s.scn.set o (stopScan (s.scan o))
  dirty : ∃ d, u.seu = { s.seu with dirty := d }
  time : u.time = s.time
  mem : u.mem = s.mem
  ppw : u.ppw = s.ppw
  cmu : u.cmu = s.cmu
  links : u.links = s.links
  gde : u.gde = s.gde
  chu : u.chu = s.chu
  menu : u.menu = s.menu
  frame : u.ccu.frame = s.ccu.frame
  pending : u.pending = s.pending

theorem scanStop_leaves (o : Output) (s : State) : StopLeaves o s (scanStop o s) := by
  rw [scanStop_eq]
  exact ⟨rfl, ⟨_, rfl⟩, rfl, rfl, rfl, rfl, rfl, rfl, rfl, rfl, rfl, rfl⟩

theorem stopOutput_rear {o : Output} {r : Rear} (h : outputRear o = some r) (s : State) : StopLeaves o s (stopOutput o s).1 ∧
    (stopOutput o s).1.fqu = filmStopped s.fqu r ∧
    (stopOutput o s).2 = freedRaises s.fqu (filmStopped s.fqu r) (rearCode r) ((s.fqu.rear.get r).latched.map Prod.fst)
      (s.fqu.rear.get r).pending ∧
    (stopOutput o s).1.layout = s.layout ∧ (stopOutput o s).1.rvc = s.rvc ∧ (stopOutput o s).1.ccu = s.ccu := by
  have stop : stopOutput o s = (scanStop o (s.setFqu (filmStopped s.fqu r)).markDirty, (filmStop r s).2) := by
    unfold stopOutput
    rw [h]
    rfl
  rw [stop, scanStop_eq]
  exact ⟨⟨rfl, ⟨_, rfl⟩, rfl, rfl, rfl, rfl, rfl, rfl, rfl, rfl, rfl, rfl⟩, rfl, rfl, rfl, rfl, rfl⟩

/-- The slots where the SHOWN one is released (R72). -/
def withoutShown (slots : List Slot) : List Slot := slots.map fun x => if x.st = .shown then { x with st := .free } else x

/-- The release in NORMAL touches the slots and the reverse state alone. -/
theorem releasedInNormal_slots (s : State) : ∃ slots rvc d, releasedInNormal s =
    { s with ccu := { s.ccu with slots := slots }, rvc := rvc, seu := { s.seu with dirty := d } } := by
  unfold releasedInNormal releaseShown
  split_ifs <;> exact ⟨_, _, _, rfl⟩

theorem stopOutput_ctr (s : State) : StopLeaves .ctr s (stopOutput .ctr s).1 ∧ (stopOutput .ctr s).1.fqu = s.fqu ∧
    (stopOutput .ctr s).2 = (if s.rvc.st = .normal then [] else [⟨.revNoOutput, 2, 0⟩]) ∧
    (stopOutput .ctr s).1.layout = none ∧
    if s.rvc.releaseAtStop = true ∧ s.rvc.st = .normal then
      (stopOutput .ctr s).1.rvc = { s.rvc with releaseAtStop := false } ∧
        (stopOutput .ctr s).1.ccu.slots = withoutShown s.ccu.slots
    else (stopOutput .ctr s).1.rvc = s.rvc ∧ (stopOutput .ctr s).1.ccu.slots = s.ccu.slots := by
  have stop : stopOutput .ctr s = reverseStop (scanStop .ctr s) := rfl
  have same : (scanStop .ctr s).rvc = s.rvc ∧ (scanStop .ctr s).ccu = s.ccu := by
    rw [scanStop_eq]
    exact ⟨rfl, rfl⟩
  obtain ⟨rvc, ccu⟩ := same
  have leaves := scanStop_leaves .ctr s
  rw [stop, reverseStop_eq, rvc]
  by_cases release : s.rvc.releaseAtStop = true ∧ s.rvc.st = .normal
  · have released := releasedInNormal_normal (s := scanStop .ctr s) (by rw [rvc]; exact release.2)
    rw [rvc, ccu] at released
    rw [if_pos release, if_pos release]
    obtain ⟨slots, rvc', d, only⟩ := releasedInNormal_slots (scanStop .ctr s)
    refine ⟨?_, ?_, rfl, rfl, released⟩
    · rw [only, scanStop_eq]
      exact ⟨rfl, ⟨_, rfl⟩, rfl, rfl, rfl, rfl, rfl, rfl, rfl, rfl, rfl, rfl⟩
    · rw [only, scanStop_eq]
  · rw [if_neg release, if_neg release]
    refine ⟨?_, ?_, rfl, rfl, rvc, congrArg Ccu.slots ccu⟩
    · rw [scanStop_eq]
      exact ⟨rfl, ⟨_, rfl⟩, rfl, rfl, rfl, rfl, rfl, rfl, rfl, rfl, rfl, rfl⟩
    · rw [scanStop_eq]

theorem stopOutput_leaves (o : Output) (s : State) : StopLeaves o s (stopOutput o s).1 := by
  cases o with
  | ctr => exact (stopOutput_ctr s).1
  | rl => exact (stopOutput_rear (r := .rl) rfl s).1
  | rr => exact (stopOutput_rear (r := .rr) rfl s).1

/-! ### The raises of two blocks at a frame end (R167) -/

/-- The report of one block stands anywhere among the raises of the other. -/
theorem raises_together {xs ys : List Raise} {s u t : State} (one : xs.length ≤ 1) (dirty : ∃ d, u.seu = { s.seu with dirty := d })
    (time : u.time = s.time) (h : Decided (raiseTogether [xs, ys] u) t) : ∃ k, Raises (ys.take k ++ xs ++ ys.drop k) s t := by
  obtain ⟨d, seu⟩ := dirty
  obtain ⟨k, order⟩ := interleave_atMostOne u.free one ys
  refine ⟨k, ?_⟩
  rw [← order]
  refine RaisesTo.raises ?_ h
  rw [raiseTogether_two]
  refine raisesTo_raiseAll (b := d) ?_ ?_ _
  · exact seu
  · exact time

/-- Of two single raises either may come first. -/
theorem take_append_drop_one {xs ys : List Raise} (one : ys.length ≤ 1) (k : Nat) :
    ys.take k ++ xs ++ ys.drop k = xs ++ ys ∨ ys.take k ++ xs ++ ys.drop k = ys ++ xs := by
  match ys, one, k with
  | [], _, _ => exact .inl (by simp)
  | [y], _, 0 => exact .inl rfl
  | [y], _, k + 1 => exact .inr (by simp)

theorem underrunReport_length (o : Output) (s : State) : (underrunReport o s).length ≤ 1 := by
  unfold underrunReport
  dsimp only
  split_ifs <;> simp

/-! ### FRAME_END -/

section
variable {o : Output} {s : State} {tm : Timing}

theorem doFrameEnd_running (frame : (s.scan o).frameOpen = true) (ht : (s.scan o).timing = some tm) (row : (s.scan o).row = tm.ha)
    (run : (s.scan o).st = .running) : doFrameEnd o s =
      raiseAll (underrunReport o s) (s.setScan o { s.scan o with frameOpen := false, pixels := [] }) := by
  have height : ((s.scan o).timing.map Timing.ha).getD 0 = tm.ha := by rw [ht]; rfl
  have goes : ¬(s.scan o).st = .stopping := fun k => by rw [run] at k; cases k
  unfold doFrameEnd
  dsimp only
  rewrite [height, if_neg (by simp [frame, row]), if_neg goes]
  rfl

theorem doFrameEnd_stopping (frame : (s.scan o).frameOpen = true) (ht : (s.scan o).timing = some tm)
    (row : (s.scan o).row = tm.ha) (stop : (s.scan o).st = .stopping) : doFrameEnd o s =
      raiseTogether [underrunReport o s, (stopOutput o s).2] (stopOutput o s).1 := by
  have height : ((s.scan o).timing.map Timing.ha).getD 0 = tm.ha := by rw [ht]; rfl
  unfold doFrameEnd
  dsimp only
  rw [height, if_neg (by simp [frame, row]), if_pos stop]

end

/-- Settles O13: the report and a frame that goes on; the stop by the kind of output. -/
theorem frameEnd : Obligations.FrameEnd := by
  intro o s tm live frame ht row n under reported
  refine ⟨fun run => ?_, fun stop => ?_⟩
  · refine answers_of_live rfl live ((doFrameEnd_running frame ht row run).trans ?_)
    show _ = State.setScan (if n = 0 then s else raise _ _ _ s) o _
    unfold underrunReport
    dsimp only
    split_ifs <;> rfl
  · obtain ⟨t, answers, kept⟩ := answers_of_live (i := .frameEnd o) rfl live (doFrameEnd_stopping frame ht row stop)
    have leaves := stopOutput_leaves o s
    have own : t.scan o = stopScan (s.scan o) := by
      unfold State.scan
      rw [kept.scn, raiseTogether_eq, leaves.scn]
      exact PerOutput.get_set ..
    have others (o' : Output) (h : o' ≠ o) : t.scan o' = s.scan o' := by
      unfold State.scan
      rw [kept.scn, raiseTogether_eq, leaves.scn]
      exact PerOutput.get_set_ne _ _ _ _ h
    obtain ⟨k, raises⟩ := raises_together (underrunReport_length o s) leaves.dirty leaves.time kept
    have report : under = underrunReport o s := rfl
    rw [raiseTogether_eq] at kept
    have slots : t.ccu.slots = (stopOutput o s).1.ccu.slots := by rw [kept.ccu]
    have inFrame : t.ccu.frame = s.ccu.frame := by rw [kept.ccu]; exact leaves.frame
    refine ⟨t, answers, ?_⟩
    rw [own]
    refine ⟨rfl, rfl, rfl, ht, rfl, rfl, rfl, kept.menu.trans leaves.menu, fun r hr => ?_, fun rear => ?_, fun ctr => ?_, others,
      kept.time.trans leaves.time, kept.mem.trans leaves.mem, kept.ppw.trans leaves.ppw, kept.cmu.trans leaves.cmu,
      kept.links.trans leaves.links, kept.gde.trans leaves.gde, kept.chu.trans leaves.chu, inFrame,
      kept.pending.trans leaves.pending⟩
    · obtain ⟨_, films, freed, _⟩ := stopOutput_rear hr s
      intro x free old new
      have fqu : t.fqu = filmStopped s.fqu r := kept.fqu.trans films
      rw [freed, ← fqu, freedRaises_eq, rearCode_eq] at raises
      have order : old ++ new = (x.latched.map Prod.fst).elim [] (freedRaise s.fqu t.fqu (if r = .rl then 0 else 1)) ++
          x.pending.elim [] fun src => if x.latched.map Prod.fst = some src then [] else
            freedRaise s.fqu t.fqu (if r = .rl then 0 else 1) src := by
        show (match x.latched with | some (src, _) => _ | none => _) ++ (match x.pending with | some src => _ | none => _) = _
        cases x.latched <;> cases x.pending <;> rfl
      refine ⟨fqu, k, ?_⟩
      rw [order]
      exact raises
    · obtain ⟨r, hr⟩ : ∃ r, outputRear o = some r := by
        cases o with
        | ctr => exact absurd rfl rear
        | rl => exact ⟨.rl, rfl⟩
        | rr => exact ⟨.rr, rfl⟩
      obtain ⟨_, _, _, layout, rvc, ccu⟩ := stopOutput_rear hr s
      exact ⟨kept.layout.trans layout, kept.rvc.trans rvc, slots.trans (congrArg Ccu.slots ccu)⟩
    · subst ctr
      obtain ⟨_, films, gone, layout, release⟩ := stopOutput_ctr s
      have rvc : t.rvc = (stopOutput .ctr s).1.rvc := kept.rvc
      rw [← rvc, ← slots] at release
      refine ⟨kept.layout.trans layout, kept.fqu.trans films, release, ?_⟩
      intro out
      have reverse : (stopOutput .ctr s).2 = out := gone
      have single : out.length ≤ 1 := by
        show (if s.rvc.st = .normal then [] else _ : List Raise).length ≤ 1
        split_ifs <;> simp
      rw [reverse] at raises
      rcases take_append_drop_one (xs := underrunReport .ctr s) single k with order | order <;> rw [order] at raises
      · exact .inl raises
      · exact .inr raises

end Sys2Proof.Proofs
end

section
/-! PROOFS. HS_EDGE and CAMERA_SAMPLE: lines, the open frame's counts and marks, the capture buffer (R40, R47 to R50, R52, R53). -/

namespace Sys2Proof.Proofs

open Sys2Proof.Machine Sys2Proof.Safety

/-! ### Fault marks (R47) -/

theorem addMark_eq (m : Mark) (f : OpenFrame) :
    f.addMark m = if f.slot.isSome ∧ f.mark = none then { f with mark := some m } else f := by
  unfold OpenFrame.addMark
  exact if_congr (and_congr_right' Option.isNone_iff_eq_none) rfl rfl

theorem addMark_noSlot (m : Mark) {f : OpenFrame} (h : f.slot = none) : f.addMark m = f := by
  rw [addMark_eq, h]
  rfl

/-- The first mark of a frame stays. -/
theorem addMark_first (m : Mark) {f : OpenFrame} (h : f.slot ≠ none) : f.addMark m = { f with mark := some (f.mark.getD m) } := by
  rw [addMark_eq]
  cases hm : f.mark with
  | none => exact if_pos ⟨Option.isSome_iff_ne_none.2 h, rfl⟩
  | some x =>
    rw [if_neg (by simp)]
    exact congrArg (fun y => ({ f with mark := y } : OpenFrame)) hm

theorem markFrame_eq (m : Mark) (s : State) : markFrame m s = s.setCcu { s.ccu with
    frame := s.ccu.frame.map fun f => if f.slot.isSome ∧ f.mark = none then { f with mark := some m } else f } := by
  unfold markFrame
  rw [funext (addMark_eq m)]

/-! ### The end of a line (R48, R49) -/

theorem cropLine_iff (c : CamSetup) (n : Nat) : c.cropLine n = true ↔ c.lc ≤ n ∧ n < c.lc + c.hc := by
  simp [CamSetup.cropLine]

theorem refLine_iff (c : CamSetup) (n : Nat) : c.refLine n = true ↔ c.lr ≤ n ∧ n < c.lr + c.nLines := by
  simp [CamSetup.refLine]

/-- A reference line that ends makes the region incomplete, or is counted (R49). -/
def refEnd (c : CamSetup) (n count : Nat) (f : OpenFrame) : OpenFrame :=
  if c.lr ≤ n ∧ n < c.lr + c.nLines then
    if count < c.pc + c.nSamples then { f with refBad := true } else { f with refLines := f.refLines + 1 }
  else f

/-- A crop line that ends marks the frame, or is counted (R48). -/
def cropEnd (c : CamSetup) (n count : Nat) (f : OpenFrame) : OpenFrame :=
  if c.lc ≤ n ∧ n < c.lc + c.hc then
    if count < c.pc + c.wc then f.addMark .short else { f with cropLines := f.cropLines + 1 }
  else f

theorem lineEnd_eq (c : CamSetup) (n count : Nat) (f : OpenFrame) : f.lineEnd c n count = cropEnd c n count (refEnd c n count f) := by
  unfold OpenFrame.lineEnd refEnd cropEnd
  simp only [cropLine_iff, refLine_iff]

theorem refEnd_only (c : CamSetup) (n count : Nat) (f : OpenFrame) :
    refEnd c n count f = { f with refBad := (refEnd c n count f).refBad, refLines := (refEnd c n count f).refLines } := by
  unfold refEnd
  split_ifs <;> rfl

theorem refEnd_counts (c : CamSetup) (n count : Nat) (f : OpenFrame) :
    if c.lr ≤ n ∧ n < c.lr + c.nLines then
      (if count < c.pc + c.nSamples then (refEnd c n count f).refBad = true ∧ (refEnd c n count f).refLines = f.refLines
        else (refEnd c n count f).refBad = f.refBad ∧ (refEnd c n count f).refLines = f.refLines + 1)
    else (refEnd c n count f).refBad = f.refBad ∧ (refEnd c n count f).refLines = f.refLines := by
  unfold refEnd
  split_ifs <;> exact ⟨rfl, rfl⟩

theorem cropEnd_only (c : CamSetup) (n count : Nat) (f : OpenFrame) :
    cropEnd c n count f = { f with mark := (cropEnd c n count f).mark, cropLines := (cropEnd c n count f).cropLines } := by
  unfold cropEnd
  split_ifs
  · rw [addMark_eq]
    split_ifs <;> rfl
  · rfl
  · rfl

theorem cropEnd_counts (c : CamSetup) (n count : Nat) (f : OpenFrame) :
    if c.lc ≤ n ∧ n < c.lc + c.hc then
      (if count < c.pc + c.wc then (cropEnd c n count f).cropLines = f.cropLines ∧
          (cropEnd c n count f).mark = if f.slot = none then f.mark else some (f.mark.getD .short)
        else (cropEnd c n count f).cropLines = f.cropLines + 1 ∧ (cropEnd c n count f).mark = f.mark)
    else (cropEnd c n count f).cropLines = f.cropLines ∧ (cropEnd c n count f).mark = f.mark := by
  unfold cropEnd
  split_ifs with crop short slot
  · rw [addMark_noSlot _ slot]
    exact ⟨rfl, rfl⟩
  · rw [addMark_first _ slot]
    exact ⟨rfl, rfl⟩
  · exact ⟨rfl, rfl⟩
  · exact ⟨rfl, rfl⟩

/-! ### HS_EDGE (R40) -/

/-- The open frame once a line in progress has ended (R48). -/
def endedFrame (s : State) : Option OpenFrame :=
  s.ccu.setup.elim s.ccu.frame fun c =>
    if s.ccu.sync.inLine ∧ s.capturing then s.ccu.frame.map (OpenFrame.lineEnd c (s.ccu.sync.lines - 1) s.ccu.sync.samples)
    else s.ccu.frame

theorem endedFrame_none {s : State} (h : s.ccu.sync.inLine = false ∨ s.capturing = false ∨ s.ccu.frame = none) :
    endedFrame s = s.ccu.frame := by
  unfold endedFrame
  cases s.ccu.setup with
  | none => rfl
  | some c =>
    rcases h with h | h | h
    · exact if_neg fun k => by rw [h] at k; cases k.1
    · exact if_neg fun k => by rw [h] at k; cases k.2
    · rw [h]
      exact ite_self _

theorem endedFrame_some {s : State} {c : CamSetup} {f : OpenFrame} (run : s.capturing = true) (inLine : s.ccu.sync.inLine = true)
    (setup : s.ccu.setup = some c) (frame : s.ccu.frame = some f) :
    endedFrame s = some (f.lineEnd c (s.ccu.sync.lines - 1) s.ccu.sync.samples) := by
  unfold endedFrame
  rw [setup, frame]
  exact if_pos ⟨inLine, run⟩

theorem endLine_eq (s : State) : endLine s =
    s.setCcu { s.ccu with frame := endedFrame s, sync := { s.ccu.sync with inLine := false } } := by
  unfold endLine endedFrame
  dsimp only
  by_cases inLine : s.ccu.sync.inLine = true
  · rw [if_pos inLine, inLine]
    simp only [true_and]
    cases s.ccu.setup <;> rfl
  · have off : s.ccu.sync.inLine = false := Bool.eq_false_iff.2 inLine
    have same : ({ s.ccu.sync with inLine := false } : Sync) = s.ccu.sync := by rw [← off]
    have frame : (s.ccu.setup.elim s.ccu.frame fun c => if s.ccu.sync.inLine ∧ s.capturing
        then s.ccu.frame.map (OpenFrame.lineEnd c (s.ccu.sync.lines - 1) s.ccu.sync.samples) else s.ccu.frame) = s.ccu.frame :=
      endedFrame_none (.inl off)
    rw [if_neg inLine, same, frame]
    rfl

section
variable {clocks : Nat} {s : State}

/-- The sync checker after a new line begins at clock `k`. -/
def newLine (y : Sync) (k : Nat) : Sync := ⟨k, some k, y.vsSeen, y.lines + 1, true, 0⟩

theorem doHsEdge_glitch {h : Nat} (hs : s.ccu.sync.lastHs = some h) (early : s.ccu.sync.clock + clocks < h + 16) :
    doHsEdge clocks s = raise .camGlitch 0 (s.ccu.seen &&& 0xFFFF) { s with ccu := { s.ccu with
      sync := { s.ccu.sync with clock := s.ccu.sync.clock + clocks }
      frame := s.ccu.frame.map fun f => if f.slot.isSome ∧ f.mark = none then { f with mark := some .glitch } else f } } := by
  unfold doHsEdge
  dsimp only [State.setCcu, Sync.advance]
  rw [hs]
  dsimp only
  rw [if_pos (decide_eq_true early), markFrame_eq]
  rfl

theorem doHsEdge_line (late : ∀ h, s.ccu.sync.lastHs = some h → h + 16 ≤ s.ccu.sync.clock + clocks) :
    doHsEdge clocks s = { s with ccu := { s.ccu with
      frame := endedFrame s, sync := newLine s.ccu.sync (s.ccu.sync.clock + clocks) } } := by
  have line : (endLine (s.setCcu { s.ccu with sync := s.ccu.sync.advance clocks })).setCcu
      { (endLine (s.setCcu { s.ccu with sync := s.ccu.sync.advance clocks })).ccu with
        sync := newLine s.ccu.sync (s.ccu.sync.clock + clocks) } =
      { s with ccu := { s.ccu with frame := endedFrame s, sync := newLine s.ccu.sync (s.ccu.sync.clock + clocks) } } := by
    rw [endLine_eq]
    rfl
  rw [← line]
  unfold doHsEdge
  dsimp only
  refine (if_neg ?_).trans (by rw [endLine_eq]; rfl)
  show ¬((match s.ccu.sync.lastHs with
    | none => false
    | some t => decide (s.ccu.sync.clock + clocks < t + 16)) = true)
  cases h : s.ccu.sync.lastHs with
  | none => exact Bool.false_ne_true
  | some t => exact fun k => absurd (of_decide_eq_true k) (Nat.not_lt.2 (late t h))

end

/-- Settles O20: a glitch; a line that ends nothing; the line that it ends, by the two windows. -/
theorem hsEdge : Obligations.HsEdge := by
  intro clocks s live k hk y hy line
  subst hk hy
  refine ⟨fun h hs early => answers_of_live rfl live (doHsEdge_glitch hs early), fun late => ⟨fun idle => ?_, ?_⟩⟩
  · refine answers_of_live rfl live ?_
    rw [doHsEdge_line late, endedFrame_none idle]
    rfl
  · intro c f n g run inLine setup frame hn hg
    subst hn hg
    have answers : Answers (.hsEdge clocks) s { s with ccu := { s.ccu with
        sync := line, frame := some (f.lineEnd c (s.ccu.sync.lines - 1) s.ccu.sync.samples) } } := by
      refine answers_of_live rfl live ?_
      rw [doHsEdge_line late, endedFrame_some run inLine setup frame]
      rfl
    refine ⟨answers, ?_⟩
    have marks := cropEnd_counts c (s.ccu.sync.lines - 1) s.ccu.sync.samples (refEnd c (s.ccu.sync.lines - 1) s.ccu.sync.samples f)
    have counts := refEnd_counts c (s.ccu.sync.lines - 1) s.ccu.sync.samples f
    have ref := refEnd_only c (s.ccu.sync.lines - 1) s.ccu.sync.samples f
    rw [lineEnd_eq]
    rw [cropEnd_only]
    generalize refEnd c (s.ccu.sync.lines - 1) s.ccu.sync.samples f = r at marks counts ref ⊢
    rw [ref] at marks
    rw [ref]
    exact ⟨rfl, rfl, rfl, rfl, rfl, marks, counts⟩

/-! ### Crop bytes (R50, R52, R53) -/

section
variable {slot addr : Nat} {b : Byte} {s : State} {f : OpenFrame}

theorem pushCropByte_overran (frame : s.ccu.frame = some f) (h : f.overran = true) : pushCropByte slot addr b s = s := by
  simp only [pushCropByte, frame, h, if_true]

theorem pushCropByte_room (frame : s.ccu.frame = some f) (h : f.overran = false) (room : pixelCount s.ccu.buffer < 4096) :
    pushCropByte slot addr b s = s.setCcu { s.ccu with buffer := s.ccu.buffer ++ [.pixel slot addr b] } := by
  have room' : pixelCount s.ccu.buffer < Config.captureBytes := room
  simp only [pushCropByte, frame, h, Bool.false_eq_true, if_false, if_pos room']

theorem pushCropByte_full (frame : s.ccu.frame = some f) (h : f.overran = false) (full : 4096 ≤ pixelCount s.ccu.buffer) :
    pushCropByte slot addr b s = raise .camOverrun f.number (BitVec.ofNat 32 slot)
      (s.setCcu { s.ccu with frame := some { f.addMark .overrun with overran := true } }) := by
  have full' : ¬pixelCount s.ccu.buffer < Config.captureBytes := Nat.not_lt.2 full
  simp only [pushCropByte, frame, h, Bool.false_eq_true, if_false, if_neg full']

theorem pixelCount_push (l : List CaptureItem) : pixelCount (l ++ [.pixel slot addr b]) = pixelCount l + 1 :=
  pixelCount_append l _

/-! The two bytes of a sample: the second meets the buffer and the mark that the first leaves. -/

variable {luma chroma : Byte}

theorem pushSample_overran (frame : s.ccu.frame = some f) (h : f.overran = true) :
    pushCropByte slot (addr + 1) luma (pushCropByte slot addr chroma s) = s := by
  rw [pushCropByte_overran (b := chroma) frame h, pushCropByte_overran frame h]

theorem pushSample_room (frame : s.ccu.frame = some f) (h : f.overran = false) (room : pixelCount s.ccu.buffer + 2 ≤ 4096) :
    pushCropByte slot (addr + 1) luma (pushCropByte slot addr chroma s) =
      s.setCcu { s.ccu with buffer := s.ccu.buffer ++ [.pixel slot addr chroma, .pixel slot (addr + 1) luma] } := by
  have second : pixelCount (s.ccu.buffer ++ [.pixel slot addr chroma]) < 4096 := by
    rw [pixelCount_push]
    omega
  rw [pushCropByte_room (b := chroma) frame h (by omega),
    pushCropByte_room (s := s.setCcu { s.ccu with buffer := s.ccu.buffer ++ [.pixel slot addr chroma] }) frame h second]
  show { s with ccu := { s.ccu with buffer := s.ccu.buffer ++ [CaptureItem.pixel slot addr chroma] ++ [CaptureItem.pixel slot (addr + 1) luma] } } = _
  rw [List.append_assoc]
  rfl

theorem pushSample_full (frame : s.ccu.frame = some f) (hs : f.slot ≠ none) (h : f.overran = false)
    (full : 4096 ≤ pixelCount s.ccu.buffer) : pushCropByte slot (addr + 1) luma (pushCropByte slot addr chroma s) =
      raise .camOverrun f.number (BitVec.ofNat 32 slot)
        (s.setCcu { s.ccu with frame := some { f with mark := some (f.mark.getD .overrun), overran := true } }) := by
  rw [pushCropByte_full (b := chroma) frame h full, addMark_first _ hs]
  refine pushCropByte_overran (f := { f with mark := some (f.mark.getD .overrun), overran := true }) ?_ rfl
  rw [raise_eq]
  rfl

end

/-! ### CAMERA_SAMPLE (R40, R48 to R50) -/

/-- The sample lies in the reference region. -/
abbrev InRef (c : CamSetup) (n j : Nat) : Prop := (c.lr ≤ n ∧ n < c.lr + c.nLines) ∧ c.pc ≤ j ∧ j < c.pc + c.nSamples

/-- The sample lies in the crop window. -/
abbrev InCrop (c : CamSetup) (n j : Nat) : Prop := (c.lc ≤ n ∧ n < c.lc + c.hc) ∧ c.pc ≤ j ∧ j < c.pc + c.wc

theorem inRef_iff (c : CamSetup) (n j : Nat) :
    (c.refLine n && decide (c.pc ≤ j ∧ j < c.pc + c.nSamples)) = true ↔ InRef c n j := by
  rw [Bool.and_eq_true, refLine_iff, decide_eq_true_eq, InRef]

theorem inCrop_iff (c : CamSetup) (n j : Nat) :
    (c.cropLine n && decide (c.pc ≤ j ∧ j < c.pc + c.wc)) = true ↔ InCrop c n j := by
  rw [Bool.and_eq_true, cropLine_iff, decide_eq_true_eq, InCrop]

section
variable {c : CamSetup} {f g : OpenFrame} {slot n j : Nat} {chroma y : Byte} {s : State}

/-- The reference sum (R49). -/
theorem takeSampleOf_sum (frame : s.ccu.frame = some f)
    (hg : g = { f with refSum := f.refSum + if InRef c n j then y.toNat else 0 }) : takeSampleOf c f slot n j chroma y s =
      if c.cropLine n && decide (c.pc ≤ j ∧ j < c.pc + c.wc) then
        pushCropByte slot (c.slotBase slot + (n - c.lc) * c.pitch + 2 * (j - c.pc) + 1)
          (correctLuma s.ccu.gamma f.pedestal c.targetBlack y)
          (pushCropByte slot (c.slotBase slot + (n - c.lc) * c.pitch + 2 * (j - c.pc)) chroma
            (s.setCcu { s.ccu with frame := some g }))
      else s.setCcu { s.ccu with frame := some g } := by
  have summed : (if c.refLine n && decide (c.pc ≤ j ∧ j < c.pc + c.nSamples)
      then s.setCcu { s.ccu with frame := some { f with refSum := f.refSum + y.toNat } } else s) =
      s.setCcu { s.ccu with frame := some g } := by
    subst hg
    by_cases ref : InRef c n j
    · rw [if_pos ((inRef_iff c n j).2 ref), if_pos ref]
    · rw [if_neg (mt (inRef_iff c n j).1 ref), if_neg ref, Nat.add_zero, ← frame]
      rfl
  unfold takeSampleOf
  rw [summed]
  rfl

/-- The state after a sample is counted. -/
def sampled (n : Nat) (s : State) : State :=
  s.setCcu { s.ccu with sync := { s.ccu.sync with clock := s.ccu.sync.clock + 2, samples := n } }

theorem doCameraSample_passes (h : s.ccu.sync.inLine = false ∨ ∃ c, s.ccu.setup = some c ∧ c.wl ≤ s.ccu.sync.samples) :
    doCameraSample chroma y s = sampled s.ccu.sync.samples s := by
  unfold doCameraSample
  dsimp only [State.setCcu, Sync.advance]
  refine (if_pos ?_).trans rfl
  rcases h with h | ⟨c, setup, beyond⟩
  · rw [h]
    rfl
  · rw [setup]
    simp [beyond]

theorem doCameraSample_inLine (inLine : s.ccu.sync.inLine = true) (inside : ∀ c, s.ccu.setup = some c → s.ccu.sync.samples < c.wl)
    (u : State) (hu : u = sampled (s.ccu.sync.samples + 1) s) : doCameraSample chroma y s =
      match s.ccu.setup, s.ccu.frame with
      | some c, some f =>
        match f.slot with
        | none => u
        | some i => if s.capturing then takeSampleOf c f i (s.ccu.sync.lines - 1) s.ccu.sync.samples chroma y u else u
      | _, _ => u := by
  subst hu
  unfold doCameraSample
  dsimp only [State.setCcu, Sync.advance]
  refine (if_neg ?_).trans rfl
  rw [inLine]
  cases setup : s.ccu.setup with
  | none => exact Bool.false_ne_true
  | some c => simp [inside c setup]

theorem doCameraSample_uncounted (inLine : s.ccu.sync.inLine = true)
    (inside : ∀ c, s.ccu.setup = some c → s.ccu.sync.samples < c.wl)
    (h : s.capturing = false ∨ s.ccu.frame = none ∨ ∃ f, s.ccu.frame = some f ∧ f.slot = none) :
    doCameraSample chroma y s = sampled (s.ccu.sync.samples + 1) s := by
  rw [doCameraSample_inLine inLine inside _ rfl]
  rcases h with h | h | ⟨f, h, slot⟩
  · rw [h]
    cases s.ccu.setup with
    | none => rfl
    | some c =>
      cases s.ccu.frame with
      | none => rfl
      | some f =>
        dsimp only
        cases f.slot <;> rfl
  · rw [h]
    cases s.ccu.setup <;> rfl
  · rw [h]
    cases s.ccu.setup with
    | none => rfl
    | some c =>
      dsimp only
      rw [slot]

theorem doCameraSample_counted (inLine : s.ccu.sync.inLine = true) (run : s.capturing = true) (setup : s.ccu.setup = some c)
    (inside : s.ccu.sync.samples < c.wl) (frame : s.ccu.frame = some f) (hs : f.slot = some slot) :
    doCameraSample chroma y s = takeSampleOf c f slot (s.ccu.sync.lines - 1) s.ccu.sync.samples chroma y
      (sampled (s.ccu.sync.samples + 1) s) := by
  rw [doCameraSample_inLine inLine (fun x hx => by rw [← Option.some.inj (setup.symm.trans hx)]; exact inside) _ rfl, setup, frame]
  dsimp only
  rw [hs]
  exact if_pos run

end

/-- Settles O21: samples that pass; the reference sum; crop bytes by the room in the buffer. -/
theorem cameraSample : Obligations.CameraSample := by
  refine ⟨fun chroma y s live => ?_, fun chroma y s c f slot live run setup frame hs inLine => ?_⟩
  · intro q passes
    exact ⟨fun h => answers_of_live rfl live (doCameraSample_passes h),
      fun inLine inside h => answers_of_live rfl live (doCameraSample_uncounted inLine inside h)⟩
  · intro q j n counted inRef inCrop g a luma
    have sample (inside : j < c.wl) : doCameraSample chroma y s = if c.cropLine n && decide (c.pc ≤ j ∧ j < c.pc + c.wc) then
        pushCropByte slot (a + 1) luma (pushCropByte slot a chroma { s with ccu := { s.ccu with sync := counted, frame := some g } })
        else { s with ccu := { s.ccu with sync := counted, frame := some g } } :=
      (doCameraSample_counted inLine run setup inside frame hs).trans
        (takeSampleOf_sum (s := sampled (s.ccu.sync.samples + 1) s) (g := g) frame rfl)
    have slotted : g.slot ≠ none := fun k => by rw [show g.slot = some slot from hs] at k; cases k
    refine ⟨fun beyond => answers_of_live rfl live (doCameraSample_passes (.inr ⟨c, setup, beyond⟩)), fun inside out => ?_,
      fun inside crop fits room => ?_, fun inside crop full => ?_, fun inside crop fits full => ?_⟩ <;>
      refine answers_of_live rfl live ((sample inside).trans ?_)
    · rw [if_neg (mt (inCrop_iff c n j).1 out)]
    · rw [if_pos ((inCrop_iff c n j).2 crop)]
      exact pushSample_room (f := g) rfl fits room
    · rw [if_pos ((inCrop_iff c n j).2 crop)]
      exact pushSample_overran (f := g) rfl full
    · rw [if_pos ((inCrop_iff c n j).2 crop)]
      exact pushSample_full (f := g) rfl slotted fits full

end Sys2Proof.Proofs
end

section
/-! PROOFS. VS_EDGE: presence, the frame that closes, the frame that opens, the slot chosen (R41, R42, R48 to R51, R54 to R56). -/

namespace Sys2Proof.Proofs

open Sys2Proof.Machine Sys2Proof.Safety

/-! ### The slot chosen (R55) -/

section
variable {c : Ccu}

/-- The slots in ring order after the one last opened. -/
def ringPlace (c : Ccu) (k : Nat) : Nat := (c.lastOpened + 1 + k) % c.slots.length

/-- The first FREE slot in ring order, by its distance. -/
def firstFree (c : Ccu) : Option Nat :=
  (List.range c.slots.length).find? fun k => decide ((slotAt c.slots (ringPlace c k)).st = .free)

theorem chooseSlot_eq (c : Ccu) : chooseSlot c = (firstFree c).elim (pickReady (fun a b => decide (b < a)) c.seen c.slots)
    fun k => some (ringPlace c k) := by
  have found : ((List.range c.slots.length).map fun k => (c.lastOpened + 1 + k) % c.slots.length).find?
      (fun i => decide ((slotAt c.slots i).st = .free)) = (firstFree c).map (ringPlace c) := List.find?_map
  unfold chooseSlot
  dsimp only
  rw [found]
  cases firstFree c <;> rfl

theorem oldestReady_some {i : Nat} (h : pickReady (fun a b => decide (b < a)) c.seen c.slots = some i) :
    i < c.slots.length ∧ (slotAt c.slots i).st = .ready ∧ ∀ j < c.slots.length, (slotAt c.slots j).st = .ready →
      slotAge c.seen (slotAt c.slots j) ≤ slotAge c.seen (slotAt c.slots i) :=
  pickReady_some (le := fun a b => b ≤ a) (fun _ _ h => Nat.le_of_lt (of_decide_eq_true h))
    (fun _ _ h => Nat.not_lt.1 (of_decide_eq_false h)) (fun _ _ _ h k => Nat.le_trans k h) Nat.le_refl h

theorem oldestReady_none (h : pickReady (fun a b => decide (b < a)) c.seen c.slots = none) :
    ∀ j < c.slots.length, (slotAt c.slots j).st ≠ .ready :=
  pickReady_none (le := fun a b => b ≤ a) (fun _ _ h => Nat.le_of_lt (of_decide_eq_true h))
    (fun _ _ h => Nat.not_lt.1 (of_decide_eq_false h)) (fun _ _ _ h k => Nat.le_trans k h) Nat.le_refl h

theorem slotAt_eq {slots : List Slot} {i : Nat} (h : i < slots.length) : slotAt slots i = slots[i] :=
  List.getD_eq_getElem _ _ h

theorem slotAt_mem {slots : List Slot} {i : Nat} (h : i < slots.length) : slotAt slots i ∈ slots := by
  rw [slotAt_eq h]
  exact List.getElem_mem h

/-- Every slot has its place in the ring. -/
theorem ringPlace_surjective (h : c.lastOpened < c.slots.length) {i : Nat} (hi : i < c.slots.length) :
    ∃ k < c.slots.length, ringPlace c k = i := by
  unfold ringPlace
  by_cases after : c.lastOpened < i
  · exact ⟨i - c.lastOpened - 1, by omega, by rw [show c.lastOpened + 1 + (i - c.lastOpened - 1) = i by omega, Nat.mod_eq_of_lt hi]⟩
  · refine ⟨i + c.slots.length - c.lastOpened - 1, by omega, ?_⟩
    rw [show c.lastOpened + 1 + (i + c.slots.length - c.lastOpened - 1) = i + c.slots.length by omega, Nat.add_mod_right,
      Nat.mod_eq_of_lt hi]

theorem firstFree_eq_none (h : ∀ x ∈ c.slots, x.st ≠ .free) : firstFree c = none := by
  refine List.find?_eq_none.2 fun k hk => ?_
  have pos : 0 < c.slots.length := Nat.lt_of_le_of_lt (Nat.zero_le k) (List.mem_range.1 hk)
  exact fun free => h _ (slotAt_mem (Nat.mod_lt _ pos)) (of_decide_eq_true free)

/-- A slot that is chosen is FREE or READY. -/
theorem chooseSlot_some {i : Nat} (h : chooseSlot c = some i) :
    i < c.slots.length ∧ ((slotAt c.slots i).st = .free ∨ (slotAt c.slots i).st = .ready) := by
  rw [chooseSlot_eq] at h
  cases hk : firstFree c with
  | none =>
    rw [hk] at h
    obtain ⟨bound, ready, _⟩ := oldestReady_some h
    exact ⟨bound, .inr ready⟩
  | some k =>
    rw [hk] at h
    obtain ⟨free, inRange⟩ := List.find?_eq_some_iff_append.1 hk |>.1, List.mem_of_find?_eq_some hk
    have pos : 0 < c.slots.length := Nat.lt_of_le_of_lt (Nat.zero_le k) (List.mem_range.1 inRange)
    rw [← Option.some.inj h]
    exact ⟨Nat.mod_lt _ pos, .inl (of_decide_eq_true free)⟩

theorem chooseSlot_ring : c.lastOpened < c.slots.length →
    (∀ k, k < c.slots.length → (slotAt c.slots ((c.lastOpened + 1 + k) % c.slots.length)).st = .free →
      (∀ k' < k, (slotAt c.slots ((c.lastOpened + 1 + k') % c.slots.length)).st ≠ .free) →
      chooseSlot c = some ((c.lastOpened + 1 + k) % c.slots.length)) ∧
    ((∀ x ∈ c.slots, x.st ≠ .free) → ∀ i, chooseSlot c = some i →
      (slotAt c.slots i).st = .ready ∧ i < c.slots.length ∧
        ∀ j, j < c.slots.length → (slotAt c.slots j).st = .ready →
          slotAge c.seen (slotAt c.slots j) ≤ slotAge c.seen (slotAt c.slots i)) ∧
    ((∀ x ∈ c.slots, x.st ≠ .free ∧ x.st ≠ .ready) → chooseSlot c = none) ∧
    (chooseSlot c = none → ∀ x ∈ c.slots, x.st ≠ .free ∧ x.st ≠ .ready) := by
  intro last
  refine ⟨fun k hk free first => ?_, fun none i hi => ?_, fun none => ?_, fun h x hx => ?_⟩
  · have found : firstFree c = some k :=
      List.find?_range_eq_some.2 ⟨decide_eq_true free, List.mem_range.2 hk, fun j hj => by rw [Bool.not_eq_true']; exact decide_eq_false (first j hj)⟩
    rw [chooseSlot_eq, found]
    rfl
  · rw [chooseSlot_eq, firstFree_eq_none none] at hi
    obtain ⟨bound, ready, oldest⟩ := oldestReady_some hi
    exact ⟨ready, bound, oldest⟩
  · cases h : chooseSlot c with
    | none => rfl
    | some i =>
      obtain ⟨bound, state⟩ := chooseSlot_some h
      obtain ⟨free, ready⟩ := none _ (slotAt_mem bound)
      exact absurd state (not_or.2 ⟨free, ready⟩)
  · obtain ⟨i, hi, rfl⟩ := List.mem_iff_getElem.1 hx
    rw [chooseSlot_eq] at h
    cases hk : firstFree c with
    | some k => rw [hk] at h; cases h
    | none =>
      rw [hk] at h
      rw [← slotAt_eq hi]
      refine ⟨fun free => ?_, oldestReady_none h i hi⟩
      obtain ⟨k, bound, place⟩ := ringPlace_surjective last hi
      refine List.find?_eq_none.1 hk k (List.mem_range.2 bound) (decide_eq_true ?_)
      rw [place]
      exact free

end

/-! ### Work of the Camera Capture Unit, with its raises -/

/-- `u` is `s` but for the camera, with the raises made (and perhaps status-dirty set). -/
def CameraRaises (rs : List Raise) (s u : State) : Prop :=
  ∃ d, u = { s with ccu := u.ccu, seu := { (raiseAll rs s).seu with dirty := d } }

theorem raiseAll_append (xs ys : List Raise) (s : State) : raiseAll (xs ++ ys) s = raiseAll ys (raiseAll xs s) := by
  induction xs generalizing s with
  | nil => rfl
  | cons x xs ih => exact ih _

section
variable {rs rs' : List Raise} {s u v t : State}

theorem CameraRaises.set (c : Ccu) (s : State) : CameraRaises [] s (s.setCcu c) := ⟨s.seu.dirty, rfl⟩

theorem CameraRaises.setDirty (c : Ccu) (s : State) : CameraRaises [] s (s.setCcu c).markDirty := ⟨true, rfl⟩

theorem CameraRaises.raised (k : EvKind) (d a : Word) (s : State) : CameraRaises [⟨k, d, a⟩] s (raise k d a s) :=
  ⟨(raise k d a s).seu.dirty, raise_eq ..⟩

theorem CameraRaises.trans (h : CameraRaises rs s u) (k : CameraRaises rs' u v) : CameraRaises (rs ++ rs') s v := by
  obtain ⟨d, hu⟩ := h
  obtain ⟨e, hv⟩ := k
  have seu : u.seu = { (raiseAll rs s).seu with dirty := d } := by rw [hu]
  have time : u.time = (raiseAll rs s).time := by
    rw [hu, raiseAll_eq]
  obtain ⟨d', raised⟩ := raisesTo_raiseAll seu time rs'
  refine ⟨e, ?_⟩
  rw [raiseAll_append]
  generalize v.ccu = c at hv ⊢
  rw [hv, raised, hu]

theorem CameraRaises.raises (h : CameraRaises rs s u) (k : Decided u t) : Raises rs s t := by
  obtain ⟨d, hu⟩ := h
  exact RaisesTo.raises ⟨d, by rw [hu]⟩ k

/-- What the camera's work leaves alone. -/
theorem CameraRaises.leaves (h : CameraRaises rs s u) (k : Decided u t) : t.time = s.time ∧ t.mem = s.mem ∧ t.ppw = s.ppw ∧
    t.cmu = s.cmu ∧ t.scn = s.scn ∧ t.menu = s.menu ∧ t.links = s.links ∧ t.fqu = s.fqu ∧ t.rvc = s.rvc ∧ t.gde = s.gde ∧
    t.chu = s.chu ∧ t.layout = s.layout ∧ t.pending = s.pending := by
  obtain ⟨d, hu⟩ := h
  have same : u.time = s.time ∧ u.mem = s.mem ∧ u.ppw = s.ppw ∧ u.cmu = s.cmu ∧ u.scn = s.scn ∧ u.menu = s.menu ∧
      u.links = s.links ∧ u.fqu = s.fqu ∧ u.rvc = s.rvc ∧ u.gde = s.gde ∧ u.chu = s.chu ∧ u.layout = s.layout ∧
      u.pending = s.pending := by
    rw [hu]
    exact ⟨rfl, rfl, rfl, rfl, rfl, rfl, rfl, rfl, rfl, rfl, rfl, rfl, rfl⟩
  obtain ⟨time, mem, ppw, cmu, scn, menu, links, fqu, rvc, gde, chu, layout, pending⟩ := same
  exact ⟨k.time.trans time, k.mem.trans mem, k.ppw.trans ppw, k.cmu.trans cmu, k.scn.trans scn, k.menu.trans menu,
    k.links.trans links, k.fqu.trans fqu, k.rvc.trans rvc, k.gde.trans gde, k.chu.trans chu, k.layout.trans layout,
    k.pending.trans pending⟩

end

/-! ### The close (R54) -/

section
variable {c : CamSetup} {s : State} {f : OpenFrame} {i : Nat}

/-- CAM_BAD where the frame that closes is not valid. -/
def closeRaises (c : CamSetup) (frame : Option OpenFrame) : List Raise :=
  frame.elim [] fun f => if f.slot = none ∨ f.valid c = true then [] else [⟨.camBad, badReason f.mark, f.number &&& 0xFFFF⟩]

theorem closeFrame_noFrame (h : s.ccu.frame = none) : closeFrame c s = s := by
  simp only [closeFrame, h]

theorem closeFrame_noSlot (h : s.ccu.frame = some f) (hf : f.slot = none) : closeFrame c s = s.setCcu { s.ccu with frame := none } := by
  simp only [closeFrame, h, hf]

/-- vpd after a valid frame (R49). -/
def closedVpd (c : CamSetup) (f : OpenFrame) (vpd : Nat) : Nat :=
  if f.refComplete c then vpdAfter vpd (refMean c f.refSum) else vpd

theorem closeFrame_valid (h : s.ccu.frame = some f) (hi : f.slot = some i) (valid : f.valid c = true) :
    closeFrame c s = (s.setCcu { s.ccu with
      frame := none, vpd := closedVpd c f s.ccu.vpd, slots := setSlotState s.ccu.slots i .closing,
      buffer := s.ccu.buffer ++ [.trailer i (trailerWords c f i (s.setCcu { s.ccu with vpd := closedVpd c f s.ccu.vpd })) false] }).markDirty := by
  simp only [closeFrame, h, hi, valid, if_true]
  rfl

theorem closeFrame_bad (h : s.ccu.frame = some f) (hi : f.slot = some i) (bad : f.valid c = false) :
    closeFrame c s = raise .camBad (badReason f.mark) (f.number &&& 0xFFFF) (s.setCcu { s.ccu with
      frame := none, slots := setSlotState s.ccu.slots i .free, buffer := discardPixels i s.ccu.buffer }).markDirty := by
  simp only [closeFrame, h, hi, bad, Bool.false_eq_true, if_false]
  rfl

theorem closeFrame_raises (c : CamSetup) (s : State) : CameraRaises (closeRaises c s.ccu.frame) s (closeFrame c s) := by
  unfold closeRaises
  cases hf : s.ccu.frame with
  | none =>
    rw [closeFrame_noFrame hf]
    exact ⟨s.seu.dirty, rfl⟩
  | some f =>
    rw [Option.elim_some]
    cases hi : f.slot with
    | none =>
      rw [closeFrame_noSlot hf hi, if_pos (.inl rfl)]
      exact .set _ s
    | some i =>
      by_cases valid : f.valid c = true
      · rw [closeFrame_valid hf hi valid, if_pos (.inr valid)]
        exact .setDirty _ s
      · rw [closeFrame_bad hf hi (Bool.eq_false_iff.2 valid), if_neg (by simp [valid])]
        exact CameraRaises.trans (.setDirty _ s) (.raised ..)

/-- The slots after the close. -/
def closedSlots (c : CamSetup) (frame : Option OpenFrame) (slots : List Slot) : List Slot :=
  frame.elim slots fun f => f.slot.elim slots fun i => setSlotState slots i (if f.valid c then .closing else .free)

/-- The close changes the frame, vpd, the slots and the buffer alone. -/
theorem closeFrame_ccu (c : CamSetup) (s : State) : (closeFrame c s).ccu = { s.ccu with
    frame := none, slots := closedSlots c s.ccu.frame s.ccu.slots, vpd := (closeFrame c s).ccu.vpd
    buffer := (closeFrame c s).ccu.buffer } := by
  unfold closedSlots
  cases hf : s.ccu.frame with
  | none =>
    rw [closeFrame_noFrame hf, Option.elim_none, ← hf]
  | some f =>
    rw [Option.elim_some]
    cases hi : f.slot with
    | none =>
      rw [closeFrame_noSlot hf hi]
      rfl
    | some i =>
      by_cases valid : f.valid c = true
      · rw [closeFrame_valid hf hi valid, valid]
        rfl
      · have bad := Bool.eq_false_iff.2 valid
        rw [closeFrame_bad hf hi bad, bad, raise_eq]
        rfl

end

/-! ### The open (R50, R51, R55) -/

section
variable {c : CamSetup} {s : State}

/-- The camera counts a frame and takes a pending gamma table. -/
def counted (x : Ccu) : Ccu := { x with seen := x.seen + 1, gamma := x.pendingGamma.getD x.gamma, pendingGamma := none }

/-- The frame that opens. -/
def newFrame (c : CamSetup) (x : Ccu) (slot : Option Nat) : OpenFrame :=
  ⟨slot, x.seen + 1, none, 0, 0, 0, false, pedestalOf c x.vpd, false⟩

theorem openFrame_none (h : chooseSlot (counted s.ccu) = none) : openFrame c s =
    raise .camDropped (s.ccu.seen + 1) 0 (s.setCcu { counted s.ccu with frame := some (newFrame c s.ccu none) }).markDirty := by
  unfold openFrame
  dsimp only
  rw [show chooseSlot (s.setCcu _).markDirty.ccu = none from h]
  rfl

theorem openFrame_some {i : Nat} (h : chooseSlot (counted s.ccu) = some i) : openFrame c s =
    (s.setCcu { counted s.ccu with
      frame := some (newFrame c s.ccu (some i)), slots := s.ccu.slots.set i ⟨.writing, s.ccu.seen + 1⟩, lastOpened := i }).markDirty := by
  unfold openFrame
  dsimp only
  rw [show chooseSlot (s.setCcu _).markDirty.ccu = some i from h]
  rfl

/-- CAM_DROPPED where no slot is chosen. -/
def openRaises (x : Ccu) : List Raise := if chooseSlot (counted x) = none then [⟨.camDropped, x.seen + 1, 0⟩] else []

theorem openFrame_raises (c : CamSetup) (s : State) : CameraRaises (openRaises s.ccu) s (openFrame c s) := by
  unfold openRaises
  cases h : chooseSlot (counted s.ccu) with
  | none =>
    rw [openFrame_none h, if_pos rfl]
    exact CameraRaises.trans (.setDirty _ s) (.raised ..)
  | some i =>
    rw [openFrame_some h, if_neg (Option.some_ne_none i)]
    exact .setDirty _ s

/-- The open gives the camera its new frame, and the slot chosen. -/
theorem openFrame_ccu (c : CamSetup) (s : State) : (openFrame c s).ccu = { counted s.ccu with
    frame := some (newFrame c s.ccu (chooseSlot (counted s.ccu)))
    slots := (chooseSlot (counted s.ccu)).elim s.ccu.slots fun i => s.ccu.slots.set i ⟨.writing, s.ccu.seen + 1⟩
    lastOpened := (chooseSlot (counted s.ccu)).getD s.ccu.lastOpened } := by
  cases h : chooseSlot (counted s.ccu) with
  | none =>
    rw [openFrame_none h, raise_eq]
    rfl
  | some i =>
    rw [openFrame_some h]
    rfl

end

/-! ### VS_EDGE (R41, R42) -/

section
variable {clocks : Nat} {s : State} {c : CamSetup}

/-- The sync checker at a frame boundary. -/
def boundarySync (y : Sync) (k : Nat) : Sync := ⟨k, y.lastHs, true, 0, false, 0⟩

/-- The camera at a frame boundary, the line in progress ended. -/
def boundaryCcu (clocks : Nat) (s : State) : Ccu :=
  { s.ccu with
    frame := endedFrame s, sync := boundarySync s.ccu.sync (s.ccu.sync.clock + clocks), present := true, presenceTimer := some 200 }

/-- The state at a frame boundary: a camera that was ABSENT is reported PRESENT. -/
def boundary (clocks : Nat) (s : State) : State :=
  if s.ccu.present then s.setCcu (boundaryCcu clocks s) else raise .camPresence 1 0 (s.setCcu (boundaryCcu clocks s))

def presenceRaises (s : State) : List Raise := if s.ccu.present then [] else [⟨.camPresence, 1, 0⟩]

theorem boundary_raises (clocks : Nat) (s : State) : CameraRaises (presenceRaises s) s (boundary clocks s) := by
  unfold presenceRaises boundary
  split_ifs
  · exact .set _ s
  · exact CameraRaises.trans (.set _ s) (.raised ..)

theorem boundary_ccu (clocks : Nat) (s : State) : (boundary clocks s).ccu = boundaryCcu clocks s := by
  unfold boundary
  split_ifs
  · rfl
  · rw [raise_eq]
    rfl

theorem doVsEdge_glitch (seen : s.ccu.sync.vsSeen = true) (early : s.ccu.sync.lines < 16) :
    doVsEdge clocks s = raise .camGlitch 1 (s.ccu.seen &&& 0xFFFF) { s with ccu := { s.ccu with
      sync := { s.ccu.sync with clock := s.ccu.sync.clock + clocks }
      frame := s.ccu.frame.map fun f => if f.slot.isSome ∧ f.mark = none then { f with mark := some .glitch } else f } } := by
  unfold doVsEdge
  dsimp only [State.setCcu, Sync.advance]
  rw [if_pos (by simp [seen, early]), markFrame_eq]
  rfl

theorem cameraSeen_boundary (clocks : Nat) (s : State) : (fun v : State => v.setCcu { v.ccu with
      sync := { v.ccu.sync with vsSeen := true, lines := 0, inLine := false, samples := 0 } })
    (cameraSeen (endLine (s.setCcu { s.ccu with sync := s.ccu.sync.advance clocks }))) = boundary clocks s := by
  rw [endLine_eq]
  unfold cameraSeen boundary
  dsimp only
  by_cases present : s.ccu.present = true
  · rw [if_pos present]
    exact (congrArg (fun v : State => v.setCcu { v.ccu with
      sync := { v.ccu.sync with vsSeen := true, lines := 0, inLine := false, samples := 0 } }) (if_pos present)).trans rfl
  · rw [if_neg present]
    exact (congrArg (fun v : State => v.setCcu { v.ccu with
      sync := { v.ccu.sync with vsSeen := true, lines := 0, inLine := false, samples := 0 } }) (if_neg present)).trans rfl

theorem doVsEdge_boundary (h : ¬(s.ccu.sync.vsSeen = true ∧ s.ccu.sync.lines < 16)) : doVsEdge clocks s =
    s.ccu.setup.elim (boundary clocks s) fun c =>
      if s.capturing then openFrame c (closeFrame c (boundary clocks s)) else boundary clocks s := by
  have setup : (boundary clocks s).ccu.setup = s.ccu.setup := by rw [boundary_ccu]; rfl
  have run : (boundary clocks s).capturing = s.capturing := by
    obtain ⟨d, h⟩ := boundary_raises clocks s
    rw [h, boundary_ccu]
    rfl
  have goes : doVsEdge clocks s = (fun v : State => match v.ccu.setup with
      | none => v
      | some c => if v.capturing then openFrame c (closeFrame c v) else v) (boundary clocks s) := by
    rw [← cameraSeen_boundary]
    unfold doVsEdge
    exact if_neg fun k => h ((Bool.and_eq_true _ _ ▸ k).imp id of_decide_eq_true)
  rw [goes]
  dsimp only
  rw [setup, run]
  cases s.ccu.setup <;> rfl

/-- The open frame of running capture at a boundary. -/
theorem endedFrame_run (run : s.capturing = true) (setup : s.ccu.setup = some c) : endedFrame s =
    s.ccu.frame.map fun f => if s.ccu.sync.inLine then f.lineEnd c (s.ccu.sync.lines - 1) s.ccu.sync.samples else f := by
  unfold endedFrame
  rw [setup, run, Option.elim_some]
  simp only [and_true]
  cases s.ccu.sync.inLine
  · exact Option.map_id'.symm
  · rfl

/-- The slots at a boundary once the open frame is closed. -/
def slotsClosed (c : CamSetup) (s : State) : List Slot := closedSlots c (endedFrame s) s.ccu.slots

/-- The camera from which the next frame's slot is chosen. -/
theorem chooses_closed (clocks : Nat) (c : CamSetup) (s : State) :
    chooseSlot (counted (closeFrame c (boundary clocks s)).ccu) =
      chooseSlot { s.ccu with slots := slotsClosed c s, seen := s.ccu.seen + 1 } := by
  rw [closeFrame_ccu, boundary_ccu]
  rfl

/-- The camera after a frame boundary with capture running. -/
theorem nextFrame_ccu (clocks : Nat) (c : CamSetup) (s : State) : ∃ vpd buffer,
    (closeFrame c (boundary clocks s)).ccu.vpd = vpd ∧ (closeFrame c (boundary clocks s)).ccu.buffer = buffer ∧
    (openFrame c (closeFrame c (boundary clocks s))).ccu =
      (fun chosen : Option Nat => { counted (boundaryCcu clocks s) with
        frame := some (newFrame c { s.ccu with vpd := vpd } chosen), vpd := vpd, buffer := buffer,
        slots := chosen.elim (slotsClosed c s) fun i => (slotsClosed c s).set i ⟨.writing, s.ccu.seen + 1⟩,
        lastOpened := chosen.getD s.ccu.lastOpened })
      (chooseSlot { s.ccu with slots := slotsClosed c s, seen := s.ccu.seen + 1 }) := by
  refine ⟨_, _, rfl, rfl, ?_⟩
  rw [openFrame_ccu, chooses_closed]
  generalize chooseSlot { s.ccu with slots := slotsClosed c s, seen := s.ccu.seen + 1 } = chosen
  generalize hv : (closeFrame c (boundary clocks s)).ccu.vpd = vpd
  generalize hb : (closeFrame c (boundary clocks s)).ccu.buffer = buffer
  rw [closeFrame_ccu, boundary_ccu, hv, hb]
  rfl

theorem nextFrame_raises (clocks : Nat) (c : CamSetup) (s : State) :
    CameraRaises (presenceRaises s ++ closeRaises c (endedFrame s) ++
        if chooseSlot { s.ccu with slots := slotsClosed c s, seen := s.ccu.seen + 1 } = none
          then [⟨.camDropped, s.ccu.seen + 1, 0⟩] else [])
      s (openFrame c (closeFrame c (boundary clocks s))) := by
  have opens := openFrame_raises c (closeFrame c (boundary clocks s))
  unfold openRaises at opens
  rw [chooses_closed] at opens
  have seen : (closeFrame c (boundary clocks s)).ccu.seen = s.ccu.seen := by
    rw [closeFrame_ccu, boundary_ccu]
    rfl
  rw [seen] at opens
  have closes := closeFrame_raises c (boundary clocks s)
  rw [boundary_ccu] at closes
  exact ((boundary_raises clocks s).trans closes).trans opens

theorem valid_iff (c : CamSetup) (f : OpenFrame) : f.valid c = true ↔ f.cropLines = c.hc ∧ f.mark = none := by
  simp [OpenFrame.valid]

end

/-- Settles O22: a glitch; a boundary without capture; a boundary that closes one frame and opens the next; the slot chosen. -/
theorem vsEdge : Obligations.VsEdge := by
  refine ⟨fun clocks s live y hy k hk => ?_, fun c last => chooseSlot_ring last⟩
  subst hy hk
  intro glitch boundary'
  refine ⟨fun h => answers_of_live rfl live (doVsEdge_glitch h.1 h.2), fun accepted idle => ?_, fun accepted run c setup => ?_⟩
  · refine answers_of_live rfl live ((doVsEdge_boundary accepted).trans ?_)
    have stays : boundary clocks s = if s.ccu.present = true then
        { s with ccu := { s.ccu with sync := boundary', present := true, presenceTimer := some 200 } }
        else raise .camPresence 1 0 { s with ccu := { s.ccu with sync := boundary', present := true, presenceTimer := some 200 } } := by
      unfold boundary boundaryCcu
      rw [endedFrame_none (.inr (.inl idle))]
      rfl
    rw [idle, stays]
    cases s.ccu.setup <;> rfl
  · have moves : doVsEdge clocks s = openFrame c (closeFrame c (boundary clocks s)) := by
      rw [doVsEdge_boundary accepted, setup, Option.elim_some, if_pos run]
    obtain ⟨t, answers, kept⟩ := answers_of_live (i := .vsEdge clocks) rfl live moves
    obtain ⟨vpd, buffer, _, _, ccu⟩ := nextFrame_ccu clocks c s
    have raises := nextFrame_raises clocks c s
    have camera := kept.ccu
    rw [ccu] at camera
    have ended : endedFrame s =
        s.ccu.frame.map fun f => if s.ccu.sync.inLine then f.lineEnd c (s.ccu.sync.lines - 1) s.ccu.sync.samples else f :=
      endedFrame_run run setup
    have noted := CameraRaises.raises raises kept
    obtain ⟨time, mem, ppw, cmu, scn, menu, links, fqu, rvc, gde, chu, layout, pending⟩ := raises.leaves kept
    refine ⟨t, newFrame c { s.ccu with vpd := vpd } (chooseSlot { s.ccu with slots := slotsClosed c s, seen := s.ccu.seen + 1 }),
      answers, ?_⟩
    rw [camera]
    refine ⟨rfl, rfl, rfl, rfl, rfl, rfl, rfl, rfl, rfl, rfl, rfl, rfl, ?_, rfl, rfl, ?_, rfl, rfl, rfl, time, mem, ppw, cmu, scn,
      menu, links, fqu, rvc, gde, chu, layout, pending⟩
    · show pedestalOf c vpd = _
      unfold pedestalOf
      cases c.mode <;> rfl
    · intro closing closed bad dropped
      have slots : closed = slotsClosed c s := by
        unfold slotsClosed closedSlots
        rw [ended]
        simp only [closed, closing]
        generalize Option.map (fun f => _) s.ccu.frame = frame
        cases frame with
        | none => rfl
        | some f =>
          dsimp only [Option.elim_some]
          cases f.slot with
          | none => rfl
          | some i =>
            dsimp only [Option.elim_some, setSlotState]
            rw [if_congr (valid_iff c f) rfl rfl]
      have faults : bad = closeRaises c (endedFrame s) := by
        unfold closeRaises
        rw [ended]
        simp only [bad, closing]
        generalize Option.map (fun f => _) s.ccu.frame = frame
        cases frame with
        | none => rfl
        | some f =>
          dsimp only [Option.elim_some]
          rw [if_congr (or_congr_right (valid_iff c f)) rfl rfl]
          unfold badReason
          cases f.mark with
          | none => rfl
          | some m => cases m <;> rfl
      have reports : (if s.ccu.present then [] else [⟨.camPresence, 1, 0⟩]) = presenceRaises s := rfl
      rw [slots, faults, reports]
      refine ⟨rfl, fun i hi => ?_, fun none => ?_, noted⟩
      · have chosen : chooseSlot { s.ccu with slots := slotsClosed c s, seen := s.ccu.seen + 1 } = some i := hi
        rw [chosen]
        exact ⟨rfl, rfl⟩
      · have chosen : chooseSlot { s.ccu with slots := slotsClosed c s, seen := s.ccu.seen + 1 } = Option.none := none
        rw [chosen]
        exact ⟨rfl, rfl⟩

end Sys2Proof.Proofs
end

section
/-! PROOFS. The close of an open frame: the trailer and the black level, or the bytes discarded (R48, R49, R54, R56). -/

namespace Sys2Proof.Proofs

open Sys2Proof.Machine Sys2Proof.Safety

/-! ### What the arbiter takes from the capture buffer (R52) -/

/-- Pixel bytes may leave the capture buffer; trailers stay. -/
def OnlyPixelsLeave (s t : State) : Prop :=
  t.ccu.buffer.Sublist s.ccu.buffer ∧
    ∀ slot ws half, CaptureItem.trailer slot ws half ∈ s.ccu.buffer → CaptureItem.trailer slot ws half ∈ t.ccu.buffer

section
variable {s t u : State}

theorem OnlyPixelsLeave.same (h : t.ccu.buffer = s.ccu.buffer) : OnlyPixelsLeave s t := by
  rw [OnlyPixelsLeave, h]
  exact ⟨.refl _, fun _ _ _ => id⟩

theorem OnlyPixelsLeave.trans (h : OnlyPixelsLeave s t) (k : OnlyPixelsLeave t u) : OnlyPixelsLeave s u :=
  ⟨k.1.trans h.1, fun _ _ _ m => k.2 _ _ _ (h.2 _ _ _ m)⟩

theorem takeRun_trailers (slot a : Nat) (b : List CaptureItem) {sl : Nat} {ws : List Word} {half : Bool}
    (h : CaptureItem.trailer sl ws half ∈ b) : CaptureItem.trailer sl ws half ∈ (takeRun slot a b).2 := by
  induction b generalizing a with
  | nil => cases h
  | cons x xs ih =>
    cases x with
    | trailer => exact h
    | pixel sl' ad v =>
      unfold takeRun
      split
      · exact ih (a + 1) ((List.mem_cons.1 h).resolve_left nofun)
      · exact h

theorem captGrant_trailers {g : Grant} {rest : List CaptureItem} (h : captGrant s = some (g, rest)) {sl : Nat} {ws : List Word}
    {half : Bool} (m : CaptureItem.trailer sl ws half ∈ s.ccu.buffer) : CaptureItem.trailer sl ws half ∈ rest := by
  unfold captGrant at h
  split at h
  · cases h
  · rename_i slot a b more hb
    obtain ⟨_, rfl⟩ := Prod.mk.inj (Option.some.inj h)
    rw [hb] at m
    exact takeRun_trailers _ _ _ ((List.mem_cons.1 m).resolve_left nofun)
  · rename_i hb
    obtain ⟨_, rfl⟩ := Prod.mk.inj (Option.some.inj h)
    exact hb ▸ m

theorem carryBurst_buffer (c : Client) (s : State) : OnlyPixelsLeave s (carryBurst c s) := by
  have scan (o : Output) (cl : Client) : OnlyPixelsLeave s (match choosePlane (s.scan o).fetch with
      | none => s
      | some p => s.carry (lineGrant s cl o p)) := by
    cases choosePlane (s.scan o).fetch <;> exact .same rfl
  cases c with
  | capt =>
    unfold carryBurst
    dsimp only
    cases h : captGrant s with
    | none => exact .same rfl
    | some g => exact ⟨captGrant_buffer h, fun _ _ _ m => captGrant_trailers h m⟩
  | proc =>
    unfold carryBurst
    dsimp only
    cases s.ppw.tx <;> exact .same rfl
  | serv =>
    unfold carryBurst grantServ
    dsimp only
    split
    · exact .same rfl
    · split
      · exact .same rfl
      · split <;> exact .same rfl
  | scanC => exact scan .ctr .scanC
  | scanL => exact scan .rl .scanL
  | scanR => exact scan .rr .scanR

theorem giveGrant_buffer (p : Client → Bool) (t : Target) (w : Bool) (s : State) : OnlyPixelsLeave s (giveGrant p t w s) := by
  obtain ⟨tag, f, noted⟩ := noteGrant_recount t w s
  unfold giveGrant
  rw [noted]
  cases t with
  | refresh => exact .same rfl
  | client c => exact OnlyPixelsLeave.trans (.same rfl) (carryBurst_buffer c _)

theorem decideFor_buffer (c : Client) (s : State) : OnlyPixelsLeave s (decideFor c s) := by
  unfold decideFor
  dsimp only
  split
  · exact .same rfl
  · exact giveGrant_buffer ..

/-- At the end of a step the arbiter may take pixel bytes from the capture buffer, and nothing else. -/
theorem settle_buffer (s : State) : OnlyPixelsLeave s (settle s) := by
  have withdrawn : OnlyPixelsLeave s (withdrawWaits s) := .same rfl
  unfold settle
  refine withdrawn.trans ?_
  dsimp only
  split
  · split
    · split
      · exact giveGrant_buffer ..
      · exact .same rfl
    · exact decideFor_buffer ..
    · exact OnlyPixelsLeave.trans (.same rfl) (decideFor_buffer _ _)
  all_goals exact .same rfl

end

/-! ### The frame that closes -/

section
variable {c : CamSetup} {s : State} {f : OpenFrame} {i clocks : Nat}

/-- The slots after a boundary: slot `i` stays as the close leaves it where it is not FREE or READY. -/
theorem nextFrame_slot {slots : List Slot} {chosen : Option Nat} {x : Ccu} (hs : x.slots = slots) (hc : chooseSlot x = chosen)
    (held : (slotAt slots i).st ≠ .free ∧ (slotAt slots i).st ≠ .ready) (n : Word) :
    (chosen.elim slots fun j => slots.set j ⟨.writing, n⟩)[i]? = slots[i]? := by
  cases chosen with
  | none => rfl
  | some j =>
    obtain ⟨_, st⟩ := chooseSlot_some hc
    rw [hs] at st
    refine List.getElem?_set_ne fun e => ?_
    rw [e] at st
    exact (not_or.2 held) st

/-- The slot of the frame that closes is CLOSING, or FREE. -/
theorem slotsClosed_slot (ended : endedFrame s = some f) (slot : f.slot = some i) (bound : i < s.ccu.slots.length) :
    (slotsClosed c s)[i]? = some { slotAt s.ccu.slots i with st := if f.valid c then .closing else .free } := by
  unfold slotsClosed closedSlots
  rw [ended, Option.elim_some, slot, Option.elim_some, setSlotState, List.getElem?_modify, slotAt_eq bound,
    List.getElem?_eq_getElem bound]
  exact congrArg some (if_pos rfl)

theorem refComplete_iff (c : CamSetup) (f : OpenFrame) : f.refComplete c = true ↔ f.refBad = false ∧ f.refLines = c.nLines := by
  simp [OpenFrame.refComplete]

end

/-- Two fields packed into a word (R180). -/
theorem pack_two (v w i : Nat) : pack [(v, 0), (w, i)] = BitVec.ofNat 32 (v + w * 2 ^ i) := by
  rw [pack_cons, pack_cons, pack_nil, Nat.pow_zero, Nat.mul_one, add_zero, BitVec.ofNat_add]

theorem pack_one (v : Nat) : pack [(v, 0)] = BitVec.ofNat 32 v := by
  rw [pack_cons, pack_nil, Nat.pow_zero, Nat.mul_one, add_zero]

/-- The trailer's words (R56). -/
theorem trailerWords_eq (c : CamSetup) (f : OpenFrame) (i : Nat) (u : State) : trailerWords c f i u =
    [f.number, BitVec.ofNat 32 i, BitVec.ofNat 32 (c.wc + c.hc * 65536), BitVec.ofNat 32 c.pitch, BitVec.ofNat 32 f.pedestal,
      BitVec.ofNat 32 (if f.refBad = false ∧ f.refLines = c.nLines then refMean c f.refSum + 2147483648 else 0),
      BitVec.ofNat 32 u.ccu.vpd, u.time, if u.ccu.present then 1 else 0] ++ List.replicate 7 0 := by
  have size : c.hc * 2 ^ 16 = c.hc * 65536 := by norm_num
  have mean : pack [(if f.refComplete c then refMean c f.refSum else 0, 0), (ofBool (f.refComplete c), 31)] =
      BitVec.ofNat 32 (if f.refBad = false ∧ f.refLines = c.nLines then refMean c f.refSum + 2147483648 else 0) := by
    rw [pack_two, ← if_congr (refComplete_iff c f) rfl rfl]
    cases f.refComplete c
    · simp [ofBool]
    · simp [ofBool]
  unfold trailerWords
  dsimp only
  rw [pack_two, size, mean, pack_one, ofNat_ofBool]

/-- Settles O23: a valid close and a bad one. -/
theorem frameClose : Obligations.FrameClose := by
  intro clocks s c f0 f i live run setup frame hi bound hf accepted n m done vpd
  have ended : endedFrame s = some f := by
    rw [endedFrame_run run setup, frame, hf]
    rfl
  have slot : f.slot = some i := by
    rw [hf]
    split_ifs
    · rw [lineEnd_slot, hi]
    · exact hi
  have moves : doVsEdge clocks s = openFrame c (closeFrame c (boundary clocks s)) := by
    rw [doVsEdge_boundary accepted, setup, Option.elim_some, if_pos run]
  have answers : exec (.vsEdge clocks) s = .next (settle (openFrame c (closeFrame c (boundary clocks s)))) :=
    (live_eq live).trans (by rw [moves])
  obtain ⟨vpd', buffer, hv, hb, ccu⟩ := nextFrame_ccu clocks c s
  have kept := settle_decided (openFrame c (closeFrame c (boundary clocks s)))
  have items := settle_buffer (openFrame c (closeFrame c (boundary clocks s)))
  have camera := kept.ccu
  have raises := nextFrame_raises clocks c s
  have noted := CameraRaises.raises raises kept
  generalize settle (openFrame c (closeFrame c (boundary clocks s))) = t at answers kept items camera noted
  rw [ccu] at camera
  unfold OnlyPixelsLeave at items
  rw [ccu] at items
  have framed : (boundary clocks s).ccu.frame = some f := by rw [boundary_ccu]; exact ended
  have boundaryVpd : (boundary clocks s).ccu.vpd = s.ccu.vpd := by rw [boundary_ccu]; rfl
  refine ⟨fun lines clean => ?_, fun bad => ?_⟩
  · have valid := (valid_iff c f).2 ⟨lines, clean⟩
    have after : closedVpd c f s.ccu.vpd = vpd := by
      unfold closedVpd vpdAfter refMean
      exact if_congr (refComplete_iff c f) rfl rfl
    rw [closeFrame_valid framed slot valid] at hv hb
    have black : vpd' = vpd := by
      rw [← hv, ← after, ← boundaryVpd]
      rfl
    have closed := slotsClosed_slot (c := c) ended slot bound
    rw [valid, if_pos rfl] at closed
    refine ⟨t, answers, ?_, ?_, ?_⟩
    · rw [camera]
      exact black
    · have held : slotAt (slotsClosed c s) i = { slotAt s.ccu.slots i with st := .closing } := by
        rw [slotAt, List.getD_eq_getElem?_getD, closed]
        rfl
      have stays := nextFrame_slot (i := i) (slots := slotsClosed c s)
        (x := { s.ccu with slots := slotsClosed c s, seen := s.ccu.seen + 1 }) rfl rfl
        (by rw [held]; exact ⟨nofun, nofun⟩) (s.ccu.seen + 1)
      rw [camera]
      exact congrArg (Option.map Slot.st) (stays.trans closed)
    · refine items.2 _ _ _ ?_
      show _ ∈ buffer
      have present : (boundary clocks s).ccu.present = true := by rw [boundary_ccu]; rfl
      have time : (boundary clocks s).time = s.time := by
        obtain ⟨_, h⟩ := boundary_raises clocks s
        rw [h]
      rw [← hb, ← after, ← boundaryVpd, ← time]
      refine List.mem_append_right _ (List.mem_singleton.2 ?_)
      rw [trailerWords_eq, State.setCcu_ccu]
      dsimp only
      rw [present]
      rfl
  · have bad' : f.valid c = false := Bool.eq_false_iff.2 fun k => bad ((valid_iff c f).1 k)
    rw [closeFrame_bad framed slot bad'] at hv hb
    refine ⟨t, answers, ?_, ?_, ?_, ?_⟩
    · rw [camera]
      exact hv.symm.trans boundaryVpd
    · have reported : ⟨.camBad, badReason f.mark, f.number &&& 0xFFFF⟩ ∈ closeRaises c (endedFrame s) := by
        unfold closeRaises
        rw [ended, Option.elim_some, if_neg (by rw [slot, bad']; simp)]
        exact List.mem_cons_self
      rw [noted]
      exact pending_of_mem (r := ⟨.camBad, badReason f.mark, f.number &&& 0xFFFF⟩)
        (List.mem_append_left _ (List.mem_append_right _ reported))
    · intro a b m
      have discarded : CaptureItem.pixel i a b ∈ discardPixels i (boundary clocks s).ccu.buffer := by
        have m' : CaptureItem.pixel i a b ∈ buffer := items.1.subset m
        rw [← hb] at m'
        exact m'
      have := (List.mem_filter.1 discarded).2
      simp at this
    · rw [camera]
      generalize hc : chooseSlot { s.ccu with slots := slotsClosed c s, seen := s.ccu.seen + 1 } = chosen
      have freed := slotsClosed_slot (c := c) ended slot bound
      rw [bad', if_neg Bool.false_ne_true] at freed
      show Option.map Slot.st ((chosen.elim (slotsClosed c s) fun j => (slotsClosed c s).set j ⟨.writing, s.ccu.seen + 1⟩)[i]?) ≠ _
      cases chosen with
      | none =>
        rw [Option.elim_none, freed]
        exact nofun
      | some j =>
        rw [Option.elim_some, List.getElem?_set, freed]
        split_ifs <;> exact nofun

end Sys2Proof.Proofs
end

section
/-! PROOFS. Capture start and stop, CAMERA_ENABLE, the presence expiry, a trailer written (R42, R45, R46, R56, R130). -/

namespace Sys2Proof.Proofs

open Sys2Proof.Machine Sys2Proof.Safety

/-! ### The port's part of a capture start (R130) -/

section
variable {s : State} {q : Request} {c : CamSetup}

theorem procGranted_iff (s : State) : s.procGranted = true ↔ s.burst = some .procWrite ∨ ∃ ws, s.burst = some (.procRead ws) := by
  unfold State.procGranted
  cases s.burst with
  | none => simp
  | some b => cases b <;> simp

/-- The write in progress that a capture start looks at is not granted. -/
theorem captureHit_write (port : s.ppw.port = .pending) (tx : s.ppw.tx = some q) (write : q.write = true)
    (waits : s.procGranted = false) : s.captureHit = (requestWords q).find? s.inCaptureArea := by
  simp only [State.captureHit, port, tx, write, waits, Bool.not_true, Bool.or_false, Bool.false_eq_true, if_false]

theorem captureHit_granted (h : s.procGranted = true) : s.captureHit = none := by
  unfold State.captureHit
  split
  · rw [h, Bool.or_true]
    rfl
  · rfl

/-- The port is left alone where no write waits for its grant. -/
theorem captureHit_idle (h : ∀ q, s.ppw.port = .pending → s.ppw.tx = some q → q.write = true → s.procGranted = true ∨
    (requestWords q).find? s.inCaptureArea = none) : s.captureHit = none := by
  unfold State.captureHit
  split
  · rename_i q port tx
    split_ifs with plain
    · rfl
    · obtain ⟨write, waits⟩ : q.write = true ∧ s.procGranted = false := by simpa using plain
      exact (h q port tx write).resolve_left (by rw [waits]; decide)
  · rfl

theorem landGrantedWrite_write (h : s.burst = some .procWrite) (tx : s.ppw.tx = some q) :
    landGrantedWrite s = { s with mem := writeCells s.mem (requestCells (q.wordAddr.toNat * 4) q.data) } := by
  simp only [landGrantedWrite, h, tx]
  rfl

theorem landGrantedWrite_other (h : s.burst ≠ some .procWrite) : landGrantedWrite s = s := by
  unfold landGrantedWrite
  split
  · rename_i k _
    exact absurd k h
  · rfl

theorem dropAtCaptureStart_none (h : s.captureHit = none) : dropAtCaptureStart s = (landGrantedWrite s, []) := by
  simp only [dropAtCaptureStart, h]

/-- The transaction in progress is dropped, answered by the response of the capture area. -/
def dropped (s : State) : State :=
  { s with ppw := { s.ppw with port := .free, tx := none, response := some ⟨!(s.ccu.setup.map CamSetup.fault).getD false, []⟩ } }

theorem dropAtCaptureStart_some {a : Nat} (h : s.captureHit = some a) : dropAtCaptureStart s =
    (if s.fma.mon.st = .tagged then (dropped s).setMon { s.fma.mon with st := .armed, tag := Reset.tag }
      else countCompletion (dropped s), [⟨.guardHit, BitVec.ofNat 32 a, 9⟩]) := by
  simp only [dropAtCaptureStart, h, dropTag]
  split_ifs <;> rfl

theorem inCaptureArea_iff (setup : s.ccu.setup = some c) (a : Nat) :
    s.inCaptureArea a = true ↔ c.base ≤ a ∧ a < c.base + c.slots * 1048576 := by
  unfold State.inCaptureArea
  rw [setup]
  show (decide (c.base ≤ a) && decide (a < c.base + c.slots * 1048576)) = true ↔ _
  rw [Bool.and_eq_true, decide_eq_true_eq, decide_eq_true_eq]

/-- The lowest word of a request with a property. -/
theorem requestWords_find {p : Nat → Bool} {i : Nat} (hi : i < q.len) (h : p (q.wordAddr.toNat * 4 + 4 * i) = true)
    (first : ∀ j < i, p (q.wordAddr.toNat * 4 + 4 * j) = false) :
    (requestWords q).find? p = some (q.wordAddr.toNat * 4 + 4 * i) := by
  have found : (List.range q.len).find? (p ∘ fun i => requestAddr q + 4 * i) = some i :=
    List.find?_range_eq_some.2 ⟨h, List.mem_range.2 hi, fun j hj => by rw [Bool.not_eq_true']; exact first j hj⟩
  rw [requestWords, List.find?_map, found]
  rfl

theorem requestWords_find_none {p : Nat → Bool} (h : ∀ i < q.len, p (q.wordAddr.toNat * 4 + 4 * i) = false) :
    (requestWords q).find? p = none := by
  refine List.find?_eq_none.2 fun a ha => ?_
  obtain ⟨i, hi, rfl⟩ := List.mem_map.1 ha
  exact Bool.eq_false_iff.1 (h i (List.mem_range.1 hi))

end

/-! ### Capture start and stop (R46) -/

section
variable {s : State}

/-- The state at a capture start: no frame is open. -/
def cleared (s : State) : State := { s with ccu := { s.ccu with frame := none }, seu := { s.seu with dirty := true } }

theorem startCapture_eq (s : State) : startCapture s = dropAtCaptureStart (cleared s) := rfl

theorem startCapture_drops {c : CamSetup} {q : Request} {i : Nat} (setup : s.ccu.setup = some c) (port : s.ppw.port = .pending)
    (tx : s.ppw.tx = some q) (write : q.write = true) (waits : s.procGranted = false) (hi : i < q.len)
    (inside : c.base ≤ q.wordAddr.toNat * 4 + 4 * i ∧ q.wordAddr.toNat * 4 + 4 * i < c.base + c.slots * 1048576)
    (first : ∀ j < i, ¬(c.base ≤ q.wordAddr.toNat * 4 + 4 * j ∧ q.wordAddr.toNat * 4 + 4 * j < c.base + c.slots * 1048576)) :
    startCapture s = (if s.fma.mon.st = .tagged then (dropped (cleared s)).setMon { s.fma.mon with st := .armed, tag := Reset.tag }
      else countCompletion (dropped (cleared s)), [⟨.guardHit, BitVec.ofNat 32 (q.wordAddr.toNat * 4 + 4 * i), 9⟩]) := by
  have area := inCaptureArea_iff (s := cleared s) setup
  have hit : (cleared s).captureHit = some (q.wordAddr.toNat * 4 + 4 * i) := by
    rw [captureHit_write (s := cleared s) port tx write waits]
    exact requestWords_find hi ((area _).2 inside) fun j hj => Bool.eq_false_iff.2 fun k => first j hj ((area _).1 k)
  rw [startCapture_eq, dropAtCaptureStart_some hit]
  rfl

theorem startCapture_lands {q : Request} (h : s.burst = some .procWrite) (tx : s.ppw.tx = some q) : startCapture s =
    ({ cleared s with mem := writeCells s.mem (requestCells (q.wordAddr.toNat * 4) q.data) }, []) := by
  have granted : (cleared s).procGranted = true := (procGranted_iff s).2 (.inl h)
  rw [startCapture_eq, dropAtCaptureStart_none (captureHit_granted granted), landGrantedWrite_write (s := cleared s) h tx]
  rfl

theorem startCapture_plain (h : s.burst ≠ some .procWrite) (idle : (cleared s).captureHit = none) :
    startCapture s = (cleared s, []) := by
  rw [startCapture_eq, dropAtCaptureStart_none idle, landGrantedWrite_other (s := cleared s) h]

theorem stopCapture_none (h : s.ccu.frame = none) : stopCapture s = { s with seu := { s.seu with dirty := true } } := by
  simp only [stopCapture, h]
  rfl

theorem stopCapture_noSlot {f : OpenFrame} (h : s.ccu.frame = some f) (hf : f.slot = none) :
    stopCapture s = { s with seu := { s.seu with dirty := true }, ccu := { s.ccu with frame := none } } := by
  simp only [stopCapture, h, hf]
  rfl

theorem stopCapture_slot {f : OpenFrame} {i : Nat} (h : s.ccu.frame = some f) (hf : f.slot = some i) :
    stopCapture s = { s with seu := { s.seu with dirty := true }, ccu := { s.ccu with
      frame := none, slots := setSlotState s.ccu.slots i .free, buffer := discardPixels i s.ccu.buffer } } := by
  simp only [stopCapture, h, hf]
  rfl

end

/-! ### CAMERA_ENABLE (R45) -/

/-- Whether a processor burst holds the memory does not change as another burst ends. -/
def NoPort (m : MemState) : Prop :=
  ∀ g, m = .data g → g.ended = false → g.burst ≠ .procWrite ∧ ∀ ws, g.burst ≠ .procRead ws

section
variable {scn : PerOutput Scan} {cmu : Cmu} {mem : MemState} {d : Bool} {s : State}

theorem noPort_burst (h : NoPort s.fma.memory) : s.procGranted = false ∧ s.burst ≠ some .procWrite := by
  have none : s.burst ≠ some .procWrite ∧ ∀ ws, s.burst ≠ some (.procRead ws) := by
    unfold State.burst
    cases hm : s.fma.memory with
    | data g =>
      dsimp only
      split_ifs with ended
      · exact ⟨nofun, nofun⟩
      · obtain ⟨write, read⟩ := h g hm (Bool.eq_false_iff.2 ended)
        exact ⟨fun k => write (Option.some.inj k), fun ws k => read ws (Option.some.inj k)⟩
    | _ => exact ⟨nofun, nofun⟩
  refine ⟨Bool.eq_false_iff.2 fun k => ?_, none.1⟩
  rcases (procGranted_iff s).1 k with k | ⟨ws, k⟩
  · exact none.1 k
  · exact none.2 ws k

theorem beside_dropAtCaptureStart (h : NoPort s.fma.memory) (h' : NoPort mem) :
    dropAtCaptureStart (beside scn cmu mem d s) = (beside scn cmu mem d (dropAtCaptureStart s).1, (dropAtCaptureStart s).2) := by
  obtain ⟨waits, noWrite⟩ := noPort_burst h
  obtain ⟨waits', noWrite'⟩ := noPort_burst (s := beside scn cmu mem d s) h'
  have hit : (beside scn cmu mem d s).captureHit = s.captureHit := by
    have port : (beside scn cmu mem d s).ppw = s.ppw := rfl
    have area : (beside scn cmu mem d s).inCaptureArea = s.inCaptureArea := rfl
    unfold State.captureHit
    rw [port, area, waits, waits']
  cases found : s.captureHit with
  | none =>
    rw [dropAtCaptureStart_none found, dropAtCaptureStart_none (hit.trans found), landGrantedWrite_other noWrite,
      landGrantedWrite_other noWrite']
  | some a =>
    rw [dropAtCaptureStart_some found, dropAtCaptureStart_some (hit.trans found)]
    refine congrArg₂ Prod.mk ?_ rfl
    have monitor : (beside scn cmu mem d s).fma.mon = s.fma.mon := rfl
    have counting : countCompletion (dropped (beside scn cmu mem d s)) = beside scn cmu mem d (countCompletion (dropped s)) := by
      have monitor' : (dropped (beside scn cmu mem d s)).fma.mon = (dropped s).fma.mon := rfl
      unfold countCompletion
      rw [monitor']
      dsimp only
      split_ifs <;> rfl
    rw [monitor, counting]
    split_ifs <;> rfl

theorem beside_startCapture (h : NoPort s.fma.memory) (h' : NoPort mem) :
    startCapture (beside scn cmu mem d s) = (beside scn cmu mem d (startCapture s).1, (startCapture s).2) := by
  have clear : cleared (beside scn cmu mem d s) = beside scn cmu mem d (cleared s) := rfl
  rw [startCapture_eq, clear, beside_dropAtCaptureStart (s := cleared s) h h']
  rfl

theorem beside_stopCapture (s : State) : stopCapture (beside scn cmu mem d s) = beside scn cmu mem d (stopCapture s) := by
  cases hf : s.ccu.frame with
  | none =>
    rw [stopCapture_none hf, stopCapture_none (s := beside scn cmu mem d s) hf]
    rfl
  | some f =>
    cases hi : f.slot with
    | none =>
      rw [stopCapture_noSlot hf hi, stopCapture_noSlot (s := beside scn cmu mem d s) hf hi]
      rfl
    | some i =>
      rw [stopCapture_slot hf hi, stopCapture_slot (s := beside scn cmu mem d s) hf hi]
      rfl

theorem beside_raise (k : EvKind) (x a : Word) (s : State) :
    raise k x a (beside scn cmu mem false s) = beside scn cmu mem false (raise k x a s) := by
  have events : (beside scn cmu mem false s).seu = s.seu := by
    show ({ s.seu with dirty := s.seu.dirty || false } : Seu) = s.seu
    rw [Bool.or_false]
  have same : (raise k x a (beside scn cmu mem false s)).seu = (raise k x a s).seu := raise_seu_congr events rfl k x a
  rw [raise_eq, same, raise_eq k x a s]
  unfold beside
  simp only [Bool.or_false]

theorem beside_raiseAll (rs : List Raise) (s : State) :
    raiseAll rs (beside scn cmu mem false s) = beside scn cmu mem false (raiseAll rs s) := by
  induction rs generalizing s with
  | nil => rfl
  | cons r rs ih =>
    show raiseAll rs (raise r.kind r.detail r.aux (beside scn cmu mem false s)) = _
    rw [beside_raise, ih]
    rfl

/-- A capture start touches the frame, the port, the SDRAM and the monitor. -/
theorem startCapture_only (s : State) : ∃ m ppw mon d, (startCapture s).1 =
    { s with mem := m, ppw := ppw, fma := { s.fma with mon := mon }, ccu := { s.ccu with frame := none }, seu := { s.seu with dirty := d } } := by
  rw [startCapture_eq]
  cases hit : (cleared s).captureHit with
  | none =>
    rw [dropAtCaptureStart_none hit]
    unfold landGrantedWrite
    split <;> exact ⟨_, _, s.fma.mon, _, rfl⟩
  | some a =>
    rw [dropAtCaptureStart_some hit]
    unfold countCompletion
    dsimp only
    split_ifs <;> exact ⟨_, _, _, _, rfl⟩

theorem stopCapture_only (s : State) : ∃ ccu, stopCapture s = { s with ccu := ccu, seu := { s.seu with dirty := true } } := by
  cases hf : s.ccu.frame with
  | none =>
    rw [stopCapture_none hf]
    exact ⟨_, rfl⟩
  | some f =>
    cases hi : f.slot with
    | none =>
      rw [stopCapture_noSlot hf hi]
      exact ⟨_, rfl⟩
    | some i =>
      rw [stopCapture_slot hf hi]
      exact ⟨_, rfl⟩

end

/-- The arrival of a record copies its fields and ends its burst. -/
theorem arriveAs_beside (k : Byte) (r : Rec) (s : State) :
    arriveAs k r s = beside s.scn { s.cmu with cmd := ⟨k, r⟩ } (endedMemory s.fma.memory) false s := by
  rw [arriveAs_eq]
  unfold beside
  rw [Bool.or_false]

/-- What leaves the scanout units, the command in execution and the memory's holder alone, and reads none of them, may come before
or after a record's arrival. -/
theorem arriveAs_commutes {f : State → State} {k : Byte} {r : Rec} {s : State} (scn : (f s).scn = s.scn) (cmu : (f s).cmu = s.cmu)
    (mem : (f s).fma.memory = s.fma.memory)
    (h : f (beside s.scn { s.cmu with cmd := ⟨k, r⟩ } (endedMemory s.fma.memory) false s) =
      beside s.scn { s.cmu with cmd := ⟨k, r⟩ } (endedMemory s.fma.memory) false (f s)) :
    arriveAs k r (f s) = f (arriveAs k r s) := by
  rw [arriveAs_beside, arriveAs_beside, h, scn, cmu, mem]

/-- Where a record arrives no processor burst holds the memory. -/
theorem arrives_noPort {s : State} (h : Arrives s) : NoPort s.fma.memory := by
  intro g hm running
  have flight := h.2
  unfold State.recordInFlight State.burst at flight
  rw [hm] at flight
  dsimp only at flight
  rw [running, if_neg Bool.false_ne_true] at flight
  refine ⟨fun k => ?_, fun ws k => ?_⟩ <;> rw [k] at flight <;> simp at flight

theorem ended_noPort (m : MemState) : NoPort (endedMemory m) := by
  intro g hm running
  cases m with
  | data x =>
    rw [← MemState.data.inj hm] at running
    cases running
  | _ => cases hm

section
variable {r : Rec} {s : State}

theorem doCameraEnable_unset (on : r.op1.getLsbD 0 = true) (h : s.ccu.setup = none) :
    doCameraEnable r s = finish resWrongState 0 s := by
  have on' : flag r.op1 0 = true := on
  simp [doCameraEnable, on', h]

theorem doCameraEnable_reversing (off : r.op1.getLsbD 0 = false) (h : s.rvc.st ≠ .normal) :
    doCameraEnable r s = finish resWrongState 0 s := by
  have off' : flag r.op1 0 = false := off
  simp [doCameraEnable, off', (reversing_iff s).2 h]

theorem doCameraEnable_takes (h : (r.op1.getLsbD 0 = true ∧ s.ccu.setup ≠ none) ∨ (r.op1.getLsbD 0 = false ∧ s.rvc.st = .normal)) :
    doCameraEnable r s =
      finish resDone 0 (raised (syncCapture s.capturing (s.setCcu { s.ccu with enable := r.op1.getLsbD 0 }).markDirty)) := by
  have flag_eq : flag r.op1 0 = r.op1.getLsbD 0 := rfl
  unfold doCameraEnable
  rw [flag_eq]
  dsimp only
  rcases h with ⟨on, setup⟩ | ⟨off, normal⟩
  · rw [on, if_neg (by simpa using setup), if_neg (by simp)]
  · rw [off, if_neg (by simp), if_neg (by simp [(reversing_eq_false_iff s).2 normal])]

end

theorem capturing_iff (s : State) : s.capturing = true ↔ s.ccu.setup ≠ none ∧ (s.ccu.enable = true ∨ s.rvc.st ≠ .normal) := by
  rw [← reversing_iff, State.capturing, Bool.and_eq_true, Bool.or_eq_true, Option.isSome_iff_ne_none]

/-- Capture that the enable starts or stops (R45, R46). -/
theorem syncCapture_starts {s : State} (h : s.capturing = true) : syncCapture false s = startCapture s := by
  simp [syncCapture, h]

theorem syncCapture_stops {s : State} (h : s.capturing = false) : syncCapture true s = (stopCapture s, []) := by
  simp [syncCapture, h]

section
variable {k : Byte} {r : Rec} {s : State}

theorem arriveAs_startCapture (h : NoPort s.fma.memory) :
    arriveAs k r (raised (startCapture s)) = raised (startCapture (arriveAs k r s)) := by
  obtain ⟨m, ppw, mon, d, only⟩ := startCapture_only s
  refine arriveAs_commutes (f := fun x => raised (startCapture x)) ?_ ?_ ?_ ?_
  · rw [raised_eq, only]
  · rw [raised_eq, only]
  · rw [raised_eq, only]
  · dsimp only
    rw [beside_startCapture h (ended_noPort _)]
    exact beside_raiseAll _ _

theorem arriveAs_stopCapture (s : State) : arriveAs k r (stopCapture s) = stopCapture (arriveAs k r s) := by
  obtain ⟨ccu, only⟩ := stopCapture_only s
  refine arriveAs_commutes ?_ ?_ ?_ (beside_stopCapture s) <;> rw [only]

end

theorem stopCapture_markDirty (s : State) : stopCapture s.markDirty = stopCapture s := by
  unfold stopCapture
  dsimp only [State.markDirty_ccu]
  split
  · rfl
  · split <;> rfl

theorem trailerOver_eq {s : State} {ws all : List Word} {slot : Nat} {half : Bool} {rest : List CaptureItem}
    (h : s.burst = some (.trailer true ws)) (items : s.ccu.buffer = .trailer slot all half :: rest) :
    trailerOver s = markEnded { s with
      mem := writeWords s.mem s.burstAddr ws,
      ccu := { s.ccu with buffer := rest, accepted := s.ccu.accepted + 1,
                          slots := s.ccu.slots.modify slot fun x => { x with st := .ready } },
      seu := { s.seu with dirty := true } } := by
  simp only [trailerOver, h, items]
  rw [markEnded_state, markEnded_state]
  rfl

/-- Settles O24: CAMERA_ENABLE by its table; what a stop and a start do; the presence expiry; the end of a trailer. -/
theorem cameraEnableAndClosings : Obligations.CameraEnableAndClosings := by
  refine ⟨⟨capturing_iff, fun phase straps mem rev rlp rrp waiting free pending => ⟨rfl, rfl, rfl⟩, fun r s ha on hon => ?_⟩,
    ⟨fun s f hf => ⟨fun hi => stopCapture_noSlot hf hi, fun i hi => stopCapture_slot hf hi⟩, fun s hf => stopCapture_none hf,
      fun s => ?_⟩, fun s live due => ?_, fun s ws all slot half rest live inside burst items =>
        answers_of_liveBurst rfl live inside (trailerOver_eq burst items)⟩
  · subst hon
    intro u
    have ccu : (arriveAs 16 r s).ccu = s.ccu := by rw [arriveAs_eq]
    have rvc : (arriveAs 16 r s).rvc = s.rvc := by rw [arriveAs_eq]
    have run : (arriveAs 16 r s).capturing = s.capturing := by rw [arriveAs_eq]; rfl
    have set : (arriveAs 16 r s).setCcu { (arriveAs 16 r s).ccu with enable := r.op1.getLsbD 0 } = arriveAs 16 r u := by
      rw [arriveAs_eq, arriveAs_eq]
      rfl
    have goes (h : (r.op1.getLsbD 0 = true ∧ s.ccu.setup ≠ none) ∨ (r.op1.getLsbD 0 = false ∧ s.rvc.st = .normal)) {v : State}
        (hv : finish resDone 0 (raised (syncCapture s.capturing (arriveAs 16 r u).markDirty)) = finish resDone 0 (arriveAs 16 r v)) :
        Answers (.cameraEnable r) s (completed 16 r resDone 0 v) := by
      refine answers_of_arrival rfl ha ((doCameraEnable_takes (by rw [ccu, rvc]; exact h)).trans ?_)
      rw [run, set, hv]
      rfl
    have now : (arriveAs 16 r u).markDirty.capturing = u.capturing := by rw [arriveAs_eq]; rfl
    refine ⟨fun _ unset => answers_refused rfl ha (doCameraEnable_unset (by assumption) (by rw [ccu]; exact unset)),
      fun on setup => goes (.inl ⟨on, setup⟩) ?_,
      fun off reversing => answers_refused rfl ha (doCameraEnable_reversing off (by rw [rvc]; exact reversing)),
      fun off normal => goes (.inr ⟨off, normal⟩) ?_⟩
    · have running : u.capturing = true := (capturing_iff u).2 ⟨setup, .inl on⟩
      by_cases was : s.capturing = true
      · rw [if_pos was, was, syncCapture_same (now.trans running)]
        rfl
      · rw [if_neg was, Bool.eq_false_iff.2 was, syncCapture_starts (now.trans running), arriveAs_startCapture (s := u) (arrives_noPort ha)]
        rfl
    · have stopped : u.capturing = false := Bool.eq_false_iff.2 fun k => by
        rcases ((capturing_iff u).1 k).2 with enabled | reversing
        · rw [show u.ccu.enable = false from off] at enabled
          cases enabled
        · exact reversing normal
      by_cases was : s.capturing = true
      · rw [if_pos was, was, syncCapture_stops (now.trans stopped), stopCapture_markDirty, arriveAs_stopCapture]
        rfl
      · rw [if_neg was, Bool.eq_false_iff.2 was, syncCapture_same (now.trans stopped)]
        rfl
  · intro cleared' word inside granted
    have isGranted : s.procGranted = true ↔ granted := procGranted_iff s
    refine ⟨fun c q i setup port tx write waits hi hin first => ?_, fun q burst tx => startCapture_lands burst tx,
      fun burst idle => startCapture_plain burst ?_⟩
    · intro done
      have answered : dropped (cleared s) = done := by
        unfold dropped
        rw [show (cleared s).ccu.setup = some c from setup]
        rfl
      rw [startCapture_drops setup port tx write (Bool.eq_false_iff.2 (mt isGranted.1 waits)) hi hin first, answered]
    · refine captureHit_idle fun q port tx write => ?_
      cases setup : s.ccu.setup with
      | none =>
        refine .inr (requestWords_find_none fun i _ => ?_)
        unfold State.inCaptureArea
        rw [show (cleared s).ccu.setup = none from setup]
        rfl
      | some c =>
        rcases idle c q setup port tx write with done | outside
        · exact .inl (isGranted.2 done)
        · exact .inr (requestWords_find_none fun i hi =>
            Bool.eq_false_iff.2 fun k => outside i hi ((inCaptureArea_iff (s := cleared s) setup _).1 k))
  · refine answers_of_live rfl live ?_
    unfold presenceExpiry
    rw [if_pos due]
    rfl

end Sys2Proof.Proofs
end

section
/-! PROOFS. The records and tables that commands read: every field from its place, and the checks (R43, R82 to R85, R101, R103, R116,
R126, R128, R179). -/

namespace Sys2Proof.Proofs

open Sys2Proof.Machine Sys2Proof.Safety

/-- A record passes exactly where its checks hold. -/
theorem passes_iff {α : Type} {p q : Prop} [Decidable p] {x : α} (h : p ↔ q) :
    (q → (if p then some x else none) = some x) ∧ (¬q → (if p then some x else none) = none) :=
  ⟨fun k => if_pos (h.2 k), fun k => if_neg (mt h.1 k)⟩

theorem field_lt (w : Word) (lo len : Nat) : field w lo len < 2 ^ len := Nat.mod_lt _ (Nat.two_pow_pos len)

/-! ### The camera setup record (R43) -/

section
variable (ws : List Word)

/-- The camera setup of a record whose mode is `m`. -/
def camRecord (m : PedestalMode) : CamSetup :=
  { wl := field (wordAt ws 0) 0 16, lc := field (wordAt ws 1) 0 16, hc := field (wordAt ws 1) 16 16,
    pc := field (wordAt ws 2) 0 16, wc := field (wordAt ws 2) 16 16, lr := field (wordAt ws 3) 0 16,
    nLines := field (wordAt ws 3) 16 8, nSamples := field (wordAt ws 3) 24 8, mode := m,
    fixedPedestal := field (wordAt ws 4) 8 8, targetBlack := field (wordAt ws 4) 16 8,
    slots := field (wordAt ws 5) 0 8, fault := decide (field (wordAt ws 5) 8 8 = 1), base := (wordAt ws 6).toNat }

/-- The checks of R43 in the model's grouping. -/
abbrev CamChecks (memSize caBase response : Nat) (c : CamSetup) : Prop :=
  (64 ≤ c.wl ∧ c.wl ≤ 1280 ∧ c.wl % 2 = 0) ∧ (1 ≤ c.lc ∧ c.lc ≤ 1023 ∧ 48 ≤ c.hc ∧ c.hc ≤ 720) ∧
    (c.pc % 2 = 0 ∧ 64 ≤ c.wc ∧ c.wc ≤ 1280 ∧ c.wc % 2 = 0 ∧ c.pc + c.wc ≤ c.wl) ∧
    ((c.nLines = 1 ∨ c.nLines = 2 ∨ c.nLines = 4) ∧ c.lr + c.nLines ≤ c.lc) ∧
    ((c.nSamples = 16 ∨ c.nSamples = 32 ∨ c.nSamples = 64) ∧ c.pc + c.nSamples ≤ c.wl) ∧ c.targetBlack ≤ 64 ∧
    (c.slots = 4 ∨ c.slots = 8) ∧ c.pitch * c.hc ≤ 1048512 ∧
    (c.base % Config.mib = 0 ∧ c.base + c.slots * Config.mib ≤ memSize ∧
      (caBase + Config.unit64k ≤ c.base ∨ c.base + c.slots * Config.mib ≤ caBase)) ∧ response ≤ 1

/-- The pedestal mode of a code. -/
def modeOf (code : Nat) : Option PedestalMode :=
  match code with
  | 0 => some .none
  | 1 => some .fixed
  | 2 => some .tracking
  | _ => none

theorem modeOf_eq (code : Nat) : modeOf code =
    if code ≤ 2 then some (if code = 0 then .none else if code = 1 then .fixed else .tracking) else none := by
  match code with
  | 0 | 1 | 2 => rfl
  | n + 3 =>
    rw [if_neg (by omega)]
    rfl

theorem camSetupOf_eq (m ca : Nat) : camSetupOf m ca ws = (modeOf (field (wordAt ws 4) 0 8)).bind fun mode =>
    if CamChecks m ca (field (wordAt ws 5) 8 8) (camRecord ws mode) then some (camRecord ws mode) else none := rfl

end

theorem camSetup_checks (m ca : Nat) (ws : List Word) (c : CamSetup) (hc : c = camRecord ws (if field (wordAt ws 4) 0 8 = 0 then .none
    else if field (wordAt ws 4) 0 8 = 1 then .fixed else .tracking)) :
    let good := (64 ≤ c.wl ∧ c.wl ≤ 1280 ∧ c.wl % 2 = 0) ∧ (1 ≤ c.lc ∧ c.lc ≤ 1023) ∧ (48 ≤ c.hc ∧ c.hc ≤ 720) ∧
      (c.pc % 2 = 0 ∧ 64 ≤ c.wc ∧ c.wc ≤ 1280 ∧ c.wc % 2 = 0 ∧ c.pc + c.wc ≤ c.wl) ∧
      (c.nLines = 1 ∨ c.nLines = 2 ∨ c.nLines = 4) ∧ c.lr + c.nLines ≤ c.lc ∧
      (c.nSamples = 16 ∨ c.nSamples = 32 ∨ c.nSamples = 64) ∧ c.pc + c.nSamples ≤ c.wl ∧ field (wordAt ws 4) 0 8 ≤ 2 ∧
      c.targetBlack ≤ 64 ∧ (c.slots = 4 ∨ c.slots = 8) ∧ (2 * c.wc + 63) / 64 * 64 * c.hc ≤ 1048512 ∧ c.base % 1048576 = 0 ∧
      c.base + c.slots * 1048576 ≤ m ∧ (ca + 65536 ≤ c.base ∨ c.base + c.slots * 1048576 ≤ ca) ∧ field (wordAt ws 5) 8 8 ≤ 1
    (good → camSetupOf m ca ws = some c) ∧ (¬good → camSetupOf m ca ws = none) := by
  intro good
  rw [camSetupOf_eq, modeOf_eq]
  by_cases mode : field (wordAt ws 4) 0 8 ≤ 2
  · rw [if_pos mode, Option.bind_some, ← hc]
    refine passes_iff ⟨?_, ?_⟩
    · rintro ⟨wl, ⟨lc, lc', hc⟩, crop, ⟨lines, top⟩, ⟨samples, left⟩, black, slots, pitch, ⟨aligned, fits, apart⟩, response⟩
      exact ⟨wl, ⟨lc, lc'⟩, hc, crop, lines, top, samples, left, mode, black, slots, pitch, aligned, fits, apart, response⟩
    · rintro ⟨wl, ⟨lc, lc'⟩, hc, crop, lines, top, samples, left, _, black, slots, pitch, aligned, fits, apart, response⟩
      exact ⟨wl, ⟨lc, lc', hc⟩, crop, ⟨lines, top⟩, ⟨samples, left⟩, black, slots, pitch, ⟨aligned, fits, apart⟩, response⟩
  · rw [if_neg mode]
    refine ⟨fun h => absurd ?_ mode, fun _ => rfl⟩
    obtain ⟨_, _, _, _, _, _, _, _, low, _⟩ := h
    exact low

/-! ### The guard table (R126, R128) -/

/-- The guard range of an entry with a condition. -/
def guardRecord (ws : List Word) (i : Nat) (c : Condition) : GuardRange :=
  { base := wordAt ws (2 * i), length := BitVec.ofNat 16 (field (wordAt ws (2 * i + 1)) 0 16),
    response := BitVec.ofNat 8 (field (wordAt ws (2 * i + 1)) 16 8), cond := c }

/-- The checks of R128 on an entry that is not OFF. -/
abbrev GuardChecks (memSize caBase : Nat) (r : GuardRange) : Prop :=
  r.base.toNat % Config.unit64k = 0 ∧ (1 ≤ r.length.toNat ∧ r.length.toNat ≤ 2048) ∧
    r.base.toNat + r.length.toNat * Config.unit64k ≤ memSize ∧
    (caBase + Config.unit64k ≤ r.base.toNat ∨ r.base.toNat + r.length.toNat * Config.unit64k ≤ caBase) ∧ r.response.toNat ≤ 1

section
variable (m ca i : Nat) (ws : List Word)

theorem guardEntryOf_off (h : field (wordAt ws (2 * i + 1)) 24 8 = 0) : guardEntryOf m ca ws i = some (guardRecord ws i .off) := by
  unfold guardEntryOf
  dsimp only
  rw [h]
  rfl

theorem guardEntryOf_on {c : Condition} (h : (field (wordAt ws (2 * i + 1)) 24 8 = 1 ∧ c = .always) ∨
    (field (wordAt ws (2 * i + 1)) 24 8 = 2 ∧ c = .reverse)) : guardEntryOf m ca ws i =
      if GuardChecks m ca (guardRecord ws i c) then some (guardRecord ws i c) else none := by
  unfold guardEntryOf
  dsimp only
  rcases h with ⟨h, rfl⟩ | ⟨h, rfl⟩
  · rw [h]
    rfl
  · rw [h]
    rfl

theorem guardEntryOf_wrong (h : 2 < field (wordAt ws (2 * i + 1)) 24 8) : guardEntryOf m ca ws i = none := by
  unfold guardEntryOf
  dsimp only
  split
  · omega
  · omega
  · omega
  · rfl

theorem guardChecks_iff (c : Condition) : GuardChecks m ca (guardRecord ws i c) ↔
    (wordAt ws (2 * i)).toNat % 65536 = 0 ∧ (1 ≤ field (wordAt ws (2 * i + 1)) 0 16 ∧ field (wordAt ws (2 * i + 1)) 0 16 ≤ 2048) ∧
      (wordAt ws (2 * i)).toNat + field (wordAt ws (2 * i + 1)) 0 16 * 65536 ≤ m ∧
      (ca + 65536 ≤ (wordAt ws (2 * i)).toNat ∨
        (wordAt ws (2 * i)).toNat + field (wordAt ws (2 * i + 1)) 0 16 * 65536 ≤ ca) ∧
      field (wordAt ws (2 * i + 1)) 16 8 ≤ 1 := by
  have length : (guardRecord ws i c).length.toNat = field (wordAt ws (2 * i + 1)) 0 16 := by
    rw [guardRecord, BitVec.toNat_ofNat]
    exact Nat.mod_eq_of_lt (field_lt _ 0 16)
  have response : (guardRecord ws i c).response.toNat = field (wordAt ws (2 * i + 1)) 16 8 := by
    rw [guardRecord, BitVec.toNat_ofNat]
    exact Nat.mod_eq_of_lt (field_lt _ 16 8)
  rw [GuardChecks, length, response]
  rfl

end

/-! ### The guide records (R82 to R85) -/

theorem wordAt_take {i n : Nat} (h : i < n) (ws : List Word) : wordAt (ws.take n) i = wordAt ws i := by
  rw [wordAt, wordAt, List.getD_eq_getElem?_getD, List.getElem?_take_of_lt h, ← List.getD_eq_getElem?_getD]

theorem wordAt_drop (i n : Nat) (ws : List Word) : wordAt (ws.drop n) i = wordAt ws (n + i) := by
  rw [wordAt, wordAt, List.getD_eq_getElem?_getD, List.getElem?_drop, ← List.getD_eq_getElem?_getD]

/-- The marks: each up to Lmax, those that are not 0 rising, none after one that is 0 (R85). -/
theorem marksOk_iff (lmax d1 d2 d3 : Nat) : marksOk lmax d1 d2 d3 = true ↔ (d1 ≤ lmax ∧ d2 ≤ lmax ∧ d3 ≤ lmax) ∧
    ((d1 = 0 ∧ d2 = 0 ∧ d3 = 0) ∨ (d1 ≠ 0 ∧ d2 = 0 ∧ d3 = 0) ∨ (d1 ≠ 0 ∧ d1 < d2 ∧ d3 = 0) ∨ (d1 ≠ 0 ∧ d1 < d2 ∧ d2 < d3)) := by
  simp only [marksOk, Bool.and_eq_true, decide_eq_true_eq]
  omega

section
variable (ws : List Word)

def vehicleRecord : VehicleRec :=
  { wheelbase := (wordAt ws 0).toNat, overhang := (wordAt ws 1).toNat, half := (wordAt ws 2).toNat,
    staticHalf := (wordAt ws 3).toNat, hysteresis := (wordAt ws 4).toNat, stale := (wordAt ws 5).toNat }

def calibRecord : CalibRec :=
  { h11 := (wordAt ws 16).toInt, h12 := (wordAt ws 17).toInt, h13 := (wordAt ws 18).toInt, h21 := (wordAt ws 19).toInt,
    h22 := (wordAt ws 20).toInt, h23 := (wordAt ws 21).toInt, h31 := (wordAt ws 22).toInt, h32 := (wordAt ws 23).toInt,
    h33 := (wordAt ws 24).toInt }

def styleRecord : StyleRec :=
  { lmax := (wordAt ws 32).toNat, delta := (wordAt ws 33).toNat, d1 := (wordAt ws 34).toNat, d2 := (wordAt ws 35).toNat,
    d3 := (wordAt ws 36).toNat, width := (wordAt ws 37).toNat, near := wordAt ws 38, mid := wordAt ws 39, far := wordAt ws 40,
    static := wordAt ws 41, mark := wordAt ws 42, obstacle := wordAt ws 43 }

/-- The checks of R83. -/
abbrev VehicleChecks (v : VehicleRec) : Prop :=
  (1500 ≤ v.wheelbase ∧ v.wheelbase ≤ 4000) ∧ (300 ≤ v.overhang ∧ v.overhang ≤ 1500) ∧ (400 ≤ v.half ∧ v.half ≤ 1200) ∧
    (400 ≤ v.staticHalf ∧ v.staticHalf ≤ 1200) ∧ (1 ≤ v.hysteresis ∧ v.hysteresis ≤ 100) ∧ (100 ≤ v.stale ∧ v.stale ≤ 2000)

/-- The checks of R85. -/
abbrev StyleChecks (v : StyleRec) : Prop :=
  (1000 ≤ v.lmax ∧ v.lmax ≤ 10000) ∧ (100 ≤ v.delta ∧ v.delta ≤ 1000 ∧ v.lmax / v.delta ≤ 64) ∧
    marksOk v.lmax v.d1 v.d2 v.d3 = true ∧ (1 ≤ v.width ∧ v.width ≤ 15)

theorem vehicleOf_eq : vehicleOf (ws.take 16) = if VehicleChecks (vehicleRecord ws) then some (vehicleRecord ws) else none := by
  have same : vehicleRecord (ws.take 16) = vehicleRecord ws := by
    have low (i : Nat) (h : i < 16) : wordAt (ws.take 16) i = wordAt ws i := wordAt_take h ws
    unfold vehicleRecord
    rw [low 0 (by decide), low 1 (by decide), low 2 (by decide), low 3 (by decide), low 4 (by decide), low 5 (by decide)]
  rw [← same]
  rfl

theorem calibOf_eq : calibOf ((ws.drop 16).take 16) = calibRecord ws := by
  have middle (i : Nat) (h : i < 16) : wordAt ((ws.drop 16).take 16) i = wordAt ws (16 + i) :=
    (wordAt_take h _).trans (wordAt_drop ..)
  unfold calibOf
  dsimp only
  rw [middle 0, middle 1, middle 2, middle 3, middle 4, middle 5, middle 6, middle 7, middle 8]
  · rfl
  all_goals decide

theorem styleOf_eq : styleOf (ws.drop 32) = if StyleChecks (styleRecord ws) then some (styleRecord ws) else none := by
  unfold styleOf
  simp only [wordAt_drop]
  rfl

theorem guideSetupOf_eq : guideSetupOf ws = if VehicleChecks (vehicleRecord ws) ∧ StyleChecks (styleRecord ws)
    then some ⟨vehicleRecord ws, calibRecord ws, styleRecord ws⟩ else none := by
  unfold guideSetupOf
  rw [vehicleOf_eq, calibOf_eq, styleOf_eq]
  by_cases vehicle : VehicleChecks (vehicleRecord ws)
  · rw [if_pos vehicle, Option.bind_some]
    by_cases style : StyleChecks (styleRecord ws)
    · rw [if_pos style, if_pos ⟨vehicle, style⟩]
      rfl
    · rw [if_neg style, if_neg fun h => style h.2]
      rfl
  · have both : ¬(VehicleChecks (vehicleRecord ws) ∧ StyleChecks (styleRecord ws)) := fun h => vehicle h.1
    rw [if_neg vehicle, if_neg both]
    rfl

end

/-! ### A definition slot of a chime table (R101, R103) -/

section
variable (ws : List Word) (i : Nat)

/-- A halfword at an even byte lies in one word. -/
theorem halfAt_even {k : Nat} (h : k % 2 = 0) : halfAt ws k = field (wordAt ws (k / 4)) (8 * (k % 4)) 16 := by
  have twice : k = 2 * (k / 2) := by omega
  have place : k / 2 / 2 = k / 4 ∧ 16 * (k / 2 % 2) = 8 * (k % 4) := by omega
  rw [twice, halfAt_two_mul, ← twice, place.1, place.2]

/-- Byte and halfword `k` of definition slot `i`. -/
def slotByte (k : Nat) : Nat := field (wordAt ws ((576 + 80 * i + k) / 4)) (8 * (k % 4)) 8

def slotHalf (k : Nat) : Nat := field (wordAt ws ((576 + 80 * i + k) / 4)) (8 * (k % 4)) 16

theorem byteAt_slot (k : Nat) : byteAt ws (chimeSlotAt i + k) = slotByte ws i k := by
  have place : (chimeSlotAt i + k) % 4 = k % 4 := by
    unfold chimeSlotAt
    omega
  rw [byteAt_eq_field, place]
  rfl

theorem halfAt_slot {k : Nat} (h : k % 2 = 0) : halfAt ws (chimeSlotAt i + k) = slotHalf ws i k := by
  have place : (chimeSlotAt i + k) % 4 = k % 4 ∧ (chimeSlotAt i + k) % 2 = 0 := by
    unfold chimeSlotAt
    omega
  rw [halfAt_even ws place.2, place.1]
  rfl

/-- Note `j` of definition slot `i`. -/
def noteRecord (j : Nat) : Note :=
  { freq := slotHalf ws i (16 + 8 * j), dur := slotHalf ws i (18 + 8 * j), level := slotByte ws i (20 + 8 * j),
    attack := slotByte ws i (21 + 8 * j), release := slotByte ws i (22 + 8 * j), square := decide (slotByte ws i (23 + 8 * j) = 1) }

/-- The checks of a note (R103). -/
abbrev NoteChecks (j : Nat) : Prop :=
  ((noteRecord ws i j).freq = 0 ∨ (100 ≤ (noteRecord ws i j).freq ∧ (noteRecord ws i j).freq ≤ 4000)) ∧
    (10 ≤ (noteRecord ws i j).dur ∧ (noteRecord ws i j).dur ≤ 2000) ∧ slotByte ws i (23 + 8 * j) ≤ 1

theorem noteOf_eq (j : Nat) : noteOf ws (chimeSlotAt i) j = if NoteChecks ws i j then some (noteRecord ws i j) else none := by
  have place (k : Nat) : chimeSlotAt i + 16 + 8 * j + k = chimeSlotAt i + (16 + k + 8 * j) := by omega
  have first : chimeSlotAt i + 16 + 8 * j = chimeSlotAt i + (16 + 8 * j) := by omega
  have freq : halfAt ws (chimeSlotAt i + 16 + 8 * j) = slotHalf ws i (16 + 8 * j) := by
    rw [first, halfAt_slot ws i (by omega)]
  have dur : halfAt ws (chimeSlotAt i + 16 + 8 * j + 2) = slotHalf ws i (18 + 8 * j) := by
    rw [place, halfAt_slot ws i (by omega)]
  have level : byteAt ws (chimeSlotAt i + 16 + 8 * j + 4) = slotByte ws i (20 + 8 * j) := by rw [place, byteAt_slot]
  have attack : byteAt ws (chimeSlotAt i + 16 + 8 * j + 5) = slotByte ws i (21 + 8 * j) := by rw [place, byteAt_slot]
  have release : byteAt ws (chimeSlotAt i + 16 + 8 * j + 6) = slotByte ws i (22 + 8 * j) := by rw [place, byteAt_slot]
  have wave : byteAt ws (chimeSlotAt i + 16 + 8 * j + 7) = slotByte ws i (23 + 8 * j) := by rw [place, byteAt_slot]
  have record : (⟨halfAt ws (chimeSlotAt i + 16 + 8 * j), halfAt ws (chimeSlotAt i + 16 + 8 * j + 2),
      byteAt ws (chimeSlotAt i + 16 + 8 * j + 4), byteAt ws (chimeSlotAt i + 16 + 8 * j + 5),
      byteAt ws (chimeSlotAt i + 16 + 8 * j + 6), decide (byteAt ws (chimeSlotAt i + 16 + 8 * j + 7) = 1)⟩ : Note) =
      noteRecord ws i j := by
    rw [freq, dur, level, attack, release, wave]
    rfl
  unfold noteOf
  dsimp only
  rw [record]
  refine if_congr ?_ rfl rfl
  rw [freq, dur, wave]
  rfl

/-- The checks of a defined slot (R103). -/
abbrev SlotChecks : Prop :=
  slotByte ws i 1 ≤ 7 ∧ slotByte ws i 2 ≤ 1 ∧ slotByte ws i 4 ≤ 15 ∧ slotHalf ws i 6 ≤ 2000 ∧
    (1 ≤ slotByte ws i 5 ∧ slotByte ws i 5 ≤ 8) ∧ ∀ j < slotByte ws i 5, NoteChecks ws i j

def slotRecord : ChimeDef :=
  { priority := slotByte ws i 1, drop := decide (slotByte ws i 2 = 1), notify := decide (slotByte ws i 3 % 2 = 1),
    repeats := slotByte ws i 4, gap := slotHalf ws i 6, notes := (List.range (slotByte ws i 5)).map (noteRecord ws i) }

/-- All notes pass exactly where each does. -/
theorem notes_all (n : Nat) : ((List.range n).map (noteOf ws (chimeSlotAt i))).all Option.isSome = true ↔
    ∀ j < n, NoteChecks ws i j := by
  rw [List.all_map, List.all_eq_true]
  simp only [List.mem_range, Function.comp_apply, noteOf_eq]
  refine forall₂_congr fun j _ => ?_
  split_ifs with h
  · exact ⟨fun _ => h, fun _ => rfl⟩
  · exact ⟨nofun, fun k => absurd k h⟩

theorem notes_eq {n : Nat} (h : ∀ j < n, NoteChecks ws i j) :
    ((List.range n).map (noteOf ws (chimeSlotAt i))).filterMap id = (List.range n).map (noteRecord ws i) := by
  have each : (List.range n).map (noteOf ws (chimeSlotAt i)) = (List.range n).map fun j => some (noteRecord ws i j) :=
    List.map_congr_left fun j hj => (noteOf_eq ws i j).trans (if_pos (h j (List.mem_range.1 hj)))
  rw [each, List.filterMap_map]
  exact List.filterMap_eq_map (f := noteRecord ws i) ▸ rfl

theorem chimeSlotOf_undefined (h : slotByte ws i 0 % 2 = 0) : chimeSlotOf ws i = some none := by
  unfold chimeSlotOf
  dsimp only
  rw [show byteAt ws (chimeSlotAt i) = slotByte ws i 0 from byteAt_slot ws i 0, if_pos h]

theorem chimeSlotOf_defined (h : slotByte ws i 0 % 2 = 1) :
    (SlotChecks ws i → chimeSlotOf ws i = some (some (slotRecord ws i))) ∧ (¬SlotChecks ws i → chimeSlotOf ws i = none) := by
  have defined : ¬slotByte ws i 0 % 2 = 0 := by omega
  have checks : (slotByte ws i 1 ≤ 7 ∧ slotByte ws i 2 ≤ 1 ∧ slotByte ws i 4 ≤ 15 ∧ slotHalf ws i 6 ≤ 2000 ∧
      (1 ≤ slotByte ws i 5 ∧ slotByte ws i 5 ≤ 8) ∧
      ((List.range (slotByte ws i 5)).map (noteOf ws (chimeSlotAt i))).all Option.isSome = true) ↔ SlotChecks ws i := by
    rw [notes_all]
  unfold chimeSlotOf
  dsimp only
  rw [show byteAt ws (chimeSlotAt i) = slotByte ws i 0 from byteAt_slot ws i 0, if_neg defined, byteAt_slot, byteAt_slot,
    byteAt_slot, byteAt_slot, byteAt_slot, halfAt_slot ws i (by decide)]
  refine ⟨fun good => ?_, fun bad => if_neg (mt checks.1 bad)⟩
  have passed := checks.2 good
  obtain ⟨_, _, _, _, _, notes⟩ := good
  rw [if_pos passed, notes_eq ws i notes]
  rfl

end

/-- Settles O25, record by record. -/
theorem setupRecordChecks : Obligations.SetupRecordChecks := by
  refine ⟨fun m ca ws => camSetup_checks m ca ws _ rfl, fun m ca i ws => ?_, fun ws => ?_, fun ws i => ?_, fun ws => ?_⟩
  · intro base w size entry good
    have checks (c : Condition) : field w 24 8 ≤ 2 → (GuardChecks m ca (guardRecord ws i c) ↔ good) := fun code =>
      (guardChecks_iff m ca i ws c).trans
        ⟨fun ⟨aligned, length, fits, apart, response⟩ => ⟨code, aligned, length, fits, apart, response⟩,
          fun ⟨_, aligned, length, fits, apart, response⟩ => ⟨aligned, length, fits, apart, response⟩⟩
    have code : field w 24 8 ≠ 0 → field w 24 8 = 1 ∨ field w 24 8 = 2 ∨ 2 < field w 24 8 := by omega
    refine ⟨guardEntryOf_off m ca i ws, fun on ok => ?_, fun on bad => ?_⟩
    · rcases code on with h | h | h
      · rw [guardEntryOf_on m ca i ws (.inl ⟨h, rfl⟩), if_pos ((checks _ (by omega)).2 ok), if_pos h]
        rfl
      · rw [guardEntryOf_on m ca i ws (.inr ⟨h, rfl⟩), if_pos ((checks _ (by omega)).2 ok), if_neg (by omega)]
        rfl
      · exact absurd ok.1 (Nat.not_le.2 h)
    · rcases code on with h | h | h
      · rw [guardEntryOf_on m ca i ws (.inl ⟨h, rfl⟩), if_neg (mt (checks _ (by omega)).1 bad)]
      · rw [guardEntryOf_on m ca i ws (.inr ⟨h, rfl⟩), if_neg (mt (checks _ (by omega)).1 bad)]
      · exact guardEntryOf_wrong m ca i ws h
  · intro n z v h y good
    have checks : VehicleChecks (vehicleRecord ws) ∧ StyleChecks (styleRecord ws) ↔ good := by
      refine and_congr Iff.rfl ?_
      rw [StyleChecks, marksOk_iff]
      exact and_congr Iff.rfl (and_congr Iff.rfl and_assoc)
    rw [guideSetupOf_eq]
    exact passes_iff checks
  · intro byte half count note good
    exact ⟨chimeSlotOf_undefined ws i, fun on ok => (chimeSlotOf_defined ws i on).1 ok,
      fun on bad => (chimeSlotOf_defined ws i on).2 bad⟩
  · intro n wave x good
    exact passes_iff (α := Proximity) (x := x) Iff.rfl

end Sys2Proof.Proofs
end

section
/-! PROOFS. Moves of the reverse state and their couplings: what each block's part of a move reads (R46, R64, R71, R75, R76, R86). -/

namespace Sys2Proof.Proofs

open Sys2Proof.Machine Sys2Proof.Safety

/-! ### What each coupling reads -/

theorem landGrantedWrite_idle {s : State} (h : s.ppw.tx = none) : landGrantedWrite s = s := by
  unfold landGrantedWrite
  rw [h]
  cases s.burst with
  | none => rfl
  | some b => cases b <;> rfl

theorem landGrantedWrite_setRvc (r : Rvc) (e : Seu) (s : State) :
    landGrantedWrite { s with rvc := r, seu := e } = { landGrantedWrite s with rvc := r, seu := e } := by
  by_cases write : s.burst = some .procWrite
  · cases tx : s.ppw.tx with
    | none => rw [landGrantedWrite_idle tx, landGrantedWrite_idle (s := { s with rvc := r, seu := e }) tx]
    | some q => rw [landGrantedWrite_write write tx, landGrantedWrite_write (s := { s with rvc := r, seu := e }) write tx]
  · rw [landGrantedWrite_other write, landGrantedWrite_other (s := { s with rvc := r, seu := e }) write]

/-- A capture start does not read the reverse state. -/
theorem startCapture_setRvc (r : Rvc) (e : Seu) (s : State) : startCapture { s with rvc := r, seu := e } =
    ({ (startCapture s).1 with rvc := r, seu := { e with dirty := true } }, (startCapture s).2) := by
  have moved : cleared { s with rvc := r, seu := e } = { cleared s with rvc := r, seu := { e with dirty := true } } := rfl
  rw [startCapture_eq, startCapture_eq, moved]
  have hit : ({ cleared s with rvc := r, seu := { e with dirty := true } } : State).captureHit = (cleared s).captureHit := rfl
  cases found : (cleared s).captureHit with
  | none => rw [dropAtCaptureStart_none found, dropAtCaptureStart_none (hit.trans found), landGrantedWrite_setRvc]
  | some a =>
    rw [dropAtCaptureStart_some found, dropAtCaptureStart_some (hit.trans found)]
    refine congrArg₂ Prod.mk ?_ rfl
    have monitor : ({ cleared s with rvc := r, seu := { e with dirty := true } } : State).fma.mon = (cleared s).fma.mon := rfl
    have monitor' : (dropped { cleared s with rvc := r, seu := { e with dirty := true } }).fma.mon = (dropped (cleared s)).fma.mon := rfl
    unfold countCompletion
    rw [monitor, monitor']
    dsimp only
    split_ifs <;> rfl

section
variable {s u : State}

/-- A capture stop reads the camera alone. -/
theorem stopCapture_congr (ccu : u.ccu = s.ccu) : (stopCapture u).ccu = (stopCapture s).ccu := by
  cases hf : s.ccu.frame with
  | none => rw [stopCapture_none hf, stopCapture_none (ccu ▸ hf)]; exact ccu
  | some f =>
    cases hi : f.slot with
    | none => rw [stopCapture_noSlot hf hi, stopCapture_noSlot (ccu ▸ hf) hi, ccu]
    | some i => rw [stopCapture_slot hf hi, stopCapture_slot (ccu ▸ hf) hi, ccu]

/-- A trigger reads the Guide Engine, the reverse state and setup, and the timing of CTR. -/
theorem trigger_congr (gde : u.gde = s.gde) (st : u.rvc.st = s.rvc.st) (setup : u.rvc.setup = s.rvc.setup) (scn : u.scn = s.scn) :
    (trigger u).gde = (trigger s).gde := by
  have captured : u.captureInputs = s.captureInputs := by rw [captureInputs_eq, captureInputs_eq, gde, setup, scn]
  by_cases normal : s.rvc.st = .normal
  · rw [trigger_inactive normal, trigger_inactive (st.trans normal), gde]
  · have normal' : u.rvc.st ≠ .normal := st ▸ normal
    cases hr : s.gde.recompute with
    | idle =>
      by_cases complete : s.gde.idle = .complete
      · rw [trigger_complete normal hr complete, trigger_complete normal' (gde ▸ hr) (gde ▸ complete), gde]
        rfl
      · rw [trigger_idle normal hr complete, trigger_idle normal' (gde ▸ hr) (gde ▸ complete), startRecompute_eq,
          startRecompute_eq, gde, captured]
    | running =>
      rw [trigger_running normal hr, trigger_running normal' (gde ▸ hr), dirtyIf_eq, dirtyIf_eq, gde]
      rfl
    | waiting => rw [trigger_waiting hr, trigger_waiting (gde ▸ hr), gde]

/-- Voice P reads its own state and setup, the obstacle, the reverse state, and the counter of free values. -/
theorem syncVoiceP_congr (z : Nat) (p : u.chu.p = s.chu.p) (prox : u.chu.prox = s.chu.prox) (obstacle : u.gde.obstacle = s.gde.obstacle)
    (st : u.rvc.st = s.rvc.st) (free : u.free = s.free) : (syncVoiceP z u).chu.p = (syncVoiceP z s).chu.p := by
  have zone : u.zone = s.zone := by
    unfold State.zone
    rw [obstacle, prox]
  have active : u.voicePActive = s.voicePActive := by
    unfold State.voicePActive State.voicePEnabled
    rw [obstacle, prox, st]
  have set (v : VoiceP) (w : State) : (w.setVoiceP v).chu.p = v := by
    unfold State.setVoiceP
    rw [dirtyIf_eq]
  have moves : (zoneChange u).chu.p = (zoneChange s).chu.p := by
    unfold zoneChange
    rw [zone, prox, p]
    dsimp only
    cases s.chu.p.st with
    | off | release => exact p
    | beep | gap =>
      dsimp only
      split_ifs
      · rw [set, set]
      · exact p
    | tone =>
      dsimp only
      rw [set, set]
      unfold heldEnvelope
      cases s.chu.p.env with
      | none => rw [free]
      | some e => rfl
    | quiet => rw [set, set]
  unfold syncVoiceP
  rw [active, zone, p, prox]
  split_ifs
  · rw [set, set]
  · rw [set, set]
  · rw [set, set]
  · exact p
  · exact moves

/-- Outside the request voice P is OFF. -/
theorem syncVoiceP_off (z : Nat) (h : s.rvc.st = .normal ∨ s.rvc.st = .linger) : (syncVoiceP z s).chu.p.st = .off := by
  have disabled : s.voicePActive = false := by
    unfold State.voicePActive State.voicePEnabled
    rcases h with h | h <;> rw [h] <;> rfl
  have set (v : VoiceP) (w : State) : (w.setVoiceP v).chu.p = v := by
    unfold State.setVoiceP
    rw [dirtyIf_eq]
  unfold syncVoiceP
  rw [disabled, if_pos (by rfl), set]
  split_ifs with off
  · exact off
  · rfl

end

/-! ### Status-dirty stays set -/

section
variable {s : State}

theorem setVoiceP_dirty (v : VoiceP) (h : s.seu.dirty = true) : (s.setVoiceP v).seu.dirty = true := by
  rw [State.setVoiceP, dirtyIf_eq]
  exact congrArg (· || _) h

theorem zoneChange_dirty (h : s.seu.dirty = true) : (zoneChange s).seu.dirty = true := by
  have held : (heldEnvelope s.chu.p.env s).2.seu.dirty = true := by
    unfold heldEnvelope
    cases s.chu.p.env <;> exact h
  unfold zoneChange
  dsimp only
  cases s.chu.p.st with
  | off | release => exact h
  | beep | gap =>
    dsimp only
    split_ifs
    · exact setVoiceP_dirty _ h
    · exact h
  | tone => exact setVoiceP_dirty _ held
  | quiet => exact setVoiceP_dirty _ h

theorem syncVoiceP_dirty (z : Nat) (h : s.seu.dirty = true) : (syncVoiceP z s).seu.dirty = true := by
  by_cases active : s.voicePActive = true
  · by_cases off : s.chu.p.st = .off
    · rw [syncVoiceP, active, if_neg (by decide), if_pos off]
      exact setVoiceP_dirty _ h
    · by_cases same : s.zone = z
      · rw [syncVoiceP, active, if_neg (by decide), if_neg off, if_pos same]
        exact h
      · rw [syncVoiceP, active, if_neg (by decide), if_neg off, if_neg same]
        exact zoneChange_dirty h
  · rw [syncVoiceP, eq_false_of_ne_true active, if_pos (by rfl)]
    exact setVoiceP_dirty _ h

/-- A trigger leaves the inputs as they are, and status-dirty set. -/
theorem trigger_leaves (s : State) : (trigger s).gde.obstacle = s.gde.obstacle ∧ (s.seu.dirty = true → (trigger s).seu.dirty = true) := by
  by_cases normal : s.rvc.st = .normal
  · rw [trigger_inactive normal]
    exact ⟨rfl, id⟩
  · cases hr : s.gde.recompute with
    | idle =>
      by_cases complete : s.gde.idle = .complete
      · rw [trigger_complete normal hr complete]
        exact ⟨rfl, fun _ => rfl⟩
      · rw [trigger_idle normal hr complete, startRecompute_eq]
        exact ⟨rfl, fun _ => rfl⟩
    | running =>
      rw [trigger_running normal hr, dirtyIf_eq]
      exact ⟨rfl, congrArg (· || _)⟩
    | waiting =>
      rw [trigger_waiting hr]
      exact ⟨rfl, id⟩

theorem guideInactive_obstacle (s : State) : (guideInactive s).gde.obstacle = s.gde.obstacle := by
  unfold guideInactive Gde.installPending
  cases s.gde.pendingSetup <;> rfl

end

/-! ### The moves -/

/-- The state after a move to `st`, with what capture and the Guide Engine made of it. -/
def moved (st : RevState) (capture : State) (g : Gde) (free : Nat) (s : State) : State :=
  { capture with
    rvc := { s.rvc with st := st }
    gde := g
    chu := { s.chu with p := (syncVoiceP s.zone { s with rvc := { s.rvc with st := st } }).chu.p }
    seu := { s.seu with dirty := true }
    free := free }

/-- Voice P follows the move last. -/
theorem syncVoiceP_moved {st : RevState} {s u : State} (chu : u.chu = s.chu) (obstacle : u.gde.obstacle = s.gde.obstacle)
    (rvc : u.rvc = { s.rvc with st := st }) (free : u.free = s.free) (seu : u.seu = { s.seu with dirty := true }) :
    ∃ f, syncVoiceP s.zone u = moved st u u.gde f s := by
  obtain ⟨p, d, f, only⟩ := syncVoiceP_only s.zone u
  have voice : (syncVoiceP s.zone u).chu.p = (syncVoiceP s.zone { s with rvc := { s.rvc with st := st } }).chu.p :=
    syncVoiceP_congr s.zone (by rw [chu]) (by rw [chu]) obstacle (by rw [rvc]) free
  have dirty := syncVoiceP_dirty (s := u) s.zone (by rw [seu])
  refine ⟨f, ?_⟩
  rw [only] at voice dirty ⊢
  dsimp only at voice dirty
  rw [moved, ← voice, dirty, chu, seu, rvc]

/-- What the demand starts at an entry from NORMAL (R46). -/
def entering (s : State) : WithRaises := if s.ccu.setup.isSome && !s.ccu.enable then startCapture s else (s, [])

/-- The camera after the demand has gone (R46). -/
def leaving (s : State) : Ccu := if s.ccu.setup.isSome && !s.ccu.enable then (stopCapture s).ccu else s.ccu

section
variable {st : RevState} {s : State}

theorem moveReverse_stays (h : s.rvc.st ≠ .normal) (h' : st ≠ .normal) :
    ∃ f, moveReverse st s = (moved st s s.gde f s, []) := by
  obtain ⟨f, e⟩ := syncVoiceP_moved (st := st) (s := s) (u := (s.setRvc { s.rvc with st := st }).markDirty) rfl rfl rfl rfl rfl
  refine ⟨f, ?_⟩
  rw [moveReverse_within h h', e]
  rfl

theorem capturing_normal (h : s.rvc.st = .normal) : s.capturing = (s.ccu.setup.isSome && s.ccu.enable) := by
  unfold State.capturing
  rw [(reversing_eq_false_iff s).2 h, Bool.or_false]

theorem capturing_reversing (h : s.rvc.st ≠ .normal) : s.capturing = s.ccu.setup.isSome := by
  unfold State.capturing
  rw [(reversing_iff s).2 h, Bool.or_true, Bool.and_true]

/-- Capture starts where only the demand makes it run (R46). -/
theorem syncCapture_enters (h : s.rvc.st = .normal) (h' : st ≠ .normal) :
    syncCapture s.capturing (s.setRvc { s.rvc with st := st }).markDirty =
      ({ (entering s).1 with rvc := { s.rvc with st := st }, seu := { s.seu with dirty := true } }, (entering s).2) := by
  have was := capturing_normal h
  have now := capturing_reversing (s := (s.setRvc { s.rvc with st := st }).markDirty) h'
  have setup : (s.setRvc { s.rvc with st := st }).markDirty.ccu.setup = s.ccu.setup := rfl
  rw [setup] at now
  unfold entering
  cases configured : s.ccu.setup.isSome with
  | false =>
    rw [configured] at was now
    rw [was, Bool.false_and, syncCapture_same now]
    rfl
  | true =>
    rw [configured, Bool.true_and] at was
    rw [configured] at now
    cases enabled : s.ccu.enable with
    | false =>
      rw [enabled] at was
      rw [was, syncCapture_starts now]
      exact startCapture_setRvc { s.rvc with st := st } { s.seu with dirty := true } s
    | true =>
      rw [enabled] at was
      rw [was, syncCapture_same now]
      rfl

theorem entering_only (s : State) : ∃ m ppw mon d c, (entering s).1 =
    { s with mem := m, ppw := ppw, fma := { s.fma with mon := mon }, ccu := c, seu := { s.seu with dirty := d } } := by
  unfold entering
  split
  · obtain ⟨m, ppw, mon, d, e⟩ := startCapture_only s
    exact ⟨m, ppw, mon, d, _, e⟩
  · exact ⟨_, _, _, _, _, rfl⟩

theorem guideActive_eq {u : State} (gde : u.gde = s.gde) (rvc : u.rvc = { s.rvc with st := st }) (scn : u.scn = s.scn) :
    guideActive u = { u with
      gde := (trigger { s with rvc := { s.rvc with st := st }, gde := { s.gde with outdated := true } }).gde
      seu := { u.seu with dirty := true } } := by
  have congr : (trigger (u.setGde { u.gde with outdated := true }).markDirty).gde =
      (trigger { s with rvc := { s.rvc with st := st }, gde := { s.gde with outdated := true } }).gde :=
    trigger_congr (by show ({ u.gde with outdated := true } : Gde) = _; rw [gde]) (congrArg Rvc.st rvc) (congrArg Rvc.setup rvc) scn
  have dirty := (trigger_leaves (u.setGde { u.gde with outdated := true }).markDirty).2 rfl
  obtain ⟨g, d, guide⟩ := trigger_guideOnly (u.setGde { u.gde with outdated := true }).markDirty
  rw [guide] at congr dirty
  dsimp only at congr dirty
  rw [guideActive, guide, ← congr, dirty]
  rfl

theorem moveReverse_enters (h : s.rvc.st = .normal) (h' : st ≠ .normal) : ∃ f, moveReverse st s = (moved st (entering s).1
    (trigger { s with rvc := { s.rvc with st := st }, gde := { s.gde with outdated := true } }).gde f s, (entering s).2) := by
  obtain ⟨m, ppw, mon, d, c, only⟩ := entering_only s
  let w : State := { (entering s).1 with rvc := { s.rvc with st := st }, seu := { s.seu with dirty := true } }
  have active : syncGuide false w = guideActive w := by
    have level : w.reversing = true := decide_eq_true h'
    rw [syncGuide, level]
    rfl
  have guide := guideActive_eq (s := s) (u := w) (st := st) (by show (entering s).1.gde = _; rw [only]) rfl
    (by show (entering s).1.scn = _; rw [only])
  have obstacle := (trigger_leaves { s with rvc := { s.rvc with st := st }, gde := { s.gde with outdated := true } }).1
  unfold moveReverse
  rw [syncCapture_enters h h', (reversing_eq_false_iff s).2 h]
  show ∃ f, (syncVoiceP s.zone (syncGuide false w), _) = _
  rw [active, guide]
  obtain ⟨f, e⟩ := syncVoiceP_moved (st := st) (s := s) (u := { w with
    gde := (trigger { s with rvc := { s.rvc with st := st }, gde := { s.gde with outdated := true } }).gde
    seu := { w.seu with dirty := true } }) (by show (entering s).1.chu = _; rw [only]) obstacle rfl
    (by show (entering s).1.free = _; rw [only]) rfl
  exact ⟨f, congrArg (·, _) e⟩

theorem syncCapture_leaves (h : s.rvc.st ≠ .normal) :
    syncCapture s.capturing (s.setRvc { s.rvc with st := .normal }).markDirty =
      ({ s with ccu := leaving s, rvc := { s.rvc with st := .normal }, seu := { s.seu with dirty := true } }, []) := by
  have was := capturing_reversing h
  have now := capturing_normal (s := (s.setRvc { s.rvc with st := .normal }).markDirty) rfl
  have setup : (s.setRvc { s.rvc with st := .normal }).markDirty.ccu = s.ccu := rfl
  rw [setup] at now
  unfold leaving
  cases configured : s.ccu.setup.isSome with
  | false =>
    rw [configured] at was now
    rw [was, syncCapture_same (now.trans (Bool.false_and _))]
    rfl
  | true =>
    rw [configured] at was
    rw [configured, Bool.true_and] at now
    cases enabled : s.ccu.enable with
    | false =>
      rw [enabled] at now
      rw [was, syncCapture_stops now]
      obtain ⟨c, only⟩ := stopCapture_only (s.setRvc { s.rvc with st := .normal }).markDirty
      have congr := stopCapture_congr (s := s) (u := (s.setRvc { s.rvc with st := .normal }).markDirty) rfl
      rw [only] at congr
      dsimp only at congr
      rw [only, congr]
      rfl
    | true =>
      rw [enabled] at now
      rw [was, syncCapture_same now]
      rfl

theorem moveReverse_leaves (h : s.rvc.st ≠ .normal) : ∃ f, moveReverse .normal s =
    (moved .normal { s with ccu := leaving s } (syncGuide true { s with rvc := { s.rvc with st := .normal } }).gde f s, []) := by
  let w : State := { s with ccu := leaving s, rvc := { s.rvc with st := .normal }, seu := { s.seu with dirty := true } }
  have inactive : syncGuide true w = guideInactive w := rfl
  unfold moveReverse
  rw [syncCapture_leaves h, (reversing_iff s).2 h]
  show ∃ f, (syncVoiceP s.zone (syncGuide true w), _) = _
  rw [inactive]
  obtain ⟨f, e⟩ := syncVoiceP_moved (st := .normal) (s := s) (u := guideInactive w) rfl (guideInactive_obstacle w) rfl rfl rfl
  exact ⟨f, congrArg (·, _) e⟩

end

end Sys2Proof.Proofs
end

section
/-! PROOFS. The evaluation of R and the reverse timers (R61, R64 to R71, R74 to R76). -/

namespace Sys2Proof.Proofs

open Sys2Proof.Machine Sys2Proof.Safety

/-! ### The engage chime -/

/-- Requests to play touch the queue and voice Q alone. -/
def ChimeOnly (s t : State) : Prop := ∃ queue q b,
  t = { s with chu := { s.chu with queue := queue, q := q }, seu := { s.seu with dirty := s.seu.dirty || b } }

theorem ChimeOnly.refl (s : State) : ChimeOnly s s := ⟨s.chu.queue, s.chu.q, false, by simp⟩

theorem ChimeOnly.dirty {s : State} (queue : List ChimeEntry) (q : VoiceQ) :
    ChimeOnly s { s with chu := { s.chu with queue := queue, q := q }, seu := { s.seu with dirty := true } } :=
  ⟨queue, q, true, by rw [Bool.or_true]⟩

theorem setQueue_only (q : List ChimeEntry) (s : State) : ChimeOnly s (s.setQueue q) := .dirty q s.chu.q

theorem displace_only (s : State) : ChimeOnly s (displace s).1 := by
  unfold displace
  dsimp only
  split_ifs
  · exact .refl s
  · exact .refl s
  · exact setQueue_only ..
  · exact setQueue_only ..

theorem requestFull_only (e : ChimeEntry) (s : State) : ChimeOnly s (requestFull e s).1.1 := by
  unfold requestFull
  cases s.chu.queue.getLast? with
  | none => exact .refl s
  | some last =>
    dsimp only
    split_ifs
    · exact setQueue_only ..
    · exact .refl s

theorem startChime_only (e : ChimeEntry) {s t : State} (h : ChimeOnly s t) : ChimeOnly s (startChime e t) := by
  obtain ⟨queue, q, b, rfl⟩ := h
  exact .dirty ..

theorem requestChime_only (e : ChimeEntry) (restart : Bool) (s : State) : ChimeOnly s (requestChime e restart s).1.1 := by
  unfold requestChime
  dsimp only
  split_ifs
  · exact .refl s
  · exact .refl s
  · exact .refl s
  · exact startChime_only e (.refl s)
  · exact startChime_only e (.refl s)
  · exact startChime_only e (displace_only s)
  · exact setQueue_only ..
  · exact requestFull_only e s

theorem requestEngage_only (id : Nat) (s : State) : ChimeOnly s (requestEngage id s).1 := by
  unfold requestEngage
  dsimp only
  split_ifs <;> exact requestChime_only ..

/-- Two runs of a request agree in what they raise and in what they make of the queue and voice Q. -/
def SameChimes (x y : WithRaises) : Prop := x.2 = y.2 ∧ x.1.chu.q = y.1.chu.q ∧ x.1.chu.queue = y.1.chu.queue

section
variable {s u : State}

theorem startChime_congr (e : ChimeEntry) (defs : u.chu.defs = s.chu.defs) (q : u.chu.q = s.chu.q) :
    (startChime e u).chu.q = (startChime e s).chu.q := by
  have found : u.chimeDef e.id = s.chimeDef e.id := by rw [State.chimeDef, defs]; rfl
  show VoiceQ.startNote ((u.chimeDef e.id).getD _) 0 { u.chu.q.cleared with st := .playing, id := e.id, engage := e.engage } = _
  rw [found, q]
  rfl

variable (defs : u.chu.defs = s.chu.defs) (q : u.chu.q = s.chu.q) (queue : u.chu.queue = s.chu.queue)
include defs q queue

theorem displace_congr : SameChimes (displace u) (displace s) := by
  have found : u.chimeDef = s.chimeDef := by funext id; rw [State.chimeDef, defs]; rfl
  have prio : u.chimePriority = s.chimePriority := by funext id; rw [State.chimePriority, found]; rfl
  unfold displace
  rw [q, queue, found, prio]
  dsimp only
  split_ifs
  · exact ⟨rfl, q, queue⟩
  · exact ⟨rfl, q, queue⟩
  · exact ⟨rfl, q, rfl⟩
  · exact ⟨rfl, q, rfl⟩

/-- A request to play reads the chimes alone. -/
theorem requestChime_congr (e : ChimeEntry) (restart : Bool) :
    SameChimes (requestChime e restart u).1 (requestChime e restart s).1 ∧ (requestChime e restart u).2 = (requestChime e restart s).2 := by
  have found : u.chimeDef = s.chimeDef := by funext id; rw [State.chimeDef, defs]; rfl
  have prio : u.chimePriority = s.chimePriority := by funext id; rw [State.chimePriority, found]; rfl
  have nothing : SameChimes (u, []) (s, []) := ⟨rfl, q, queue⟩
  have starts : SameChimes (startChime e u, []) (startChime e s, []) := ⟨rfl, startChime_congr e defs q, queue⟩
  obtain ⟨displaced, voice, rest⟩ := displace_congr defs q queue
  have preempts : SameChimes (startChime e (displace u).1, (displace u).2) (startChime e (displace s).1, (displace s).2) := by
    have table (w : State) : (displace w).1.chu.defs = w.chu.defs := by
      obtain ⟨_, _, _, e⟩ := displace_only w
      rw [e]
    exact ⟨displaced, startChime_congr e (by rw [table, table, defs]) voice, rest⟩
  have full : SameChimes (requestFull e u).1 (requestFull e s).1 ∧ (requestFull e u).2 = (requestFull e s).2 := by
    unfold requestFull
    rw [queue, prio]
    cases s.chu.queue.getLast? with
    | none => exact ⟨nothing, rfl⟩
    | some last =>
      dsimp only
      split_ifs
      · exact ⟨⟨rfl, q, rfl⟩, rfl⟩
      · exact ⟨nothing, rfl⟩
  unfold requestChime
  rw [q, queue, found, prio]
  dsimp only
  split_ifs
  · exact ⟨nothing, rfl⟩
  · exact ⟨nothing, rfl⟩
  · exact ⟨nothing, rfl⟩
  · exact ⟨starts, rfl⟩
  · exact ⟨starts, rfl⟩
  · exact ⟨preempts, rfl⟩
  · exact ⟨⟨rfl, q, rfl⟩, rfl⟩
  · exact full

theorem requestEngage_congr (id : Nat) : SameChimes (requestEngage id u) (requestEngage id s) := by
  obtain ⟨⟨raises, voice, rest⟩, result⟩ := requestChime_congr defs q queue ⟨id, true⟩ false
  unfold requestEngage
  dsimp only
  rw [result]
  split_ifs
  · exact ⟨rfl, voice, rest⟩
  · exact ⟨raises, voice, rest⟩

end

theorem requestEngage_bad {id : Nat} {s : State} (h : 31 < id ∨ s.chimeDef id = none) :
    requestEngage id s = (s, [⟨.chimeDropped, BitVec.ofNat 32 id, 4⟩]) := by
  have bad : requestChime ⟨id, true⟩ false s = ((s, []), resBadParam) := by
    rw [requestChime, if_pos]
    exact h.imp_right (Option.isNone_iff_eq_none.2 ·)
  unfold requestEngage
  rw [bad]
  rfl

theorem requestEngage_starts {id : Nat} {s : State} (small : id < 32) (found : s.chimeDef id ≠ none) (idle : s.chu.q.st = .idle)
    (empty : s.chu.queue = []) : requestEngage id s = (startChime ⟨id, true⟩ s, []) := by
  have fine : ¬(31 < id ∨ (s.chimeDef id).isNone = true) := by
    rintro (h | h)
    · omega
    · exact found (Option.isNone_iff_eq_none.1 h)
  have starts : requestChime ⟨id, true⟩ false s = ((startChime ⟨id, true⟩ s, []), resDone) := by
    rw [requestChime, if_neg fine, empty, idle]
    rfl
  unfold requestEngage
  rw [starts]
  rfl

/-! ### Engagement and release -/

/-- The Reverse Controller's engage request, where a chime is set up (R76). -/
def engageChime (s : State) : WithRaises := s.rvc.setup.chime.elim (s, []) fun id => requestEngage id s

/-- An engaged state before the raises. -/
def engaged (free : Nat) (s : State) : State :=
  let r := { s.rvc with engageTimer := some s.rvc.setup.engage, staleTimer := none, releaseAtStop := false, st := RevState.engaging }
  { (entering s).1 with
    rvc := r
    gde := (trigger { s with rvc := r, gde := { s.gde with outdated := true } }).gde
    chu := { s.chu with
      p := (syncVoiceP s.zone { s with rvc := r }).chu.p
      q := (engageChime s).1.chu.q
      queue := (engageChime s).1.chu.queue }
    seu := { s.seu with dirty := true }
    free := free }

theorem entering_setRvc (r : Rvc) (s : State) : ∃ d, entering (s.setRvc r) =
    ({ (entering s).1 with rvc := r, seu := { s.seu with dirty := d } }, (entering s).2) := by
  unfold entering
  have ccu : (s.setRvc r).ccu = s.ccu := rfl
  rw [ccu]
  split
  · exact ⟨true, startCapture_setRvc r s.seu s⟩
  · exact ⟨s.seu.dirty, rfl⟩

theorem engage_eq {s : State} (h : s.rvc.st = .normal) :
    ∃ f, engage s = raiseTogether [engageRaises s, (entering s).2, (engageChime s).2] (engaged f s) := by
  let w : State :=
    s.setRvc { s.rvc with engageTimer := some s.rvc.setup.engage, staleTimer := none, releaseAtStop := false }
  obtain ⟨f, move⟩ := moveReverse_enters (s := w) (st := .engaging) h (by decide)
  obtain ⟨d, starts⟩ := entering_setRvc
    { s.rvc with engageTimer := some s.rvc.setup.engage, staleTimer := none, releaseAtStop := false } s
  have unread : (trigger { w with rvc := { w.rvc with st := .engaging }, gde := { w.gde with outdated := true } }).gde =
      (trigger { s with rvc := { w.rvc with st := .engaging }, gde := { s.gde with outdated := true } }).gde := rfl
  rw [starts] at move
  refine ⟨f, ?_⟩
  unfold engage
  show raiseTogether [engageRaises s, (moveReverse .engaging w).2, _] _ = _
  rw [move]
  unfold engageChime engaged engageChime
  cases s.rvc.setup.chime with
  | none => rfl
  | some id =>
    let m : State := (moved .engaging { (entering s).1 with rvc := w.rvc, seu := { s.seu with dirty := d } }
      (trigger { s with rvc := { w.rvc with st := .engaging }, gde := { s.gde with outdated := true } }).gde f w)
    obtain ⟨raises, voice, rest⟩ := requestEngage_congr (s := s) (u := m) rfl rfl rfl id
    obtain ⟨queue, q, b, only⟩ := requestEngage_only id m
    show raiseTogether [engageRaises s, _, (requestEngage id m).2] (requestEngage id m).1 = _
    rw [only] at voice rest
    dsimp only at voice rest
    rw [raises, only, voice, rest]
    rfl

theorem releaseShown_eq (s : State) : ∃ d, releaseShown s =
    { s with ccu := { s.ccu with slots := withoutShown s.ccu.slots }, seu := { s.seu with dirty := s.seu.dirty || d } } := by
  unfold releaseShown
  by_cases shown : (shownSlot s.ccu.slots).isSome = true
  · rw [if_pos shown]
    exact ⟨true, by rw [Bool.or_true]; rfl⟩
  · have absent : ∀ x ∈ s.ccu.slots, x.st ≠ .shown := by
      simpa [shownSlot] using shown
    have same : withoutShown s.ccu.slots = s.ccu.slots := by
      unfold withoutShown
      exact (List.map_congr_left fun x hx => if_neg (absent x hx)).trans (List.map_id _)
    rw [if_neg shown, same]
    exact ⟨false, by rw [Bool.or_false]⟩

/-- The camera where NORMAL has been entered. -/
def released (s : State) : Ccu :=
  if s.scn.ctr.st = .stopped then { leaving s with slots := withoutShown (leaving s).slots } else leaving s

theorem enterNormal_eq {s : State} (h : s.rvc.st ≠ .normal) : ∃ f, enterNormal s = { s with
    rvc := { s.rvc with
      st := .normal
      engageTimer := none
      staleTimer := none
      lingerTimer := none
      releaseAtStop := decide (s.scn.ctr.st = .stopping) }
    ccu := released s
    gde := (syncGuide true { s with rvc := { s.rvc with st := .normal } }).gde
    chu := { s.chu with p := (syncVoiceP s.zone { s with rvc := { s.rvc with st := .normal } }).chu.p }
    seu := { (raise .revReleased (BitVec.ofNat 32 s.rvc.st.code) 0 s).seu with dirty := true }
    free := f } := by
  let w : State := (raise .revReleased (BitVec.ofNat 32 s.rvc.st.code) 0 s).setRvc { s.rvc with
    engageTimer := none
    staleTimer := none
    lingerTimer := none
    releaseAtStop := decide (s.scn.ctr.st = .stopping) }
  obtain ⟨f, move⟩ := moveReverse_leaves (s := w) h
  have voice : (syncVoiceP w.zone { w with rvc := { w.rvc with st := .normal } }).chu.p =
      (syncVoiceP s.zone { s with rvc := { s.rvc with st := .normal } }).chu.p := syncVoiceP_congr s.zone rfl rfl rfl rfl rfl
  have camera : leaving w = leaving s := by
    unfold leaving
    have same : w.ccu = s.ccu := rfl
    rw [same, stopCapture_congr (s := s) (u := w) rfl]
  have whole : enterNormal s = if (raised (moveReverse .normal w)).scn.ctr.st = .stopped
      then releaseShown (raised (moveReverse .normal w)) else raised (moveReverse .normal w) := rfl
  refine ⟨f, ?_⟩
  rw [whole, move]
  show (if s.scn.ctr.st = .stopped then releaseShown (moved .normal { w with ccu := leaving w } _ f w)
    else moved .normal { w with ccu := leaving w } _ f w) = _
  unfold moved released
  rw [voice, camera]
  split_ifs with stopped
  · obtain ⟨d, free⟩ := releaseShown_eq { w with
      ccu := leaving s
      rvc := { w.rvc with st := .normal }
      gde := (syncGuide true { w with rvc := { w.rvc with st := .normal } }).gde
      chu := { w.chu with p := (syncVoiceP s.zone { s with rvc := { s.rvc with st := .normal } }).chu.p }
      seu := { w.seu with dirty := true }
      free := f }
    exact free
  · rfl

end Sys2Proof.Proofs
end

section
/-! PROOFS. The evaluation of R, in every reverse state (R61, R64 to R71, R74 to R76, R86). -/

namespace Sys2Proof.Proofs

open Sys2Proof.Machine Sys2Proof.Safety

/-- The state in which R has its new value and nothing has followed yet. -/
def asked (now : Bool) (s : State) : State := { s with rvc := { s.rvc with request := now }, seu := { s.seu with dirty := true } }

section
variable {s : State}

theorem evaluateR_same (h : s.requestLevel = s.rvc.request) : evaluateR s = s := if_pos h

theorem evaluateR_rise (now : s.requestLevel = true) (before : s.rvc.request = false) : evaluateR s = riseOfR (asked true s) := by
  unfold evaluateR
  rw [now, before]
  rfl

theorem evaluateR_fall (now : s.requestLevel = false) (before : s.rvc.request = true) : evaluateR s = fallOfR (asked false s) := by
  unfold evaluateR
  rw [now, before]
  rfl

theorem riseOfR_normal (h : s.rvc.st = .normal) : riseOfR s = engage s := by
  rw [riseOfR, h]

theorem riseOfR_active (h : Selecting s) : riseOfR s = s := by
  rcases h with h | h | h <;> rw [riseOfR, h]

theorem fallOfR_idle (h : ¬Selecting s) : fallOfR s = s := by
  unfold Selecting at h
  push Not at h
  obtain ⟨engaging, live, blanked⟩ := h
  unfold fallOfR
  split
  · rfl
  · rfl
  · exact absurd ‹_› engaging
  · exact absurd ‹_› live
  · exact absurd ‹_› blanked

theorem fallOfR_active (h : Selecting s) : fallOfR s = if s.rvc.setup.linger = 0 then enterNormal s else
    raised (moveReverse .linger (s.setRvc { s.rvc with lingerTimer := some s.rvc.setup.linger, engageTimer := none, heldBlanked := decide (s.rvc.st = .blanked) })) := by
  rcases h with h | h | h <;> simp only [fallOfR, h]

theorem fallOfR_releases (h : Selecting s) (linger : s.rvc.setup.linger = 0) : fallOfR s = enterNormal s :=
  (fallOfR_active h).trans (if_pos linger)

/-- What a move between reverse states other than NORMAL touches. -/
def within (now : Bool) (r : Rvc) (free : Nat) (s : State) : State := { s with
  rvc := { r with request := now }
  chu := { s.chu with p := (syncVoiceP s.zone { s with rvc := r }).chu.p }
  seu := { s.seu with dirty := true }
  free := free }

theorem raised_within {st : RevState} {w : State} {now b : Bool} {r : Rvc} (rvc : w.rvc = { r with request := now })
    (rest : w = { s with rvc := w.rvc, seu := { s.seu with dirty := b } }) (h : r.st ≠ .normal) (h' : st ≠ .normal) :
    ∃ f, raised (moveReverse st w) = within now { r with st := st } f s := by
  obtain ⟨f, move⟩ := moveReverse_stays (s := w) (st := st) (by rw [rvc]; exact h) h'
  have voice : (syncVoiceP w.zone { w with rvc := { w.rvc with st := st } }).chu.p =
      (syncVoiceP s.zone { s with rvc := { r with st := st } }).chu.p := by
    rw [rest]
    exact syncVoiceP_congr s.zone rfl rfl rfl rfl rfl
  refine ⟨f, ?_⟩
  rw [move]
  show moved st w w.gde f w = _
  unfold moved within
  rw [voice, rvc, rest]

theorem riseOfR_live (h : s.rvc.st = .linger) (fresh : s.rvc.staleTimer ≠ none) :
    ∃ f, riseOfR (asked true s) = within true { s.rvc with lingerTimer := none, st := .live } f s := by
  have linger : (asked true s).rvc.st = .linger := h
  have running : s.rvc.staleTimer.isSome = true := Option.isSome_iff_ne_none.2 fresh
  obtain ⟨f, e⟩ := raised_within (s := s) (st := .live) (now := true) (r := { s.rvc with lingerTimer := none })
    (w := (asked true s).setRvc { (asked true s).rvc with lingerTimer := none }) rfl (b := true) rfl (by rw [h]; decide) (by decide)
  refine ⟨f, ?_⟩
  rw [riseOfR, linger]
  exact (if_pos running).trans e

theorem riseOfR_engaging (h : s.rvc.st = .linger) (stale : s.rvc.staleTimer = none) : ∃ f, riseOfR (asked true s) =
    within true { s.rvc with lingerTimer := none, engageTimer := some s.rvc.setup.engage, st := .engaging } f s := by
  have linger : (asked true s).rvc.st = .linger := h
  have stopped : ¬s.rvc.staleTimer.isSome = true := by rw [stale]; decide
  obtain ⟨f, e⟩ := raised_within (s := s) (st := .engaging) (now := true)
    (r := { s.rvc with lingerTimer := none, engageTimer := some s.rvc.setup.engage })
    (w := (asked true s).setRvc { (asked true s).rvc with lingerTimer := none, engageTimer := some s.rvc.setup.engage })
    rfl (b := true) rfl (by rw [h]; decide) (by decide)
  refine ⟨f, ?_⟩
  rw [riseOfR, linger]
  exact (if_neg stopped).trans e

theorem fallOfR_lingers (h : Selecting s) (linger : s.rvc.setup.linger ≠ 0) : ∃ f, fallOfR (asked false s) = within false { s.rvc with
    lingerTimer := some s.rvc.setup.linger, engageTimer := none, heldBlanked := decide (s.rvc.st = .blanked), st := .linger } f s := by
  let r : Rvc := { s.rvc with
    lingerTimer := some s.rvc.setup.linger
    engageTimer := none
    heldBlanked := decide (s.rvc.st = .blanked) }
  obtain ⟨f, e⟩ := raised_within (s := s) (st := .linger) (now := false) (r := r)
    (w := (asked false s).setRvc { r with request := false }) rfl (b := true) rfl h.ne (by decide)
  refine ⟨f, Eq.trans ?_ e⟩
  exact (fallOfR_active (s := asked false s) h).trans (if_neg linger)

/-- Where R neither engages nor releases the reverse state moves, if at all, between states other than NORMAL. -/
def Calm (now : Bool) (s t : State) : Prop :=
  t = asked now s ∨ ∃ r f, t = within now r f s ∧ r.setup = s.rvc.setup ∧ r.rev = s.rvc.rev ∧ r.debounced = s.rvc.debounced ∧
    r.revTimer = s.rvc.revTimer

abbrev Engages (s : State) : Prop := (s.requestLevel = true ∧ s.rvc.request = false) ∧ s.rvc.st = .normal

abbrev Releases (s : State) : Prop := (s.requestLevel = false ∧ s.rvc.request = true) ∧ Selecting s ∧ s.rvc.setup.linger = 0

theorem evaluateR_calm (changes : s.requestLevel ≠ s.rvc.request) (engages : ¬Engages s) (releases : ¬Releases s) :
    Calm s.requestLevel s (evaluateR s) := by
  cases now : s.requestLevel with
  | true =>
    have before : s.rvc.request = false := by simpa [now] using changes
    rw [evaluateR_rise now before]
    cases st : s.rvc.st with
    | normal => exact absurd ⟨⟨now, before⟩, st⟩ engages
    | engaging => exact .inl (riseOfR_active (.inl st))
    | live => exact .inl (riseOfR_active (.inr (.inl st)))
    | blanked => exact .inl (riseOfR_active (.inr (.inr st)))
    | linger =>
      by_cases stale : s.rvc.staleTimer = none
      · obtain ⟨f, e⟩ := riseOfR_engaging st stale
        exact .inr ⟨_, f, e, rfl, rfl, rfl, rfl⟩
      · obtain ⟨f, e⟩ := riseOfR_live st stale
        exact .inr ⟨_, f, e, rfl, rfl, rfl, rfl⟩
  | false =>
    have before : s.rvc.request = true := by simpa [now] using changes
    rw [evaluateR_fall now before]
    by_cases active : Selecting s
    · obtain ⟨f, e⟩ := fallOfR_lingers active fun linger => releases ⟨⟨now, before⟩, active, linger⟩
      exact .inr ⟨_, f, e, rfl, rfl, rfl, rfl⟩
    · exact .inl (fallOfR_idle active)

theorem evaluateR_engages (h : Engages s) : ∃ f, evaluateR s =
    raiseTogether [engageRaises s, (entering (asked true s)).2, (engageChime (asked true s)).2] (engaged f (asked true s)) := by
  obtain ⟨⟨now, before⟩, normal⟩ := h
  rw [evaluateR_rise now before, riseOfR_normal (s := asked true s) normal]
  exact engage_eq normal

theorem evaluateR_releases (h : Releases s) : evaluateR s = enterNormal (asked false s) := by
  obtain ⟨⟨now, before⟩, active, linger⟩ := h
  rw [evaluateR_fall now before]
  exact fallOfR_releases active linger

/-! ### What an evaluation leaves alone -/

/-- What every evaluation that changes R leaves alone, and R itself. -/
def EvaluationLeaves (s t : State) : Prop :=
  t.rvc.request = s.requestLevel ∧ t.seu.dirty = true ∧ t.rvc.setup = s.rvc.setup ∧ t.rvc.rev = s.rvc.rev ∧
    t.rvc.debounced = s.rvc.debounced ∧ t.rvc.revTimer = s.rvc.revTimer ∧ t.time = s.time ∧ t.cmu = s.cmu ∧
    t.scn = s.scn ∧ t.menu = s.menu ∧ t.links = s.links ∧ t.fqu = s.fqu ∧ t.layout = s.layout

theorem Calm.leaves {t : State} (h : Calm s.requestLevel s t) : EvaluationLeaves s t := by
  obtain rfl | ⟨r, f, rfl, setup, rev, debounced, timer⟩ := h
  · exact ⟨rfl, rfl, rfl, rfl, rfl, rfl, rfl, rfl, rfl, rfl, rfl, rfl, rfl⟩
  · exact ⟨rfl, rfl, setup, rev, debounced, timer, rfl, rfl, rfl, rfl, rfl, rfl, rfl⟩

theorem Calm.blocks {now : Bool} {t : State} (h : Calm now s t) : t.gde = s.gde ∧ t.ccu = s.ccu ∧ t.mem = s.mem ∧ t.ppw = s.ppw ∧
    t.fma = s.fma ∧ t.chu.q = s.chu.q ∧ t.chu.queue = s.chu.queue := by
  obtain rfl | ⟨r, f, rfl, _⟩ := h <;> exact ⟨rfl, rfl, rfl, rfl, rfl, rfl, rfl⟩

theorem Calm.voice {now : Bool} {t : State} (h : Calm now s t) (moves : t.rvc.st ≠ s.rvc.st) :
    t.chu.p = (syncVoiceP s.zone { s with rvc := { s.rvc with st := t.rvc.st } }).chu.p := by
  obtain rfl | ⟨r, f, rfl, _⟩ := h
  · exact absurd rfl moves
  · exact syncVoiceP_congr s.zone rfl rfl rfl rfl rfl

/-- A nonempty run of raises sets status-dirty. -/
theorem raiseAll_sets_dirty {rs : List Raise} (h : s.seu.dirty = true) : (raiseAll rs s).seu.dirty = true := by
  induction rs generalizing s with
  | nil => exact h
  | cons r rs ih => exact ih (by unfold raise; rfl)

theorem entering_leaves (s : State) : (entering s).1.time = s.time ∧ (entering s).1.cmu = s.cmu ∧ (entering s).1.scn = s.scn ∧
    (entering s).1.menu = s.menu ∧ (entering s).1.links = s.links ∧ (entering s).1.fqu = s.fqu ∧ (entering s).1.layout = s.layout := by
  obtain ⟨m, ppw, mon, d, c, only⟩ := entering_only s
  rw [only]
  exact ⟨rfl, rfl, rfl, rfl, rfl, rfl, rfl⟩

theorem entering_asked (now : Bool) (s : State) : entering (asked now s) =
    ({ (entering s).1 with rvc := { s.rvc with request := now }, seu := { s.seu with dirty := true } }, (entering s).2) := by
  unfold entering
  have same : (asked now s).ccu = s.ccu := rfl
  rw [same]
  split
  · exact startCapture_setRvc { s.rvc with request := now } { s.seu with dirty := true } s
  · rfl

theorem engageChime_asked (now : Bool) (s : State) : SameChimes (engageChime (asked now s)) (engageChime s) := by
  unfold engageChime
  have same : (asked now s).rvc.setup = s.rvc.setup := rfl
  rw [same]
  cases s.rvc.setup.chime with
  | none => exact ⟨rfl, rfl, rfl⟩
  | some id => exact requestEngage_congr (s := s) (u := asked now s) rfl rfl rfl id

/-- An engagement, and what it raises in some order that keeps each block's own (R167). -/
theorem evaluateR_engaged (h : Engages s) : ∃ f rs seu g, evaluateR s = { engaged f (asked true s) with seu := seu, free := g } ∧
    seu.dirty = true ∧ RaisesTo rs s (evaluateR s) ∧ (engageRaises s).Sublist rs ∧
    rs.Perm (engageRaises s ++ (entering s).2 ++ (engageChime s).2) := by
  obtain ⟨f, e⟩ := evaluateR_engages h
  have capture : (entering (asked true s)).2 = (entering s).2 := by rw [entering_asked]
  have chime := (engageChime_asked true s).1
  rw [capture, chime] at e
  let rest := interleaveAll ((engaged f (asked true s)).free + (engageRaises s).length) [(entering s).2, (engageChime s).2]
  let rs := interleave (engaged f (asked true s)).free (engageRaises s) rest
  let w : State := { engaged f (asked true s) with
    free := (engaged f (asked true s)).free + [engageRaises s, (entering s).2, (engageChime s).2].flatten.length }
  have whole : raiseTogether [engageRaises s, (entering s).2, (engageChime s).2] (engaged f (asked true s)) = raiseAll rs w := rfl
  have time : w.time = s.time := (entering_leaves (asked true s)).1
  rw [whole] at e
  refine ⟨f, rs, (evaluateR s).seu, (evaluateR s).free, ?_, ?_, ?_, (interleave_sublist ..).1, ?_⟩
  · rw [e, raiseAll_eq]
  · rw [e]
    exact raiseAll_sets_dirty rfl
  · rw [e]
    exact raisesTo_raiseAll (s := s) (u := w) (b := true) rfl time rs
  · refine (interleave_perm ..).trans ?_
    rw [List.append_assoc, show rest = interleave _ (entering s).2 (engageChime s).2 from interleaveAll_two ..]
    exact (interleave_perm ..).append_left _

end

end Sys2Proof.Proofs
end

section
/-! PROOFS. RequestEvaluation (R46, R61, R64, R65, R69 to R71, R74 to R76, R86, R130). -/

namespace Sys2Proof.Proofs

open Sys2Proof.Machine Sys2Proof.Safety

section
variable {s t : State} {rs : List Raise}

/-- Raises of an operation, where no decision of the arbiter follows. -/
theorem RaisesTo.made (h : RaisesTo rs s t) : Raises rs s t := by
  obtain ⟨d, hd⟩ := h
  rw [Raises, hd]

theorem within_raises (now : Bool) (r : Rvc) (f : Nat) (s : State) : Raises [] s (within now r f s) := rfl

theorem evaluateR_frame (changes : s.requestLevel ≠ s.rvc.request) : EvaluationLeaves s (evaluateR s) := by
  by_cases engages : Engages s
  · obtain ⟨f, rs, seu, g, e, dirty, _⟩ := evaluateR_engaged engages
    obtain ⟨time, cmu, scn, menu, links, fqu, layout⟩ := entering_leaves s
    rw [e, engaged, entering_asked]
    exact ⟨engages.1.1.symm, dirty, rfl, rfl, rfl, rfl, time, cmu, scn, menu, links, fqu, layout⟩
  · by_cases releases : Releases s
    · obtain ⟨f, e⟩ := enterNormal_eq (s := asked false s) releases.2.1.ne
      rw [evaluateR_releases releases, e]
      exact ⟨releases.1.1.symm, rfl, rfl, rfl, rfl, rfl, rfl, rfl, rfl, rfl, rfl, rfl, rfl⟩
    · exact (evaluateR_calm changes engages releases).leaves

/-- What an evaluation that neither engages nor releases leaves alone. -/
theorem evaluateR_blocks (engages : ¬Engages s) (releases : ¬Releases s) : (evaluateR s).gde = s.gde ∧ (evaluateR s).ccu = s.ccu ∧
    (evaluateR s).mem = s.mem ∧ (evaluateR s).ppw = s.ppw ∧ (evaluateR s).fma = s.fma ∧ (evaluateR s).chu.q = s.chu.q ∧
    (evaluateR s).chu.queue = s.chu.queue := by
  by_cases changes : s.requestLevel = s.rvc.request
  · rw [evaluateR_same changes]
    exact ⟨rfl, rfl, rfl, rfl, rfl, rfl, rfl⟩
  · exact (evaluateR_calm changes engages releases).blocks

theorem evaluateR_unspoken (engages : ¬Engages s) : (evaluateR s).mem = s.mem ∧ (evaluateR s).ppw = s.ppw ∧
    (evaluateR s).fma = s.fma ∧ (evaluateR s).chu.q = s.chu.q ∧ (evaluateR s).chu.queue = s.chu.queue := by
  by_cases releases : Releases s
  · obtain ⟨f, e⟩ := enterNormal_eq (s := asked false s) releases.2.1.ne
    rw [evaluateR_releases releases, e]
    exact ⟨rfl, rfl, rfl, rfl, rfl⟩
  · obtain ⟨_, _, mem, ppw, fma, q, queue⟩ := evaluateR_blocks engages releases
    exact ⟨mem, ppw, fma, q, queue⟩

theorem evaluateR_voice (moves : (evaluateR s).rvc.st ≠ s.rvc.st) : (evaluateR s).chu.p =
    (syncVoiceP s.zone { s with rvc := { s.rvc with st := (evaluateR s).rvc.st } }).chu.p := by
  by_cases engages : Engages s
  · obtain ⟨f, rs, seu, g, e, _⟩ := evaluateR_engaged engages
    rw [e]
    exact syncVoiceP_congr s.zone rfl rfl rfl rfl rfl
  · by_cases releases : Releases s
    · obtain ⟨f, e⟩ := enterNormal_eq (s := asked false s) releases.2.1.ne
      rw [evaluateR_releases releases, e]
      exact syncVoiceP_congr s.zone rfl rfl rfl rfl rfl
    · by_cases changes : s.requestLevel = s.rvc.request
      · exact absurd (by rw [evaluateR_same changes]) moves
      · exact (evaluateR_calm changes engages releases).voice moves

theorem syncGuide_congr {u : State} (gde : u.gde = s.gde) (normal : s.rvc.st = .normal) (normal' : u.rvc.st = .normal) :
    (syncGuide true u).gde = (syncGuide true s).gde := by
  rw [syncGuide_inactive normal rfl, syncGuide_inactive normal' rfl, guideInactive, guideInactive, gde]
  rfl

/-- The camera after a release. -/
theorem released_asked (now : Bool) (s : State) : released (asked now s) = released s := by
  have same : leaving (asked now s) = leaving s := by
    unfold leaving
    have ccu : (asked now s).ccu = s.ccu := rfl
    rw [ccu, stopCapture_congr (s := s) (u := asked now s) rfl]
  unfold released
  rw [same]
  rfl

/-- NORMAL is entered with REV_RELEASED raised, whatever status-dirty was. -/
theorem enterNormal_raises (h : s.rvc.st ≠ .normal) (b : Bool) :
    RaisesTo [⟨.revReleased, BitVec.ofNat 32 s.rvc.st.code, 0⟩] { s with seu := { s.seu with dirty := b } } (enterNormal s) := by
  obtain ⟨f, e⟩ := enterNormal_eq h
  obtain ⟨d, raised⟩ := raisesTo_raiseAll (s := { s with seu := { s.seu with dirty := b } }) (u := s) (b := s.seu.dirty) rfl rfl
    [⟨.revReleased, BitVec.ofNat 32 s.rvc.st.code, 0⟩]
  refine ⟨true, ?_⟩
  rw [e]
  show ({ (raiseAll [⟨.revReleased, BitVec.ofNat 32 s.rvc.st.code, 0⟩] s).seu with dirty := true } : Seu) = _
  rw [raised]

theorem evaluateR_released_raises (h : Releases s) :
    RaisesTo [⟨.revReleased, BitVec.ofNat 32 s.rvc.st.code, 0⟩] s (evaluateR s) := by
  obtain ⟨d, raises⟩ := enterNormal_raises (s := asked false s) h.2.1.ne s.seu.dirty
  rw [evaluateR_releases h]
  exact ⟨d, raises.trans (by rw [raiseAll_seu_congr (s := s) rfl rfl]; rfl)⟩

end

/-- Settles O27. -/
theorem requestEvaluation : Obligations.RequestEvaluation := by
  unfold Obligations.RequestEvaluation
  rintro s t rfl
  intro r pin vehicle now active rises falls engages releases
  have level : s.requestLevel = now := rfl
  refine ⟨evaluateR_same, evaluateR_frame, fun h => ?_, fun h linger => ?_, fun h within => ?_, fun h within linger => ?_,
    fun h => ?_, fun h idle => ?_, fun engages releases => ?_, evaluateR_unspoken, evaluateR_voice⟩
  · obtain ⟨f, rs, seu, g, e, _, raises, sublist, perm⟩ := evaluateR_engaged h
    obtain ⟨_, voice, rest⟩ := engageChime_asked true s
    have q : (evaluateR s).chu.q = (engageChime s).1.chu.q := by rw [e]; exact voice
    have queue : (evaluateR s).chu.queue = (engageChime s).1.chu.queue := by rw [e]; exact rest
    have gde : (evaluateR s).gde = (trigger { s with rvc := { r with st := .engaging }, gde := { s.gde with outdated := true } }).gde := by
      rw [e]
      exact trigger_congr rfl rfl rfl rfl
    have own : (⟨.revEngaged, if pin then 1 else 0, if vehicle then 1 else 0⟩ ::
        if s.scn.ctr.st = .running then [] else [⟨.revNoOutput, 1, if s.scn.ctr.st = .stopped then 0 else 2⟩] : List Raise) =
        engageRaises s := by
      unfold engageRaises
      rw [ofNat_ofBool, ofNat_ofBool]
      refine congrArg (List.cons _) ?_
      cases s.scn.ctr.st <;> rfl
    refine ⟨by rw [e]; rfl, by rw [e]; rfl, by rw [e]; rfl, by rw [e]; rfl, gde, ?_, fun id chime => ⟨requestEngage_bad, ?_⟩⟩
    · intro capture chime reports
      have starts : capture = entering s := rfl
      have plays : chime = engageChime s := by
        unfold engageChime
        simp only [chime, r]
        cases s.rvc.setup.chime <;> rfl
      rw [show reports = engageRaises s from own, plays, starts]
      refine ⟨?_, ?_, ?_, ?_, q, queue, rs, sublist, perm, raises.made⟩
      · rw [e, engaged, entering_asked]
      · rw [e, engaged, entering_asked]
      · rw [e, engaged, entering_asked]
      · rw [e, engaged, entering_asked]
    · intro small found idle empty
      have starts : engageChime s = (startChime ⟨id, true⟩ s, []) := by
        have setup : s.rvc.setup.chime = some id := chime
        rw [engageChime, setup]
        exact requestEngage_starts small found idle empty
      rw [q, starts]
      exact ⟨rfl, rfl, rfl⟩
  · by_cases stale : s.rvc.staleTimer = none
    · obtain ⟨f, e⟩ := riseOfR_engaging linger stale
      rw [evaluateR_rise h.1 h.2, e]
      exact ⟨rfl, rfl, rfl, rfl, fun fresh => absurd stale fresh, fun _ => ⟨rfl, rfl⟩⟩
    · obtain ⟨f, e⟩ := riseOfR_live linger stale
      rw [evaluateR_rise h.1 h.2, e]
      exact ⟨rfl, rfl, rfl, rfl, fun _ => ⟨rfl, rfl⟩, fun none => absurd none stale⟩
  · rw [evaluateR_rise h.1 h.2, riseOfR_active (s := asked true s) within]
    rfl
  · obtain ⟨f, e⟩ := fallOfR_lingers within linger
    rw [evaluateR_fall h.1 h.2, e]
    exact ⟨rfl, rfl, rfl, rfl, rfl, syncVoiceP_off _ (.inr rfl), rfl⟩
  · have release : Releases s := h
    obtain ⟨f, e⟩ := enterNormal_eq (s := asked false s) release.2.1.ne
    have raises := (evaluateR_released_raises release).made
    have code : BitVec.ofNat 32 s.rvc.st.code = if r.st = .engaging then 1 else if r.st = .live then 2 else 3 := by
      obtain st | st | st := h.2.1
      all_goals
        show BitVec.ofNat 32 s.rvc.st.code = if s.rvc.st = .engaging then 1 else if s.rvc.st = .live then 2 else 3
        rw [show s.rvc.st = _ from st]
        rfl
    rw [evaluateR_releases release, e] at raises
    rw [evaluateR_releases release, e, ← code]
    exact ⟨rfl, rfl, rfl, rfl, rfl, syncVoiceP_off _ (.inl rfl), raises, syncGuide_congr rfl rfl rfl, released_asked false s⟩
  · rw [evaluateR_fall h.1 h.2, fallOfR_idle (s := asked false s) idle]
    rfl
  · obtain ⟨gde, ccu, _⟩ := evaluateR_blocks engages releases
    exact ⟨gde, ccu⟩

end Sys2Proof.Proofs
end

section
/-! PROOFS. ReverseTimers (R67, R68, R70, R71, R74, R75, R86). -/

namespace Sys2Proof.Proofs

open Sys2Proof.Machine Sys2Proof.Safety

section
variable {s : State}

/-- The state of a degraded reverse view: BLANKED, with `r` else, and REV_DEGRADED raised. -/
def degraded (reason : Word) (r : Rvc) (f : Nat) (s : State) : State :=
  raise .revDegraded reason (if s.ccu.present then 1 else 0) (within s.rvc.request { r with st := .blanked } f s)

theorem engageExpiry_due (h : s.rvc.engageTimer = some 0) (st : s.rvc.st = .engaging) :
    ∃ f, engageExpiry s = degraded 1 { s.rvc with engageTimer := none } f s := by
  obtain ⟨f, e⟩ := raised_within (s := s) (st := .blanked) (now := s.rvc.request) (r := { s.rvc with engageTimer := none })
    (w := s.setRvc { s.rvc with engageTimer := none }) rfl (b := s.seu.dirty) rfl (by rw [st]; decide) (by decide)
  refine ⟨f, ?_⟩
  rw [engageExpiry, if_pos ⟨h, st⟩, e, State.presenceAux, ofNat_ofBool]
  rfl

theorem staleExpiry_live (h : s.rvc.staleTimer = some 0) (st : s.rvc.st = .live) :
    ∃ f, staleExpiry s = degraded 2 { s.rvc with staleTimer := none } f s := by
  obtain ⟨f, e⟩ := raised_within (s := s) (st := .blanked) (now := s.rvc.request) (r := { s.rvc with staleTimer := none })
    (w := (s.setRvc { s.rvc with staleTimer := none }).markDirty) rfl (b := true) rfl (by rw [st]; decide) (by decide)
  refine ⟨f, ?_⟩
  unfold staleExpiry
  rw [if_pos h]
  refine (if_pos (show (s.setRvc { s.rvc with staleTimer := none }).markDirty.rvc.st = .live from st)).trans ?_
  rw [e, State.presenceAux, ofNat_ofBool]
  rfl

theorem staleExpiry_linger (h : s.rvc.staleTimer = some 0) (st : s.rvc.st = .linger) :
    staleExpiry s = { s with rvc := { s.rvc with staleTimer := none }, seu := { s.seu with dirty := true } } := by
  unfold staleExpiry
  rw [if_pos h]
  refine if_neg (show ¬(s.setRvc { s.rvc with staleTimer := none }).markDirty.rvc.st = .live from ?_)
  show ¬s.rvc.st = .live
  rw [st]
  decide

/-- What a degraded state shows, after any decision of the arbiter. -/
theorem degraded_shows {reason : Word} {r : Rvc} {f : Nat} {t : State} (setup : r.setup = s.rvc.setup) (k : Decided (degraded reason r f s) t) :
    t.rvc.st = .blanked ∧ t.rvc.engageTimer = r.engageTimer ∧ t.rvc.staleTimer = r.staleTimer ∧ t.rvc.setup = s.rvc.setup ∧
    Raises [⟨.revDegraded, reason, if s.ccu.present then 1 else 0⟩] s t ∧ t.ccu.slots = s.ccu.slots ∧ t.gde = s.gde ∧ t.scn = s.scn ∧
    t.fqu = s.fqu ∧ t.mem = s.mem ∧ t.ppw = s.ppw ∧ t.cmu = s.cmu ∧ t.time = s.time := by
  have raises : RaisesTo [⟨.revDegraded, reason, if s.ccu.present then 1 else 0⟩] s (degraded reason r f s) :=
    raisesTo_raiseAll (s := s) (u := within s.rvc.request { r with st := .blanked } f s) (b := true) rfl rfl _
  have rvc : t.rvc = (degraded reason r f s).rvc := k.rvc
  refine ⟨by rw [rvc]; rfl, by rw [rvc]; rfl, by rw [rvc]; rfl, by rw [rvc]; exact setup, RaisesTo.raises raises k, ?_, k.gde, k.scn,
    k.fqu, k.mem, k.ppw, k.cmu, k.time⟩
  rw [k.ccu]
  rfl

theorem lingerExpiry_due (h : s.rvc.lingerTimer = some 0) (st : s.rvc.st = .linger) : lingerExpiry s = enterNormal s :=
  if_pos ⟨h, st⟩

theorem filmHeld_reversing (h : s.rvc.st ≠ .normal) : s.filmHeld = s.rvc.setup.filmHold := by
  rw [State.filmHeld, (reversing_iff s).2 h, Bool.and_true]

theorem filmHeld_normal (h : s.rvc.st = .normal) : s.filmHeld = false := by
  rw [State.filmHeld, (reversing_eq_false_iff s).2 h, Bool.and_false]

theorem profile_eq (s : State) : s.profile = if s.rvc.st = .normal then s.fma.normal else s.fma.reverse := by
  unfold State.profile
  by_cases h : s.rvc.st = .normal
  · rw [(reversing_eq_false_iff s).2 h, if_pos h]
    rfl
  · rw [(reversing_iff s).2 h, if_neg h]
    rfl

theorem rangeActive_reverse {g : GuardRange} (h : g.cond = .reverse) : s.rangeActive g = s.reversing := by
  rw [State.rangeActive, h]

theorem voicePEnabled_iff (s : State) : s.voicePEnabled = true ↔ Selecting s := by
  unfold State.voicePEnabled Selecting
  cases s.rvc.st <;> decide

end

/-- Settles O28: each expiry by its equation; the couplings are levels of the reverse state by definition. -/
theorem reverseTimers : Obligations.ReverseTimers := by
  refine ⟨fun s running => ⟨fun due st => ?_, fun due st => ?_, fun due st => ?_, fun due st => ?_⟩, fun s => ⟨fun h => ?_, fun h => ?_,
    voicePEnabled_iff s⟩⟩
  · obtain ⟨f, e⟩ := engageExpiry_due due st
    obtain ⟨t, ht, k⟩ := answers_of_live (i := .engageTimerExpiry) rfl running e
    obtain ⟨now, engage, stale, rest⟩ := degraded_shows (by rfl) k
    exact ⟨t, ht, now, engage, stale, rest⟩
  · obtain ⟨f, e⟩ := staleExpiry_live due st
    obtain ⟨t, ht, k⟩ := answers_of_live (i := .staleTimerExpiry) rfl running e
    obtain ⟨now, _, stale, rest⟩ := degraded_shows (by rfl) k
    exact ⟨t, ht, now, stale, rest⟩
  · exact answers_of_live rfl running (staleExpiry_linger due st)
  · have away : s.rvc.st ≠ .normal := by rw [st]; decide
    obtain ⟨t, ht, k⟩ := answers_of_live (i := .lingerTimerExpiry) rfl running (lingerExpiry_due due st)
    have raises := RaisesTo.raises (enterNormal_raises away s.seu.dirty) k
    obtain ⟨f, e⟩ := enterNormal_eq away
    have code : BitVec.ofNat 32 s.rvc.st.code = 4 := by rw [st]; rfl
    rw [code] at raises
    rw [e] at k
    refine ⟨t, ht, by rw [k.rvc], by rw [k.rvc], by rw [k.rvc], by rw [k.rvc], by rw [k.rvc], by rw [k.rvc], raises, k.gde, ?_, k.scn,
      k.fqu, k.mem, k.ppw, k.cmu, k.time⟩
    have camera : leaving s = if s.ccu.setup.isSome && !s.ccu.enable then (stopCapture s).ccu else s.ccu := rfl
    rw [k.ccu, ← camera]
    show (released s).frame = (leaving s).frame ∧ (released s).slots = _
    unfold released
    split_ifs <;> exact ⟨rfl, rfl⟩
  · refine ⟨by rw [profile_eq, if_neg h], fun setup => ?_, filmHeld_reversing h, fun g hg => ?_⟩
    · rw [capturing_reversing h]
      exact Option.isSome_iff_ne_none.2 setup
    · rw [rangeActive_reverse hg]
      exact (reversing_iff s).2 h
  · refine ⟨by rw [profile_eq, if_pos h], fun off => ?_, filmHeld_normal h, fun g hg => ?_⟩
    · rw [capturing_normal h, off, Bool.and_false]
    · rw [rangeActive_reverse hg]
      exact (reversing_eq_false_iff s).2 h

end Sys2Proof.Proofs
end

section
/-! PROOFS. REVERSE_SETUP (R61 to R63, R87): the evaluation of R reads neither the command in execution nor, where no processor burst
holds the memory, the memory's holder. -/

namespace Sys2Proof.Proofs

open Sys2Proof.Machine Sys2Proof.Safety

section
variable {scn : PerOutput Scan} {cmu : Cmu} {mem : MemState} {s : State}

theorem beside_trigger {d : Bool} (h : scn.ctr.timing = s.scn.ctr.timing) :
    trigger (beside scn cmu mem d s) = beside scn cmu mem d (trigger s) := by
  by_cases normal : s.rvc.st = .normal
  · rw [trigger_inactive normal, trigger_inactive (s := beside scn cmu mem d s) normal]
  · cases hr : s.gde.recompute with
    | idle =>
      by_cases complete : s.gde.idle = .complete
      · rw [trigger_complete normal hr complete, trigger_complete (s := beside scn cmu mem d s) normal hr complete]
        exact beside_setGde { s.gde with recompute := .waiting } s
      · rw [trigger_idle normal hr complete, trigger_idle (s := beside scn cmu mem d s) normal hr complete, beside_startRecompute h]
    | running =>
      rw [trigger_running normal hr, trigger_running (s := beside scn cmu mem d s) normal hr]
      exact beside_dirtyIf (!s.gde.pendingFlag) (s.setGde { s.gde with pendingFlag := true })
    | waiting => rw [trigger_waiting hr, trigger_waiting (s := beside scn cmu mem d s) hr]

theorem beside_syncGuide {d : Bool} (was : Bool) (h : scn.ctr.timing = s.scn.ctr.timing) :
    syncGuide was (beside scn cmu mem d s) = beside scn cmu mem d (syncGuide was s) := by
  have level : (beside scn cmu mem d s).reversing = s.reversing := rfl
  have guide : (beside scn cmu mem d s).gde = s.gde := rfl
  unfold syncGuide guideActive guideInactive
  rw [level, guide]
  split_ifs
  · rw [beside_setGde]
    exact beside_trigger h
  · exact beside_setGde ..
  · rfl

variable (port : NoPort s.fma.memory) (port' : NoPort mem)
include port port'

theorem beside_syncCapture {d : Bool} (was : Bool) :
    syncCapture was (beside scn cmu mem d s) = (beside scn cmu mem d (syncCapture was s).1, (syncCapture was s).2) := by
  have run : (beside scn cmu mem d s).capturing = s.capturing := rfl
  unfold syncCapture
  rw [run]
  split_ifs
  · exact beside_startCapture port port'
  · exact congrArg (·, _) (beside_stopCapture s)
  · rfl

theorem beside_moveReverse {d : Bool} (st : RevState) (h : scn.ctr.timing = s.scn.ctr.timing) :
    moveReverse st (beside scn cmu mem d s) = (beside scn cmu mem d (moveReverse st s).1, (moveReverse st s).2) := by
  let w : State := (s.setRvc { s.rvc with st := st }).markDirty
  have now : ((beside scn cmu mem d s).setRvc { (beside scn cmu mem d s).rvc with st := st }).markDirty = beside scn cmu mem d w :=
    beside_markDirty (s.setRvc { s.rvc with st := st })
  have run : (beside scn cmu mem d s).capturing = s.capturing := rfl
  have level : (beside scn cmu mem d s).reversing = s.reversing := rfl
  have zone : (beside scn cmu mem d s).zone = s.zone := rfl
  obtain ⟨ccu, m, ppw, fma, d', only⟩ := syncCapture_only s.capturing w
  unfold moveReverse
  rw [now, run, level, zone, beside_syncCapture (s := w) port port']
  dsimp only
  rw [beside_syncGuide s.reversing (by rw [only]; exact h), beside_syncVoiceP]

end

/-! ### The engage chime -/

section
variable {scn : PerOutput Scan} {cmu : Cmu} {mem : MemState} {d : Bool}

theorem beside_setQueue (q : List ChimeEntry) (s : State) :
    (beside scn cmu mem d s).setQueue q = beside scn cmu mem d (s.setQueue q) :=
  beside_markDirty { s with chu := { s.chu with queue := q } }

theorem beside_startChime (e : ChimeEntry) (s : State) :
    startChime e (beside scn cmu mem d s) = beside scn cmu mem d (startChime e s) :=
  beside_markDirty { s with chu := { s.chu with q := (startChime e s).chu.q } }

theorem beside_displace (s : State) :
    displace (beside scn cmu mem d s) = (beside scn cmu mem d (displace s).1, (displace s).2) := by
  have chimes : (beside scn cmu mem d s).chu = s.chu := rfl
  have found : (beside scn cmu mem d s).chimeDef = s.chimeDef := rfl
  have prio : (beside scn cmu mem d s).chimePriority = s.chimePriority := rfl
  unfold displace
  rw [chimes, found, prio]
  dsimp only
  split_ifs
  · rfl
  · rfl
  · rw [beside_setQueue]
  · rw [beside_setQueue]

theorem beside_requestFull (e : ChimeEntry) (s : State) : requestFull e (beside scn cmu mem d s) =
    ((beside scn cmu mem d (requestFull e s).1.1, (requestFull e s).1.2), (requestFull e s).2) := by
  have chimes : (beside scn cmu mem d s).chu = s.chu := rfl
  have prio : (beside scn cmu mem d s).chimePriority = s.chimePriority := rfl
  unfold requestFull
  rw [chimes, prio]
  cases s.chu.queue.getLast? with
  | none => rfl
  | some last =>
    dsimp only
    split_ifs
    · rw [beside_setQueue]
    · rfl

theorem beside_requestChime (e : ChimeEntry) (restart : Bool) (s : State) : requestChime e restart (beside scn cmu mem d s) =
    ((beside scn cmu mem d (requestChime e restart s).1.1, (requestChime e restart s).1.2), (requestChime e restart s).2) := by
  have chimes : (beside scn cmu mem d s).chu = s.chu := rfl
  have found : (beside scn cmu mem d s).chimeDef = s.chimeDef := rfl
  have prio : (beside scn cmu mem d s).chimePriority = s.chimePriority := rfl
  unfold requestChime
  rw [chimes, found, prio, beside_startChime, beside_displace, beside_setQueue, beside_requestFull]
  dsimp only
  rw [beside_startChime]
  split_ifs <;> rfl

theorem beside_requestEngage (id : Nat) (s : State) :
    requestEngage id (beside scn cmu mem d s) = (beside scn cmu mem d (requestEngage id s).1, (requestEngage id s).2) := by
  unfold requestEngage
  rw [beside_requestChime]
  dsimp only
  split_ifs <;> rfl

end

/-! ### The evaluation of R -/

section
variable {scn : PerOutput Scan} {cmu : Cmu} {mem : MemState} {s : State}

theorem beside_raiseTogether (rss : List (List Raise)) (s : State) :
    raiseTogether rss (beside scn cmu mem false s) = beside scn cmu mem false (raiseTogether rss s) :=
  beside_raiseAll _ { s with free := s.free + rss.flatten.length }

theorem beside_raised {x : WithRaises} : raised (beside scn cmu mem false x.1, x.2) = beside scn cmu mem false (raised x) :=
  beside_raiseAll x.2 x.1

theorem setRvc_beside (r : Rvc) (s : State) : (beside scn cmu mem false s).setRvc r = beside scn cmu mem false (s.setRvc r) := rfl

variable (port : NoPort s.fma.memory) (port' : NoPort mem) (same : scn = s.scn)
include port port' same

theorem beside_engage : engage (beside scn cmu mem false s) = beside scn cmu mem false (engage s) := by
  have rvc : (beside scn cmu mem false s).rvc = s.rvc := rfl
  have reports : engageRaises (beside scn cmu mem false s) = engageRaises s := by
    subst same
    rfl
  let r : Rvc := { s.rvc with engageTimer := some s.rvc.setup.engage, staleTimer := none, releaseAtStop := false }
  unfold engage
  rw [reports, rvc, setRvc_beside,
    beside_moveReverse (s := s.setRvc r) port port' .engaging (by rw [same]; rfl)]
  cases s.rvc.setup.chime with
  | none => exact beside_raiseTogether ..
  | some id =>
    dsimp only
    rw [beside_requestEngage]
    exact beside_raiseTogether ..

theorem beside_enterNormal : enterNormal (beside scn cmu mem false s) = beside scn cmu mem false (enterNormal s) := by
  let x : State := raise .revReleased (BitVec.ofNat 32 s.rvc.st.code) 0 s
  let w : State := x.setRvc { x.rvc with
    engageTimer := none
    staleTimer := none
    lingerTimer := none
    releaseAtStop := decide (x.scn.ctr.st = .stopping) }
  have noted : (raise .revReleased (BitVec.ofNat 32 (beside scn cmu mem false s).rvc.st.code) 0 (beside scn cmu mem false s)) =
      beside scn cmu mem false x := beside_raise ..
  have output : (beside scn cmu mem false x).scn.ctr.st = x.scn.ctr.st := by subst same; rfl
  have rvc : (beside scn cmu mem false x).rvc = x.rvc := rfl
  have after (y : State) (h : y.scn = s.scn) : (beside scn cmu mem false y).scn.ctr.st = y.scn.ctr.st := by
    subst same
    rw [h]
    rfl
  have still : (raised (moveReverse .normal w)).scn = s.scn := by
    have away : (moveReverse .normal w).1.scn = w.scn := by
      unfold moveReverse
      dsimp only
      obtain ⟨_, _, _, voice⟩ := syncVoiceP_only w.zone (syncGuide w.reversing
        (syncCapture w.capturing (w.setRvc { w.rvc with st := .normal }).markDirty).1)
      obtain ⟨_, _, guide⟩ := syncGuide_guideOnly w.reversing (syncCapture w.capturing (w.setRvc { w.rvc with st := .normal }).markDirty).1
      obtain ⟨_, _, _, _, _, camera⟩ := syncCapture_only w.capturing (w.setRvc { w.rvc with st := .normal }).markDirty
      rw [voice, guide, camera]
      rfl
    rw [raised_eq]
    exact away
  unfold enterNormal
  rw [noted]
  dsimp only
  rw [rvc, output, setRvc_beside, beside_moveReverse (s := w) port port' .normal (by rw [same]; rfl), beside_raised, after _ still, beside_releaseShown]
  exact (apply_ite (beside scn cmu mem false) _ _ _).symm

theorem beside_riseOfR : riseOfR (beside scn cmu mem false s) = beside scn cmu mem false (riseOfR s) := by
  have rvc : (beside scn cmu mem false s).rvc = s.rvc := rfl
  have moves (st : RevState) (r : Rvc) : raised (moveReverse st (beside scn cmu mem false (s.setRvc r))) =
      beside scn cmu mem false (raised (moveReverse st (s.setRvc r))) := by
    rw [beside_moveReverse (s := s.setRvc r) port port' st (by rw [same]; rfl), beside_raised]
  unfold riseOfR
  rw [rvc]
  cases s.rvc.st with
  | normal => exact beside_engage port port' same
  | linger =>
    dsimp only
    rw [setRvc_beside]
    refine Eq.trans ?_ (apply_ite (beside scn cmu mem false) _ _ _).symm
    exact if_congr Iff.rfl (moves ..) (moves ..)
  | engaging | live | blanked => rfl

theorem beside_fallOfR : fallOfR (beside scn cmu mem false s) = beside scn cmu mem false (fallOfR s) := by
  by_cases active : Selecting s
  · rw [fallOfR_active active, fallOfR_active (s := beside scn cmu mem false s) active]
    have moves (st : RevState) (r : Rvc) : raised (moveReverse st (beside scn cmu mem false (s.setRvc r))) =
        beside scn cmu mem false (raised (moveReverse st (s.setRvc r))) := by
      rw [beside_moveReverse (s := s.setRvc r) port port' st (by rw [same]; rfl), beside_raised]
    refine Eq.trans ?_ (apply_ite (beside scn cmu mem false) _ _ _).symm
    exact if_congr Iff.rfl (beside_enterNormal port port' same) (moves ..)
  · rw [fallOfR_idle active, fallOfR_idle (s := beside scn cmu mem false s) active]

theorem beside_evaluateR : evaluateR (beside scn cmu mem false s) = beside scn cmu mem false (evaluateR s) := by
  have level : (beside scn cmu mem false s).requestLevel = s.requestLevel := rfl
  have rvc : (beside scn cmu mem false s).rvc = s.rvc := rfl
  let w : State := (s.setRvc { s.rvc with request := s.requestLevel }).markDirty
  unfold evaluateR
  rw [level, rvc]
  dsimp only
  split_ifs
  · rfl
  · rw [setRvc_beside, beside_markDirty]
    exact beside_riseOfR (s := w) port port' same
  · rw [setRvc_beside, beside_markDirty]
    exact beside_fallOfR (s := w) port port' same

end

/-! ### REVERSE_SETUP -/

section
variable {k : Byte} {r : Rec} {s : State}

/-- An evaluation of R holds no part of the memory and starts no command. -/
theorem evaluateR_leaves (s : State) :
    (evaluateR s).scn = s.scn ∧ (evaluateR s).cmu = s.cmu ∧ (evaluateR s).fma.memory = s.fma.memory := by
  by_cases changes : s.requestLevel = s.rvc.request
  · rw [evaluateR_same changes]
    exact ⟨rfl, rfl, rfl⟩
  · obtain ⟨_, _, _, _, _, _, _, cmu, scn, _⟩ := evaluateR_frame changes
    refine ⟨scn, cmu, ?_⟩
    by_cases engages : Engages s
    · obtain ⟨f, rs, seu, g, e, _⟩ := evaluateR_engaged engages
      obtain ⟨_, _, _, _, _, only⟩ := entering_only s
      rw [e, engaged, entering_asked, only]
    · rw [(evaluateR_unspoken engages).2.2.1]

theorem arriveAs_evaluateR (h : NoPort s.fma.memory) : arriveAs k r (evaluateR s) = evaluateR (arriveAs k r s) := by
  obtain ⟨scn, cmu, mem⟩ := evaluateR_leaves s
  exact arriveAs_commutes scn cmu mem (beside_evaluateR h (ended_noPort _) rfl)

/-- The ranges of the record of REVERSE_SETUP (R62). -/
def revGood (r : Rec) : Prop :=
  field r.op4 28 2 ≤ 2 ∧ (100 ≤ field r.op1 0 16 ∧ field r.op1 0 16 ≤ 2000) ∧
    (100 ≤ field r.op1 16 16 ∧ field r.op1 16 16 ≤ 1000) ∧ field r.op2 0 16 ≤ 10000 ∧ field r.op2 16 16 ≤ 540 ∧
    (field r.op3 0 12 ≤ 1919 ∧ field r.op3 12 12 ≤ 1079) ∧ (field r.op4 24 4 = 1 ∨ field r.op4 24 4 = 2) ∧
    (field r.op3 24 8 ≤ 31 ∨ field r.op3 24 8 = 255)

/-- The setup that a record names (R62). -/
def revRecord (r : Rec) : RevSetup :=
  { source := if field r.op4 28 2 = 0 then .pin else if field r.op4 28 2 = 1 then .vehicle else .either
    engage := field r.op1 0 16
    stale := field r.op1 16 16
    linger := field r.op2 0 16
    strip := field r.op2 16 16
    x := field r.op3 0 12
    y := field r.op3 12 12
    scale := field r.op4 24 4
    fill := r.op4.setWidth 24
    unavailable := r.op5.setWidth 24
    chime := if field r.op3 24 8 = 255 then none else some (field r.op3 24 8)
    filmHold := r.op4.getLsbD 31 }

theorem revSetupOf_good (h : revGood r) : revSetupOf r = some (revRecord r) := by
  obtain ⟨source, engage, stale, linger, strip, place, scale, chime⟩ := h
  have inRange : 100 ≤ field r.op1 0 16 ∧ field r.op1 0 16 ≤ 2000 ∧ 100 ≤ field r.op1 16 16 ∧ field r.op1 16 16 ≤ 1000 ∧
      field r.op2 0 16 ≤ 10000 ∧ field r.op2 16 16 ≤ 540 ∧ field r.op3 0 12 ≤ 1919 ∧ field r.op3 12 12 ≤ 1079 ∧
      (field r.op4 24 4 = 1 ∨ field r.op4 24 4 = 2) ∧ (field r.op3 24 8 ≤ 31 ∨ field r.op3 24 8 = 255) :=
    ⟨engage.1, engage.2, stale.1, stale.2, linger, strip, place.1, place.2, scale, chime⟩
  unfold revSetupOf revRecord
  dsimp only
  obtain code | code | code : field r.op4 28 2 = 0 ∨ field r.op4 28 2 = 1 ∨ field r.op4 28 2 = 2 := by omega
  all_goals
    rw [code]
    exact if_pos inRange

theorem revSetupOf_bad (h : ¬revGood r) : revSetupOf r = none := by
  by_cases source : field r.op4 28 2 ≤ 2
  · have outside : ¬(100 ≤ field r.op1 0 16 ∧ field r.op1 0 16 ≤ 2000 ∧ 100 ≤ field r.op1 16 16 ∧ field r.op1 16 16 ≤ 1000 ∧
        field r.op2 0 16 ≤ 10000 ∧ field r.op2 16 16 ≤ 540 ∧ field r.op3 0 12 ≤ 1919 ∧ field r.op3 12 12 ≤ 1079 ∧
        (field r.op4 24 4 = 1 ∨ field r.op4 24 4 = 2) ∧ (field r.op3 24 8 ≤ 31 ∨ field r.op3 24 8 = 255)) :=
      fun ⟨e, e', f, f', linger, strip, x, y, scale, chime⟩ => h ⟨source, ⟨e, e'⟩, ⟨f, f'⟩, linger, strip, ⟨x, y⟩, scale, chime⟩
    unfold revSetupOf
    dsimp only
    obtain code | code | code : field r.op4 28 2 = 0 ∨ field r.op4 28 2 = 1 ∨ field r.op4 28 2 = 2 := by omega
    all_goals
      rw [code]
      exact if_neg outside
  · unfold revSetupOf
    dsimp only
    split
    · omega
    · omega
    · omega
    · rfl

/-- The setup replaced (R62). -/
def withSetup (new : RevSetup) (s : State) : State :=
  { s with rvc := { s.rvc with setup := new }, seu := { s.seu with dirty := true } }

theorem doReverseSetup_good (h : revGood r) (s : State) : doReverseSetup r s =
    finish resDone 0 (triggerIf (s.rvc.setup.moved (revRecord r))
      (if s.rvc.setup.source = (revRecord r).source then withSetup (revRecord r) s else evaluateR (withSetup (revRecord r) s))) := by
  rw [doReverseSetup, revSetupOf_good h]
  rfl

theorem doReverseSetup_bad (h : ¬revGood r) (s : State) : doReverseSetup r s = finish resBadParam 0 s := by
  rw [doReverseSetup, revSetupOf_bad h]

theorem moved_eq (a b : RevSetup) : a.moved b = decide (b.strip ≠ a.strip ∨ b.x ≠ a.x ∨ b.y ≠ a.y ∨ b.scale ≠ a.scale) := by
  unfold RevSetup.moved
  simp only [ne_comm]

/-- REVERSE_SETUP of a good record, on the state at its arrival. -/
theorem reverseSetup_answers (ha : Arrives s) (h : revGood r) : Answers (.reverseSetup r) s (completed 17 r resDone 0
    (triggerIf (s.rvc.setup.moved (revRecord r))
      (if (revRecord r).source = s.rvc.setup.source then withSetup (revRecord r) s else evaluateR (withSetup (revRecord r) s)))) := by
  refine answers_of_arrival rfl ha ?_
  have installs : withSetup (revRecord r) (arriveAs 17 r s) = arriveAs 17 r (withSetup (revRecord r) s) := by
    rw [arriveAs_eq, arriveAs_eq]
    rfl
  rw [doReverseSetup_good h, arriveAs_rvc, installs]
  unfold completed
  rw [arriveAs_triggerIf]
  by_cases same : (revRecord r).source = s.rvc.setup.source
  · rw [if_pos same, if_pos same.symm]
  · rw [if_neg same, if_neg fun k => same k.symm, arriveAs_evaluateR (s := withSetup (revRecord r) s) (arrives_noPort ha)]

end

section
variable {s : State}

/-- A capture start writes memory only where a granted write of the port lands (log entry 8). -/
theorem startCapture_mem (h : s.burst ≠ some .procWrite) : (startCapture s).1.mem = s.mem := by
  rw [startCapture_eq]
  cases hit : (cleared s).captureHit with
  | none =>
    rw [dropAtCaptureStart_none hit, landGrantedWrite_other (s := cleared s) h]
    rfl
  | some a =>
    rw [dropAtCaptureStart_some hit]
    unfold countCompletion
    dsimp only
    split_ifs <;> rfl

theorem evaluateR_mem (h : s.burst ≠ some .procWrite) : (evaluateR s).mem = s.mem := by
  by_cases engages : Engages s
  · obtain ⟨f, rs, seu, g, e, _⟩ := evaluateR_engaged engages
    rw [e, engaged, entering_asked]
    show (entering s).1.mem = s.mem
    unfold entering
    split
    · exact startCapture_mem h
    · rfl
  · exact (evaluateR_unspoken engages).1

/-- What REVERSE_SETUP leaves alone, and what stays of the reverse state where the source does. -/
def SetupLeaves (new : RevSetup) (s t : State) : Prop :=
  t.rvc.setup = new ∧ t.fma.memory = s.fma.memory ∧ t.scn = s.scn ∧ t.fqu = s.fqu ∧ t.mem = s.mem ∧ t.time = s.time ∧
    (new.source = s.rvc.setup.source → t.rvc.st = s.rvc.st ∧ t.rvc.request = s.rvc.request ∧
      t.rvc.engageTimer = s.rvc.engageTimer ∧ t.rvc.staleTimer = s.rvc.staleTimer ∧ t.rvc.lingerTimer = s.rvc.lingerTimer)

theorem SetupLeaves.trigger {new : RevSetup} {t : State} (h : SetupLeaves new s t) (b : Bool) : SetupLeaves new s (triggerIf b t) := by
  cases b
  · exact h
  · obtain ⟨g, d, e⟩ := trigger_guideOnly t
    rw [triggerIf, if_pos rfl, e]
    exact h

theorem withSetup_leaves (h : NoPort s.fma.memory) (new : RevSetup) : SetupLeaves new s
    (if new.source = s.rvc.setup.source then withSetup new s else evaluateR (withSetup new s)) := by
  by_cases same : new.source = s.rvc.setup.source
  · rw [if_pos same]
    exact ⟨rfl, rfl, rfl, rfl, rfl, rfl, fun _ => ⟨rfl, rfl, rfl, rfl, rfl⟩⟩
  · rw [if_neg same]
    by_cases changes : (withSetup new s).requestLevel = (withSetup new s).rvc.request
    · rw [evaluateR_same changes]
      exact ⟨rfl, rfl, rfl, rfl, rfl, rfl, fun k => absurd k same⟩
    · obtain ⟨_, _, setup, _, _, _, time, cmu, scn, _, _, fqu, _⟩ := evaluateR_frame changes
      exact ⟨setup, (evaluateR_leaves _).2.2, scn, fqu, evaluateR_mem (noPort_burst (s := withSetup new s) h).2, time, fun k => absurd k same⟩

end

/-- Settles O30. -/
theorem reverseSetupInstalls : Obligations.ReverseSetupInstalls := by
  intro r s ha chime good
  refine ⟨fun bad => answers_refused rfl ha (doReverseSetup_bad bad _), fun fine new hnew => ?_⟩
  have record : new = revRecord r := hnew
  subst record
  have answers := reverseSetup_answers ha (r := r) fine
  rw [moved_eq] at answers
  refine ⟨answers, fun normal same => ?_, ?_⟩
  · rw [if_pos same] at answers
    have quiet (b : Bool) : triggerIf b (withSetup (revRecord r) s) = withSetup (revRecord r) s := by
      cases b
      · rfl
      · exact trigger_inactive (s := withSetup (revRecord r) s) normal
    rw [quiet] at answers
    have settled : completed 17 r resDone 0 (withSetup (revRecord r) s) =
        completed 17 r resDone 0 { s with rvc := { s.rvc with setup := revRecord r } } := by
      unfold completed
      rw [arriveAs_eq, arriveAs_eq]
      rfl
    rwa [settled] at answers
  · obtain ⟨t, ht, k⟩ := answers
    obtain ⟨setup, memory, scn, fqu, mem, time, rest⟩ := (withSetup_leaves (arrives_noPort ha) (revRecord r)).trigger
      (decide ((revRecord r).strip ≠ s.rvc.setup.strip ∨ (revRecord r).x ≠ s.rvc.setup.x ∨ (revRecord r).y ≠ s.rvc.setup.y ∨
        (revRecord r).scale ≠ s.rvc.setup.scale))
    generalize triggerIf _ _ = x at k setup memory scn fqu mem time rest
    have done : completed 17 r resDone 0 x = finish resDone 0 { x with
        cmu := { x.cmu with cmd := ⟨17, r⟩ }
        fma := { x.fma with memory := endedMemory x.fma.memory } } := by
      rw [completed, arriveAs_eq]
    rw [done] at k
    have busy : endedMemory x.fma.memory ≠ .idle := by
      rw [Ne, endedMemory_eq_idle_iff, memory]
      exact arrives_busy ha
    obtain ⟨hscn, _, _, hfqu, _, hrvc, _, _, hseu, hcmu, hmem, htime, _⟩ := decided_busy k busy
    refine ⟨t, ht, by rw [hrvc]; exact setup, by rw [hcmu]; rfl, by rw [hcmu]; rfl, by rw [hcmu]; rfl, by rw [hseu]; rfl,
      hscn.trans scn, hfqu.trans fqu, hmem.trans mem, htime.trans time, ?_⟩
    rw [hrvc]
    exact rest

end Sys2Proof.Proofs
end

section
/-! PROOFS. CHIME_PLAY (R104 to R107). -/

namespace Sys2Proof.Proofs

open Sys2Proof.Machine Sys2Proof.Safety

/-! ### Queue order -/

theorem insertEntry_eq (prio : Nat → Nat) (e : ChimeEntry) (l : List ChimeEntry) : insertEntry prio e l =
    (l.takeWhile fun x => decide (prio e.id ≤ prio x.id)) ++ e :: l.dropWhile fun x => decide (prio e.id ≤ prio x.id) := by
  induction l with
  | nil => rfl
  | cons x xs ih =>
    rw [insertEntry]
    by_cases h : prio e.id ≤ prio x.id
    · rw [if_pos h, ih, List.takeWhile_cons_of_pos (by simpa using h), List.dropWhile_cons_of_pos (by simpa using h)]
      rfl
    · rw [if_neg h, List.takeWhile_cons_of_neg (by simpa using h), List.dropWhile_cons_of_neg (by simpa using h)]
      rfl

theorem reinsertEntry_eq (prio : Nat → Nat) (e : ChimeEntry) (l : List ChimeEntry) : reinsertEntry prio e l =
    (l.takeWhile fun x => decide (prio e.id < prio x.id)) ++ e :: l.dropWhile fun x => decide (prio e.id < prio x.id) := by
  induction l with
  | nil => rfl
  | cons x xs ih =>
    rw [reinsertEntry]
    by_cases h : prio e.id < prio x.id
    · rw [if_pos h, ih, List.takeWhile_cons_of_pos (by simpa using h), List.dropWhile_cons_of_pos (by simpa using h)]
      rfl
    · rw [if_neg h, List.takeWhile_cons_of_neg (by simpa using h), List.dropWhile_cons_of_neg (by simpa using h)]
      rfl

theorem reinsertEntry_length (prio : Nat → Nat) (e : ChimeEntry) (l : List ChimeEntry) :
    (reinsertEntry prio e l).length = l.length + 1 := by
  induction l with
  | nil => rfl
  | cons x xs ih =>
    rw [reinsertEntry]
    split_ifs
    · rw [List.length_cons, ih, List.length_cons]
    · rfl

/-! ### The steps of a request -/

/-- Voice Q at the first sample of the first note of a chime. -/
def firstNote (e : ChimeEntry) (d : ChimeDef) (env : Option Nat) : VoiceQ :=
  ⟨.playing, e.id, e.engage, 0, 0, false, 0, 48 * (d.noteAt 0).dur, 0, env, 0⟩

theorem startChime_eq {e : ChimeEntry} {d : ChimeDef} {s : State} (h : s.chimeDef e.id = some d) :
    startChime e s = ({ s with chu := { s.chu with q := firstNote e d s.chu.q.env } } : State).markDirty := by
  rw [startChime, h]
  rfl

section
variable {e : ChimeEntry} {restart : Bool} {s : State}

theorem requestChime_bad (h : 31 < e.id ∨ s.chimeDef e.id = none) : requestChime e restart s = ((s, []), resBadParam) := by
  rw [requestChime, if_pos (h.imp_right Option.isNone_iff_eq_none.2)]

variable {d : ChimeDef} (small : e.id ≤ 31) (found : s.chimeDef e.id = some d)
include small found

theorem requestChime_fine : ¬(31 < e.id ∨ (s.chimeDef e.id).isNone = true) := by
  rw [found]
  rintro (h | h)
  · omega
  · cases h

theorem requestChime_queued (h : ∃ x ∈ s.chu.queue, x.id = e.id) : requestChime e restart s = ((s, []), resMerged) := by
  rw [requestChime, if_neg (requestChime_fine small found), if_pos (by simpa using h)]

variable (absent : ∀ x ∈ s.chu.queue, x.id ≠ e.id)
include absent

omit small found in
theorem requestChime_unqueued : ¬(s.chu.queue.any fun x => decide (x.id = e.id)) = true := by
  simpa using absent

theorem requestChime_playing (st : s.chu.q.st = .playing) (same : s.chu.q.id = e.id) (h : restart = false) :
    requestChime e restart s = ((s, []), resMerged) := by
  rw [requestChime, if_neg (requestChime_fine small found), if_neg (requestChime_unqueued absent), if_pos]
  exact ⟨by simp [st, same], st, h⟩

theorem requestChime_starts (h : (s.chu.q.st = .playing ∧ s.chu.q.id = e.id ∧ restart = true) ∨
    (s.chu.q.st = .releasing ∧ s.chu.q.id = e.id) ∨ s.chu.q.st = .idle) :
    requestChime e restart s = ((startChime e s, []), resDone) := by
  rw [requestChime, if_neg (requestChime_fine small found), if_neg (requestChime_unqueued absent)]
  rcases h with ⟨st, same, again⟩ | ⟨st, same⟩ | st
  · rw [if_neg (by simp [again]), if_pos (by simp [st, same])]
  · rw [if_neg (by simp [st]), if_pos (by simp [st, same])]
  · rw [if_neg (by simp [st]), if_neg (by simp [st]), if_pos st]

variable (busy : s.chu.q.st ≠ .idle) (other : s.chu.q.id ≠ e.id)
include busy other

theorem requestChime_preempts (high : s.chimePriority s.chu.q.id < s.chimePriority e.id) :
    requestChime e restart s = ((startChime e (displace s).1, (displace s).2), resDone) := by
  rw [requestChime, if_neg (requestChime_fine small found), if_neg (requestChime_unqueued absent),
    if_neg (by simp [other]), if_neg (by simp [other]), if_neg busy, if_pos high]

theorem requestChime_inserts (low : s.chimePriority e.id ≤ s.chimePriority s.chu.q.id) (room : s.chu.queue.length < 16) :
    requestChime e restart s = ((s.setQueue (insertEntry s.chimePriority e s.chu.queue), []), resDone) := by
  rw [requestChime, if_neg (requestChime_fine small found), if_neg (requestChime_unqueued absent),
    if_neg (by simp [other]), if_neg (by simp [other]), if_neg busy, if_neg (Nat.not_lt.2 low), if_pos room]

theorem requestChime_full (low : s.chimePriority e.id ≤ s.chimePriority s.chu.q.id) (full : 16 ≤ s.chu.queue.length) :
    requestChime e restart s = requestFull e s := by
  rw [requestChime, if_neg (requestChime_fine small found), if_neg (requestChime_unqueued absent),
    if_neg (by simp [other]), if_neg (by simp [other]), if_neg busy, if_neg (Nat.not_lt.2 low), if_neg (Nat.not_lt.2 full)]

end

section
variable {e last : ChimeEntry} {s : State}

theorem requestFull_displaces (h : s.chu.queue.getLast? = some last) (high : s.chimePriority last.id < s.chimePriority e.id) :
    requestFull e s = ((s.setQueue (insertEntry s.chimePriority e s.chu.queue.dropLast), [droppedRaise last.id 1]), resDone) := by
  simp only [requestFull, h, if_pos high]

theorem requestFull_refuses (h : s.chu.queue.getLast? = some last) (low : s.chimePriority e.id ≤ s.chimePriority last.id) :
    requestFull e s = ((s, []), resFull) := by
  simp only [requestFull, h, if_neg (Nat.not_lt.2 low)]

variable {w : ChimeDef}

theorem displace_releasing (st : s.chu.q.st = .releasing) : displace s = (s, []) := by
  simp [displace, st]

theorem displace_drops (st : s.chu.q.st = .playing) (h : s.chimeDef s.chu.q.id = some w) (drop : w.drop = true) :
    displace s = (s, [droppedRaise s.chu.q.id 2]) := by
  simp [displace, st, h, drop]

/-- The queue with the displaced chime put back (R107). -/
def putBack (s : State) : List ChimeEntry := reinsertEntry s.chimePriority ⟨s.chu.q.id, s.chu.q.engage⟩ s.chu.queue

variable (st : s.chu.q.st = .playing) (h : s.chimeDef s.chu.q.id = some w) (keep : w.drop = false)
include st h keep

theorem displace_requeues (room : s.chu.queue.length < 16) : displace s = (s.setQueue (putBack s), []) := by
  have short : (putBack s).length ≤ 16 := by rw [putBack, reinsertEntry_length]; omega
  rw [displace, if_neg (by simp [st]), if_neg (by simp [h, keep])]
  exact if_pos short

theorem displace_discards (full : s.chu.queue.length = 16) (hlast : (putBack s).getLast? = some last) :
    displace s = (s.setQueue (putBack s).dropLast, [droppedRaise last.id 3]) := by
  have long : ¬(putBack s).length ≤ 16 := by rw [putBack, reinsertEntry_length]; omega
  rw [displace, if_neg (by simp [st]), if_neg (by simp [h, keep])]
  refine (if_neg long).trans ?_
  show (_, [droppedRaise (((putBack s).getLast?.map ChimeEntry.id).getD 0) 3]) = _
  rw [hlast]
  rfl

end

/-! ### CHIME_PLAY -/

section
variable {r : Rec} {s : State}

/-- A result leaves status-dirty set, whatever it was. -/
theorem completed_markDirty (k : Byte) (code detail : Word) (s : State) :
    completed k r code detail s.markDirty = completed k r code detail s := by
  unfold completed
  rw [arriveAs_eq, arriveAs_eq]
  rfl

/-- CHIME_PLAY completes with what its request makes of the state at its arrival. -/
theorem chimePlay_answers (ha : Arrives s) {u : State} {rs : List Raise} {code : Word}
    (h : requestChime ⟨r.op1.toNat, false⟩ (r.op2.getLsbD 0) s = ((u, rs), code)) :
    Answers (.chimePlay r) s (completed 20 r code (BitVec.ofNat 32 u.chu.queue.length) (raiseAll rs u)) := by
  refine answers_of_arrival rfl ha ?_
  have only : ChimeOnly s u := by
    have := requestChime_only ⟨r.op1.toNat, false⟩ (r.op2.getLsbD 0) s
    rwa [h] at this
  obtain ⟨queue, q, b, e⟩ := only
  have copies : arriveAs 20 r (raiseAll rs u) = raiseAll rs (beside s.scn { s.cmu with cmd := ⟨20, r⟩ } (endedMemory s.fma.memory) false u) := by
    rw [arriveAs_beside, beside_raiseAll, raiseAll_eq, e]
  have level : flag r.op2 0 = r.op2.getLsbD 0 := rfl
  unfold doChimePlay completed
  rw [copies, arriveAs_beside, level, beside_requestChime, h]
  rfl

/-- A raise beside a change of the chimes alone. -/
theorem raise_chimes (k : EvKind) (x a : Word) (c : Chu) (s : State) :
    raise k x a ({ s with chu := c } : State).markDirty = { raise k x a s with chu := c } := by
  have once : (raise k x a ({ s with chu := c } : State).markDirty).seu = (raise k x a s).seu := by
    have flags : ({ s.seu with dirty := true } : Seu).setKind k = { s.seu.setKind k with dirty := true } := rfl
    unfold raise
    dsimp only [State.markDirty]
    rw [flags, placeRecord_dirty]
    rfl
  rw [raise_eq, once]
  rfl

end

/-- Settles O37: the equation of the request's step that applies, brought to the state at the record's arrival. -/
theorem chimePlay : Obligations.ChimePlay := by
  intro r s ha id q v prio answers queued inserted reinserted
  have unchanged {code : Word} (h : requestChime ⟨id, false⟩ (r.op2.getLsbD 0) s = ((s, []), code)) : answers code s := chimePlay_answers ha h
  have dirty {code : Word} (c : Chu)
      (h : requestChime ⟨id, false⟩ (r.op2.getLsbD 0) s = ((({ s with chu := c } : State).markDirty, []), code)) :
      answers code { s with chu := c } := by
    have played := chimePlay_answers ha h
    rwa [show raiseAll [] ({ s with chu := c } : State).markDirty = ({ s with chu := c } : State).markDirty from rfl,
      completed_markDirty] at played
  have raises {code : Word} {k : EvKind} {x a : Word} (c : Chu)
      (h : requestChime ⟨id, false⟩ (r.op2.getLsbD 0) s = ((({ s with chu := c } : State).markDirty, [⟨k, x, a⟩]), code)) :
      answers code { raise k x a s with chu := c } := by
    have made : raiseAll [⟨k, x, a⟩] ({ s with chu := c } : State).markDirty = { raise k x a s with chu := c } := raise_chimes ..
    have played := chimePlay_answers ha h
    rwa [made] at played
  refine ⟨fun bad => unchanged (requestChime_bad bad), fun d small found => ?_⟩
  intro starts
  have begins (u : State) (defs : u.chu.defs = s.chu.defs) : startChime ⟨id, false⟩ u =
      ({ u with chu := { u.chu with q := firstNote ⟨id, false⟩ d u.chu.q.env } } : State).markDirty :=
    startChime_eq (by rw [State.chimeDef, defs]; exact found)
  refine ⟨fun h => unchanged (requestChime_queued small found h), fun absent => ⟨fun st same again =>
    unchanged (requestChime_playing small found absent st same again), fun h => ?_, fun busy other high w hw => ?_,
    fun busy other low => ⟨fun room => ?_, fun full x hx => ⟨fun high => ?_, fun high => ?_⟩⟩⟩⟩
  · refine dirty { s.chu with q := firstNote ⟨id, false⟩ d s.chu.q.env } ?_
    rw [requestChime_starts small found absent h, begins s rfl]
  · have preempts := requestChime_preempts (e := ⟨id, false⟩) (restart := r.op2.getLsbD 0) small found absent busy other high
    have back : reinserted = putBack s := (reinsertEntry_eq s.chimePriority ⟨v.id, v.engage⟩ s.chu.queue).symm
    refine ⟨fun st => ?_, fun st drop => ?_, fun st keep room => ?_, fun st keep full x hx => ?_⟩
    · refine dirty { s.chu with q := firstNote ⟨id, false⟩ d s.chu.q.env } ?_
      rw [preempts, displace_releasing st, begins s rfl]
    · refine raises { s.chu with q := firstNote ⟨id, false⟩ d s.chu.q.env } ?_
      rw [preempts, displace_drops st hw drop, begins s rfl]
      rfl
    · refine dirty { s.chu with queue := reinserted, q := firstNote ⟨id, false⟩ d s.chu.q.env } ?_
      rw [preempts, displace_requeues st hw keep room, begins _ (by rfl), back]
      rfl
    · refine raises { s.chu with queue := reinserted.dropLast, q := firstNote ⟨id, false⟩ d s.chu.q.env } ?_
      rw [preempts, displace_discards st hw keep full (back ▸ hx), begins _ (by rfl), back]
      rfl
  · refine dirty { s.chu with queue := inserted q } ?_
    rw [requestChime_inserts small found absent busy other low room, insertEntry_eq]
    rfl
  · refine raises { s.chu with queue := inserted q.dropLast } ?_
    rw [requestChime_full small found absent busy other low full, requestFull_displaces hx high, insertEntry_eq]
    rfl
  · refine unchanged ?_
    rw [requestChime_full small found absent busy other low full, requestFull_refuses hx high]

end Sys2Proof.Proofs
end

section
/-! PROOFS. CHIME_CANCEL and the ends of the parts of voice Q (R108 to R111). -/

namespace Sys2Proof.Proofs

open Sys2Proof.Machine Sys2Proof.Safety

section
variable {s : State}

/-! ### Voice Q gives way -/

theorem voiceQIdle_rests (h : s.chu.queue = []) :
    voiceQIdle s = ({ s with chu := { s.chu with q := s.chu.q.cleared } } : State).markDirty := by
  unfold voiceQIdle
  dsimp only [State.markDirty_chu]
  rw [h]

theorem voiceQIdle_starts {e : ChimeEntry} {rest : List ChimeEntry} (h : s.chu.queue = e :: rest) : voiceQIdle s =
    ({ s with chu := { s.chu with queue := rest, q := firstNote e ((s.chimeDef e.id).getD ⟨0, false, false, 0, 0, []⟩) s.chu.q.env } } : State).markDirty := by
  unfold voiceQIdle
  dsimp only [State.markDirty_chu]
  rw [h]
  rfl

/-! ### A cancel -/

/-- A chime on voice Q that a cancel ends at once (R110). -/
def EndsAtOnce (s : State) : Prop := s.chu.q.inGap = true ∨ s.noteOnVoice.freq = 0 ∨ s.noteOnVoice.release = 0

theorem cancelVoiceQ_ends (h : EndsAtOnce s) : cancelVoiceQ s = voiceQIdle s := by
  rw [cancelVoiceQ]
  exact if_pos h

/-- Voice Q as its cancel release begins (R111). -/
def releasing (held : Nat) (s : State) : VoiceQ :=
  { s.chu.q with st := .releasing, n := 0, total := 48 * s.noteOnVoice.release, held := held }

theorem cancelVoiceQ_releases (h : ¬EndsAtOnce s) {e : Nat} (env : s.chu.q.env = some e) :
    cancelVoiceQ s = ({ s with chu := { s.chu with q := releasing e s } } : State).markDirty := by
  rw [cancelVoiceQ]
  have held : heldEnvelope s.chu.q.env s = (e, s) := by rw [env]; rfl
  refine (if_neg h).trans ?_
  rw [held]
  rfl

theorem cancelVoiceQ_holds (h : ¬EndsAtOnce s) (env : s.chu.q.env = none) : cancelVoiceQ s =
    ({ s with chu := { s.chu with q := releasing (Config.heldEnvelope s.free).val s }, free := s.free + 1 } : State).markDirty := by
  rw [cancelVoiceQ]
  have held : heldEnvelope s.chu.q.env s = ((Config.heldEnvelope s.free).val, { s with free := s.free + 1 }) := by rw [env]; rfl
  refine (if_neg h).trans ?_
  rw [held]
  rfl

/-- The state in which the entries that the cancel names have left the queue. -/
def withoutEntries (n : Nat) (s : State) : State :=
  { s with chu := { s.chu with queue := s.chu.queue.filter fun e => !decide (n = 256 ∨ n = e.id) } }

theorem removed_eq (n : Nat) (s : State) : ∃ b,
    (if s.chu.queue.length - (withoutEntries n s).chu.queue.length = 0 then s else s.setQueue (withoutEntries n s).chu.queue) =
      (withoutEntries n s).dirtyIf b := by
  by_cases none : s.chu.queue.length - (withoutEntries n s).chu.queue.length = 0
  · have shorter : (withoutEntries n s).chu.queue.length ≤ s.chu.queue.length := List.length_filter_le ..
    have all : (withoutEntries n s).chu.queue = s.chu.queue := List.filter_sublist.eq_of_length
      (Nat.le_antisymm shorter (Nat.sub_eq_zero_iff_le.1 none))
    refine ⟨false, ?_⟩
    rw [if_pos none]
    show s = { s with chu := { s.chu with queue := (withoutEntries n s).chu.queue } }
    rw [all]
  · exact ⟨true, if_neg none⟩

/-- The note on voice Q, and whether a cancel ends it at once, by the table and voice Q. -/
theorem noteOnVoice_congr {u : State} (defs : u.chu.defs = s.chu.defs) (q : u.chu.q = s.chu.q) :
    u.noteOnVoice = s.noteOnVoice ∧ (EndsAtOnce u ↔ EndsAtOnce s) := by
  have found : u.chimeDef = s.chimeDef := by funext id; rw [State.chimeDef, defs]; rfl
  have note : u.noteOnVoice = s.noteOnVoice := by
    unfold State.noteOnVoice
    rw [found, q]
  refine ⟨note, ?_⟩
  unfold EndsAtOnce
  rw [note, q]

variable {r : Rec}

theorem doChimeCancel_bad (big : 31 < r.op1.toNat) (other : r.op1.toNat ≠ 256) : doChimeCancel r s = finish resBadParam 0 s :=
  if_pos ⟨big, other⟩

/-- The entries removed are counted in the detail (R110). -/
def removedCount (n : Nat) (s : State) : Word := BitVec.ofNat 32 (s.chu.queue.length - (withoutEntries n s).chu.queue.length)

theorem doChimeCancel_good (h : r.op1.toNat ≤ 31 ∨ r.op1.toNat = 256) : ∃ b, doChimeCancel r s =
    finish resDone (removedCount r.op1.toNat s)
      (if s.chu.q.st = .playing ∧ decide (r.op1.toNat = 256 ∨ r.op1.toNat = s.chu.q.id) = true
        then cancelVoiceQ ((withoutEntries r.op1.toNat s).dirtyIf b) else (withoutEntries r.op1.toNat s).dirtyIf b) := by
  obtain ⟨b, removed⟩ := removed_eq r.op1.toNat s
  refine ⟨b, ?_⟩
  have voice : ((withoutEntries r.op1.toNat s).dirtyIf b).chu.q = s.chu.q := by rw [dirtyIf_eq]; rfl
  have whole : doChimeCancel r s = if 31 < r.op1.toNat ∧ r.op1.toNat ≠ 256 then finish resBadParam 0 s
      else (fun w : State => finish resDone (removedCount r.op1.toNat s)
        (if w.chu.q.st = .playing ∧ decide (r.op1.toNat = 256 ∨ r.op1.toNat = w.chu.q.id) = true then cancelVoiceQ w else w))
        (if s.chu.queue.length - (withoutEntries r.op1.toNat s).chu.queue.length = 0 then s
          else s.setQueue (withoutEntries r.op1.toNat s).chu.queue) := rfl
  rw [whole, if_neg (by omega), removed]
  dsimp only
  rw [voice]

end

/-- Settles O38. -/
theorem chimeCancel : Obligations.ChimeCancel := by
  intro r s ha n hit kept v note answers atOnce
  have chimes : (arriveAs 21 r s).chu = s.chu := by rw [arriveAs_eq]
  have copied (c : Chu) : ({ arriveAs 21 r s with chu := c } : State) = arriveAs 21 r { s with chu := c } := by
    rw [arriveAs_eq, arriveAs_eq]
  let w (b : Bool) : State := (withoutEntries n (arriveAs 21 r s)).dirtyIf b
  have chu (b : Bool) : (w b).chu = { s.chu with queue := kept } := by
    show ((withoutEntries n (arriveAs 21 r s)).dirtyIf b).chu = _
    rw [dirtyIf_eq]
    show ({ (arriveAs 21 r s).chu with queue := _ } : Chu) = _
    rw [chimes]
  have cancels (playing : v.st = .playing) (named : hit v.id = true) (good : n ≤ 31 ∨ n = 256) : ∃ b, doChimeCancel r (arriveAs 21 r s) =
      finish resDone (BitVec.ofNat 32 (s.chu.queue.length - kept.length)) (cancelVoiceQ (w b)) := by
    obtain ⟨b, e⟩ := doChimeCancel_good (s := arriveAs 21 r s) good
    refine ⟨b, ?_⟩
    rw [e, removedCount, chimes, if_pos ⟨playing, named⟩]
    show finish resDone (BitVec.ofNat 32 (s.chu.queue.length - (List.filter _ (arriveAs 21 r s).chu.queue).length)) _ = _
    rw [chimes]
  have done (b : Bool) (c : Chu) : finish resDone (BitVec.ofNat 32 (s.chu.queue.length - kept.length))
      ({ w b with chu := c } : State).markDirty =
        completed 21 r resDone (BitVec.ofNat 32 (s.chu.queue.length - kept.length)) { s with chu := c } := by
    have same : ({ w b with chu := c } : State).markDirty = ({ arriveAs 21 r s with chu := c } : State).markDirty := by
      show ({ (withoutEntries n (arriveAs 21 r s)).dirtyIf b with chu := c } : State).markDirty = _
      rw [dirtyIf_eq]
      rfl
    rw [completed, same, copied]
    rfl
  have note' (b : Bool) : (w b).noteOnVoice = note ∧ (EndsAtOnce (w b) ↔ EndsAtOnce s) :=
    noteOnVoice_congr (by rw [chu]) (by rw [chu])
  have rel (b : Bool) (held : Nat) : releasing held (w b) = releasing held s := by
    unfold releasing
    rw [chu, (note' b).1]
  refine ⟨fun big other => answers_refused rfl ha (doChimeCancel_bad big other), fun good => ⟨fun h => ?_, fun playing named => ?_⟩⟩
  · obtain ⟨b, e⟩ := doChimeCancel_good (s := arriveAs 21 r s) good
    refine answers_of_arrival rfl ha (e.trans ?_)
    rw [chimes, if_neg fun k => h.elim (fun j => j k.1) fun j => Bool.false_ne_true (j.symm.trans k.2)]
    have count : removedCount n (arriveAs 21 r s) = BitVec.ofNat 32 (s.chu.queue.length - kept.length) := by
      show BitVec.ofNat 32 ((arriveAs 21 r s).chu.queue.length - (List.filter _ (arriveAs 21 r s).chu.queue).length) = _
      rw [chimes]
    rw [count, ← done b, ← chu b]
    rfl
  · obtain ⟨b, e⟩ := cancels playing named good
    refine ⟨fun ends empty => ?_, fun ends x rest d queue found => ?_, fun ends x env => ?_, fun ends env => ?_⟩
    · refine answers_of_arrival rfl ha (e.trans ?_)
      rw [cancelVoiceQ_ends ((note' b).2.2 ends), voiceQIdle_rests (by rw [chu]; exact empty), done, chu, empty]
      rfl
    · refine answers_of_arrival rfl ha (e.trans ?_)
      have def' : (w b).chimeDef x.id = some d := by
        rw [State.chimeDef, chu]
        exact found
      rw [cancelVoiceQ_ends ((note' b).2.2 ends), voiceQIdle_starts (e := x) (rest := rest) (by rw [chu]; exact queue), def', done, chu]
      rfl
    · refine answers_of_arrival rfl ha (e.trans ?_)
      rw [cancelVoiceQ_releases (fun k => ends ((note' b).2.1 k)) (by rw [chu]; exact env), done, rel, chu]
      rfl
    · have holds := e.trans (congrArg _ (cancelVoiceQ_holds (fun k => ends ((note' b).2.1 k)) (by rw [chu]; exact env)))
      obtain ⟨t, ht, k⟩ := answers_of_arrival (i := .chimeCancel r) rfl ha holds
      have after : t.chu = { s.chu with queue := kept, q := releasing (Config.heldEnvelope (w b).free).val s } := by
        rw [k.chu]
        show ({ (w b).chu with q := releasing (Config.heldEnvelope (w b).free).val (w b) } : Chu) = _
        rw [rel, chu]
      exact ⟨t, ht, by rw [after], by rw [after]; rfl, by rw [after]; rfl, by rw [after]; rfl, by rw [after]; rfl,
        by rw [after]; exact Nat.le_of_lt_succ (Fin.isLt _)⟩

/-! ### The ends of the parts of voice Q -/

section
variable {s : State} {d : ChimeDef} (found : s.chimeDef s.chu.q.id = some d) (out : s.chu.q.total ≤ s.chu.q.n)
include found out

/-- The last note of the last sequence (R108). -/
theorem lastNoteOver_iff (st : s.chu.q.st = .playing) (gap : s.chu.q.inGap = false) : lastNoteOver s = true ↔
    d.notes.length ≤ s.chu.q.note + 1 ∧ ¬(d.repeats = 0 ∨ s.chu.q.played + 1 < d.repeats) := by
  unfold lastNoteOver VoiceQ.partOver
  simp only [found, st, gap, decide_true, Bool.not_false, Bool.true_and, decide_eq_true out, Bool.and_eq_true, decide_eq_true_eq,
    not_or, Nat.not_lt, ne_eq]

theorem noteOver_due (st : s.chu.q.st = .playing) (gap : s.chu.q.inGap = false)
    (more : ¬d.notes.length ≤ s.chu.q.note + 1 ∨ d.repeats = 0 ∨ s.chu.q.played + 1 < d.repeats) : noteOver s =
    if s.chu.q.note + 1 < d.notes.length then s.setVoiceQ (s.chu.q.startNote d (s.chu.q.note + 1))
    else if d.gap = 0 then s.setVoiceQ (VoiceQ.startNote d 0 { s.chu.q with played := s.chu.q.played + 1 })
    else s.setVoiceQ { s.chu.q with played := s.chu.q.played + 1, inGap := true, n := 0, total := 48 * d.gap } := by
  have goesOn : ¬lastNoteOver s = true := by
    rw [lastNoteOver_iff found out st gap]
    rintro ⟨last, none⟩
    exact more.elim (· last) none
  rw [noteOver]
  refine (if_pos ⟨st, gap, decide_eq_true out⟩).trans ((if_neg goesOn).trans ?_)
  rw [found]
  rfl

theorem gapOver_due (st : s.chu.q.st = .playing) (gap : s.chu.q.inGap = true) :
    gapOver s = s.setVoiceQ (s.chu.q.startNote d 0) := by
  rw [gapOver]
  refine (if_pos ⟨st, gap, decide_eq_true out⟩).trans ?_
  rw [found]

omit found in
theorem releaseOver_due (st : s.chu.q.st = .releasing) : releaseOver s = voiceQIdle s := if_pos ⟨st, decide_eq_true out⟩

theorem chimeFinish_due (st : s.chu.q.st = .playing) (gap : s.chu.q.inGap = false) (last : d.notes.length ≤ s.chu.q.note + 1)
    (none : ¬(d.repeats = 0 ∨ s.chu.q.played + 1 < d.repeats)) : chimeFinish s = voiceQIdle (if d.notify then
      raise .chimeDone (BitVec.ofNat 32 s.chu.q.id) (if s.chu.q.engage then 1 else 0) s else s) := by
  rw [chimeFinish, if_pos ((lastNoteOver_iff found out st gap).2 ⟨last, none⟩), finishChime]
  show voiceQIdle (raiseIf (((s.chimeDef s.chu.q.id).map ChimeDef.notify).getD false) _ _ _ s) = _
  rw [found, ofNat_ofBool]
  rfl

end

/-- Settles O39: each end of a part by its equation. -/
theorem voiceQParts : Obligations.VoiceQParts := by
  rintro s d v running rfl found out note sets next last remain
  have gives (u : State) (same : u.chu.q = s.chu.q) : voiceQIdle u = next u := by
    show _ = (match u.chu.queue with | [] => _ | e :: rest => _)
    cases queue : u.chu.queue with
    | nil =>
      rw [voiceQIdle_rests queue, same]
      rfl
    | cons e rest =>
      rw [voiceQIdle_starts queue, same]
      dsimp only
      cases u.chimeDef e.id <;> rfl
  refine ⟨fun st gap => ⟨fun more => ?_, fun last again none => ?_, fun last again some => ?_, fun last over' => ?_⟩, fun st gap => ?_, fun st => ?_⟩
  · refine answers_of_live rfl running ((noteOver_due found out st gap (.inl more)).trans ?_)
    exact if_pos (Nat.lt_of_not_le more)
  · refine answers_of_live rfl running ((noteOver_due found out st gap (.inr again)).trans ?_)
    exact (if_neg (Nat.not_lt.2 last)).trans (if_pos none)
  · refine answers_of_live rfl running ((noteOver_due found out st gap (.inr again)).trans ?_)
    exact (if_neg (Nat.not_lt.2 last)).trans (if_neg some)
  · exact answers_of_live rfl running ((chimeFinish_due found out st gap last over').trans (gives _ (by split <;> rfl)))
  · exact answers_of_live rfl running (gapOver_due found out st gap)
  · exact answers_of_live rfl running ((releaseOver_due out st).trans (gives s rfl))

end Sys2Proof.Proofs
end

section
/-! PROOFS. Samples and voice P (R111 to R119). -/

namespace Sys2Proof.Proofs

open Sys2Proof.Machine Sys2Proof.Safety

/-! ### One output sample -/

section
variable {s : State}

/-- Voice Q makes a sample of its waveform (R108, R111). -/
abbrev SoundsQ (s : State) : Prop :=
  s.chu.q.st = .releasing ∨ (s.chu.q.st = .playing ∧ s.chu.q.inGap = false ∧ s.noteOnVoice.freq ≠ 0)

/-- Voice P makes a sample of its waveform (R119). -/
abbrev SoundsP (s : State) : Prop := s.chu.p.st = .beep ∨ s.chu.p.st = .tone ∨ s.chu.p.st = .release

/-- The envelope of voice Q's sample (R113). -/
def envQ (s : State) : Nat :=
  if s.chu.q.st = .releasing then min s.chu.q.held (slope (s.chu.q.total - 1 - s.chu.q.n) s.noteOnVoice.release)
  else noteEnvelope s.chu.q.n s.chu.q.total s.noteOnVoice.attack s.noteOnVoice.release

/-- The envelope of voice P's sample (R119). -/
def envP (s : State) : Nat :=
  if s.chu.p.st = .beep then noteEnvelope s.chu.p.n s.chu.p.total 5 5
  else if s.chu.p.st = .tone then min 256 (slope s.chu.p.n 5)
  else min s.chu.p.held (slope (s.chu.p.total - 1 - s.chu.p.n) 5)

theorem sampleQ_eq (s : State) : sampleQ s =
    (if SoundsQ s then voiceSample (waveValue s.chu s.noteOnVoice.square s.chu.q.phase) s.noteOnVoice.level (envQ s) else 0,
      { s.chu.q with
        n := if s.chu.q.st = .idle then s.chu.q.n else s.chu.q.n + 1
        phase := if SoundsQ s then s.chu.q.phase + phaseStep s.noteOnVoice.freq else s.chu.q.phase
        env := if SoundsQ s then some (envQ s) else none }) := by
  unfold sampleQ SoundsQ envQ
  cases st : s.chu.q.st with
  | idle => simp [st]
  | playing =>
    by_cases rests : s.chu.q.inGap = true ∨ s.noteOnVoice.freq = 0
    · have silent : ¬(s.chu.q.inGap = false ∧ s.noteOnVoice.freq ≠ 0) := by
        rcases rests with h | h <;> simp [h]
      simp [st, rests, silent]
    · have sounds : s.chu.q.inGap = false ∧ s.noteOnVoice.freq ≠ 0 := by simpa [not_or] using rests
      simp [st, sounds]
  | releasing => simp [st]

theorem sampleP_eq (s : State) : sampleP s =
    (if SoundsP s then voiceSample (waveValue s.chu s.chu.prox.square s.chu.p.phase) s.chu.prox.level (envP s) else 0,
      { s.chu.p with
        n := if s.chu.p.st = .off ∨ s.chu.p.st = .quiet then s.chu.p.n else s.chu.p.n + 1
        phase := if SoundsP s then s.chu.p.phase + phaseStep s.chu.prox.freq else s.chu.p.phase
        env := (sampleP s).2.env }) ∧ (s.chu.p.st = .tone → (sampleP s).2.env = some (envP s)) := by
  unfold sampleP SoundsP envP
  cases st : s.chu.p.st with
  | off | quiet =>
    simp only [st, reduceCtorEq, or_self, if_false, or_true, true_or, if_true, false_implies, and_true]
    rw [← st]
  | beep | gap | tone | release => simp [st]

/-- Where no part has run out no end of a part is due. -/
theorem voiceEnds_eq (q : s.chu.q.st ≠ .idle → s.chu.q.n < s.chu.q.total)
    (p : s.chu.p.st = .beep ∨ s.chu.p.st = .gap ∨ s.chu.p.st = .release → s.chu.p.n < s.chu.p.total) : voiceEnds s = s := by
  have runs (h : s.chu.q.st ≠ .idle) : ¬s.chu.q.partOver = true := by simpa [VoiceQ.partOver] using q h
  have note : noteOver s = s := if_neg fun k => runs (by rw [k.1]; decide) k.2.2
  have gap : gapOver s = s := if_neg fun k => runs (by rw [k.1]; decide) k.2.2
  have release : releaseOver s = s := if_neg fun k => runs (by rw [k.1]; decide) k.2
  have beep : beepOver s = s := if_neg fun k => absurd (p (.inl k.1)) (Nat.not_lt.2 k.2)
  have pause : proximityGapOver s = s := if_neg fun k => absurd (p (.inr (.inl k.1))) (Nat.not_lt.2 k.2)
  have tone : toneReleaseOver s = s := if_neg fun k => absurd (p (.inr (.inr k.1))) (Nat.not_lt.2 k.2)
  rw [voiceEnds, note, gap, release, beep, pause, tone]

end

/-- Settles O40. -/
theorem lineSample : Obligations.LineSample := by
  rintro s v p x note running rfl rfl rfl rfl runsQ runsP wave ramp step qSounds qEnv q pSounds pEnv pv
  obtain ⟨soundP, toneP⟩ := sampleP_eq s
  have soundQ := sampleQ_eq s
  have made : doLineSample s = { s with chu := { s.chu with
      q := (sampleQ s).2
      p := (sampleP s).2
      line := mixSample (sampleQ s).1 (sampleP s).1 s.chu.master
      lineBefore := s.chu.line } } := by
    unfold doLineSample
    rw [voiceEnds_eq runsQ runsP]
  obtain ⟨t, ht, k⟩ := answers_of_live (i := .lineSample) rfl running made
  have chu := k.chu
  have pending : t.seu.pending = s.seu.pending := by rw [k.seu]
  have valueQ : (sampleQ s).1 = q := by rw [soundQ]; rfl
  have valueP : (sampleP s).1 = pv := by rw [soundP]; rfl
  rw [valueQ, valueP] at chu
  have voiceQ : t.chu.q = (sampleQ s).2 := by rw [chu]
  have voiceP : t.chu.p = (sampleP s).2 := by rw [chu]
  rw [soundQ] at voiceQ
  refine ⟨t, ht, ?_, by rw [chu], by rw [voiceQ], by rw [voiceQ], by rw [voiceQ], by rw [voiceQ], by rw [voiceQ]; rfl,
    by rw [voiceQ]; rfl, by rw [voiceQ], by rw [voiceP, soundP], by rw [voiceP, soundP], by rw [voiceP, soundP],
    by rw [voiceP, soundP]; rfl, fun tone => ?_, by rw [chu], by rw [chu], by rw [chu], by rw [chu], by rw [chu], pending, k.rvc, k.gde,
    k.mem, k.cmu, k.scn, k.fqu, k.time, k.ppw⟩
  · rw [chu]
    rfl
  · rw [voiceP, toneP tone]
    rfl

/-! ### Voice P -/

section
variable {s : State}

theorem setVoiceP_p (v : VoiceP) (s : State) : (s.setVoiceP v).chu.p = v := by
  rw [State.setVoiceP, dirtyIf_eq]

theorem setVoiceP_moves {v : VoiceP} (h : v.st ≠ s.chu.p.st) :
    s.setVoiceP v = { s with chu := { s.chu with p := v }, seu := { s.seu with dirty := true } } := by
  rw [State.setVoiceP, decide_eq_true h]
  rfl

theorem enter_quiet (x : Proximity) (v : VoiceP) : v.enter x 5 = { v with st := .quiet, n := 0, total := 0, env := none } := rfl

theorem enter_beeps (x : Proximity) {z : Nat} (low : 1 ≤ z) (high : z ≤ 4) (v : VoiceP) : v.enter x z = v.startBeep x := by
  rw [VoiceP.enter, if_neg (by omega), if_neg (by omega)]

/-- The state voice P enters at the end of a beep or of the tone's release (R118). -/
def afterSound (s : State) : VoiceP :=
  if s.zone = 0 ∨ s.zone = 5 then s.chu.p.enter s.chu.prox s.zone else s.chu.p.startGap s.chu.prox s.zone

theorem beepOver_due (st : s.chu.p.st = .beep) (out : s.chu.p.total ≤ s.chu.p.n) :
    beepOver s = { s with chu := { s.chu with p := afterSound s }, seu := { s.seu with dirty := true } } := by
  rw [beepOver]
  refine (if_pos ⟨st, out⟩).trans ?_
  show (s.setVoiceP (afterSound s)).markDirty = _
  rw [State.setVoiceP, dirtyIf_eq]
  rfl

theorem startGap_st (x : Proximity) (z : Nat) (v : VoiceP) : (v.startGap x z).st = .beep ∨ (v.startGap x z).st = .gap := by
  unfold VoiceP.startGap
  split_ifs
  · exact .inl rfl
  · exact .inr rfl

theorem enter_st (x : Proximity) (z : Nat) (v : VoiceP) : (v.enter x z).st = .tone ∨ (v.enter x z).st = .quiet ∨ (v.enter x z).st = .beep := by
  unfold VoiceP.enter
  split_ifs
  · exact .inl rfl
  · exact .inr (.inl rfl)
  · exact .inr (.inr rfl)

theorem proximityGapOver_due (st : s.chu.p.st = .gap) (out : s.chu.p.total ≤ s.chu.p.n) : proximityGapOver s =
    { s with chu := { s.chu with p := s.chu.p.enter s.chu.prox s.zone }, seu := { s.seu with dirty := true } } := by
  rw [proximityGapOver]
  refine (if_pos ⟨st, out⟩).trans (setVoiceP_moves ?_)
  rw [st]
  rcases enter_st s.chu.prox s.zone s.chu.p with h | h | h <;> rw [h] <;> decide

theorem toneReleaseOver_due (st : s.chu.p.st = .release) (out : s.chu.p.total ≤ s.chu.p.n) :
    toneReleaseOver s = { s with chu := { s.chu with p := afterSound s }, seu := { s.seu with dirty := true } } := by
  rw [toneReleaseOver]
  refine (if_pos ⟨st, out⟩).trans (setVoiceP_moves (v := afterSound s) ?_)
  unfold afterSound
  rw [st]
  split_ifs
  · rcases enter_st s.chu.prox s.zone s.chu.p with h | h | h <;> rw [h] <;> decide
  · rcases startGap_st s.chu.prox s.zone s.chu.p with h | h <;> rw [h] <;> decide

theorem afterSound_pauses (low : 1 ≤ s.zone) (high : s.zone ≤ 4) : afterSound s = s.chu.p.startGap s.chu.prox s.zone :=
  if_neg (by omega)

theorem afterSound_enters (h : s.zone = 0 ∨ s.zone = 5) : afterSound s = s.chu.p.enter s.chu.prox s.zone := if_pos h

/-! ### Voice P follows its conditions and its zone -/

/-- The three conditions of voice P (R117). -/
theorem voicePActive_iff (s : State) : s.voicePActive = true ↔
    Selecting s ∧ (s.gde.obstacle.valid = true ∧ s.gde.obstacle.fresh = true) ∧ s.chu.prox.enable = true := by
  rw [State.voicePActive, Obstacle.usable, Bool.and_eq_true, Bool.and_eq_true, Bool.and_eq_true, voicePEnabled_iff, and_assoc]

variable {z : Nat}

theorem syncVoiceP_inactive (h : ¬s.voicePActive = true) : (syncVoiceP z s).chu.p.st = .off := by
  rw [syncVoiceP, eq_false_of_ne_true h, if_pos (by rfl), setVoiceP_p]
  split_ifs with off
  · exact off
  · rfl

theorem syncVoiceP_enters (h : s.voicePActive = true) (off : s.chu.p.st = .off) :
    (syncVoiceP z s).chu.p = s.chu.p.enter s.chu.prox s.zone := by
  rw [syncVoiceP, h, if_neg (by decide), if_pos off, setVoiceP_p]

theorem syncVoiceP_stays (h : s.voicePActive = true) (on : s.chu.p.st ≠ .off) (same : s.zone = z) : syncVoiceP z s = s := by
  rw [syncVoiceP, h, if_neg (by decide), if_neg on, if_pos same]

theorem syncVoiceP_changes (h : s.voicePActive = true) (on : s.chu.p.st ≠ .off) (moved : s.zone ≠ z) :
    syncVoiceP z s = zoneChange s := by
  rw [syncVoiceP, h, if_neg (by decide), if_neg on, if_neg moved]

theorem zoneChange_beep (st : s.chu.p.st = .beep) :
    (zoneChange s).chu.p = if s.zone = 0 then { s.chu.p with st := .tone, env := none } else s.chu.p := by
  unfold zoneChange
  dsimp only
  rw [st]
  dsimp only
  split_ifs
  · exact setVoiceP_p ..
  · rfl

theorem zoneChange_gap (st : s.chu.p.st = .gap) :
    (zoneChange s).chu.p = if s.zone = 0 then s.chu.p.startTone else s.chu.p := by
  unfold zoneChange
  dsimp only
  rw [st]
  dsimp only
  split_ifs
  · exact setVoiceP_p ..
  · rfl

theorem zoneChange_tone (st : s.chu.p.st = .tone) : (zoneChange s).chu.p =
    { s.chu.p with st := .release, n := 0, total := 240, held := (heldEnvelope s.chu.p.env s).1 } := by
  unfold zoneChange
  dsimp only
  rw [st]
  exact setVoiceP_p ..

theorem zoneChange_release (st : s.chu.p.st = .release) : (zoneChange s).chu.p = s.chu.p := by
  unfold zoneChange
  dsimp only
  rw [st]

theorem zoneChange_quiet (st : s.chu.p.st = .quiet) : (zoneChange s).chu.p = s.chu.p.enter s.chu.prox s.zone := by
  unfold zoneChange
  dsimp only
  rw [st]
  exact setVoiceP_p ..

end

/-- Settles O41: the ends of a sound by the zone, and voice P after a change by its state. -/
theorem proximityVoice : Obligations.ProximityVoice := by
  refine ⟨?_, ?_⟩
  · rintro s p x running rfl rfl out sets gap beep quiet tone paused
    have pause (low : 1 ≤ s.zone) (high : s.zone ≤ 4) : afterSound s = paused := afterSound_pauses low high
    have rest (h : s.zone = 5) : afterSound s = quiet := by rw [afterSound_enters (.inr h), h]; rfl
    refine ⟨fun st => ?_, fun st => ?_, fun st => ?_⟩
    · have ends := answers_of_live (i := .beepEnd) rfl running (beepOver_due st out)
      exact ⟨fun low high => by rwa [pause low high] at ends, fun h => by rwa [rest h] at ends⟩
    · have ends := answers_of_live (i := .proximityGapEnd) rfl running (proximityGapOver_due st out)
      exact ⟨fun low high => by rwa [enter_beeps _ low high] at ends, fun h => by rwa [h] at ends⟩
    · have ends := answers_of_live (i := .toneReleaseEnd) rfl running (toneReleaseOver_due st out)
      refine ⟨fun h => ?_, fun low high => by rwa [pause low high] at ends, fun h => by rwa [rest h] at ends⟩
      rwa [afterSound_enters (.inl h), h] at ends
  · rintro z s t p rfl rfl active q
    have conditions : s.voicePActive = true ↔ active := voicePActive_iff s
    obtain ⟨v, d, f, only⟩ := syncVoiceP_only z s
    refine ⟨fun h => syncVoiceP_inactive (z := z) (fun k => h (conditions.1 k)), fun h off => ?_, fun h on same => ?_, fun h moved => ?_,
      by rw [only], by rw [only], by rw [only], by rw [only], by rw [only]⟩
    · have entered : q = s.chu.p.enter s.chu.prox s.zone := syncVoiceP_enters (conditions.2 h) off
      rw [entered]
      refine ⟨fun zone => ?_, fun low high => ?_, fun zone => ?_⟩
      · rw [zone]; exact ⟨rfl, rfl⟩
      · rw [enter_beeps _ low high]; exact ⟨rfl, rfl, rfl, rfl⟩
      · rw [zone]; rfl
    · exact congrArg (fun u : State => u.chu.p) (syncVoiceP_stays (conditions.2 h) on same)
    · have changes (on : s.chu.p.st ≠ .off) : q = (zoneChange s).chu.p :=
        congrArg (fun u : State => u.chu.p) (syncVoiceP_changes (conditions.2 h) on moved)
      refine ⟨fun st => ?_, fun st => ?_, fun st away => ?_, fun st => ?_, fun st => ?_⟩
      · rw [changes (by rw [st]; decide), zoneChange_beep st]
        exact ⟨fun zone => by rw [if_pos zone]; exact ⟨rfl, rfl, rfl⟩, fun zone => if_neg zone⟩
      · rw [changes (by rw [st]; decide), zoneChange_gap st]
        exact ⟨fun zone => by rw [if_pos zone]; exact ⟨rfl, rfl, rfl⟩, fun zone => if_neg zone⟩
      · rw [changes (by rw [st]; decide), zoneChange_tone st]
        exact ⟨rfl, rfl, rfl, rfl, fun e env => by rw [env]; rfl⟩
      · rw [changes (by rw [st]; decide), zoneChange_release st]
      · rw [changes (by rw [st]; decide), zoneChange_quiet st]
        exact ⟨fun zone => by rw [zone]; exact ⟨rfl, rfl, rfl⟩, fun low high => by rw [enter_beeps _ low high]; exact ⟨rfl, rfl, rfl⟩⟩

end Sys2Proof.Proofs
end

section
/-! PROOFS. A request taken: range check, guard, the sampling monitor (R121 to R129, R148, R150). -/

namespace Sys2Proof.Proofs

open Sys2Proof.Machine Sys2Proof.Safety

section
variable {q : Request} {s : State}

/-- The fitted memory is whole in 64-byte blocks; here, in words. -/
theorem memSize_words (s : State) : ∃ n, s.memSize = 4 * n := by
  unfold State.memSize
  cases s.straps.memsz
  · exact ⟨16 * Config.mib, rfl⟩
  · exact ⟨32 * Config.mib, rfl⟩

/-- R123, for a request of at least one word. -/
theorem outOfRange_iff (some : 1 ≤ q.len) : s.outOfRange q = true ↔
    s.memSize < q.wordAddr.toNat * 4 + 4 * q.len ∨ 8 < q.wordAddr.toNat % 8 + q.len := by
  obtain ⟨n, size⟩ := memSize_words s
  have beyond : (requestWords q).any (fun a => decide (s.memSize ≤ a)) = true ↔ s.memSize < q.wordAddr.toNat * 4 + 4 * q.len := by
    simp only [requestWords, List.any_map, List.any_eq_true, List.mem_range, Function.comp_apply, decide_eq_true_eq, requestAddr]
    constructor
    · rintro ⟨i, hi, h⟩
      omega
    · intro h
      exact ⟨q.len - 1, by omega, by omega⟩
  rw [State.outOfRange, Bool.or_eq_true, beyond, decide_eq_true_eq]

theorem findSome?_eq_find?_bind {α β : Type} (f : α → Option β) (l : List α) :
    l.findSome? f = (l.find? fun a => (f a).isSome).bind f := by
  induction l with
  | nil => rfl
  | cons a l ih =>
    cases h : f a with
    | none => rw [List.findSome?_cons_of_isNone (by rw [h]; rfl), List.find?_cons_of_neg (by simp [h]), ih]
    | some b =>
      rw [List.findSome?_cons_of_isSome (by rw [h]; rfl), List.find?_cons_of_pos (by simp [h])]
      rfl

/-- The first of the ranges that cover a word. -/
def guardingRange (s : State) (a : Nat) : Option (Nat × Nat × Bool) := (s.coveringRanges a).head?.map fun x => (a, x.1, x.2)

theorem guardHit_eq (s : State) (q : Request) : s.guardHit q = (requestWords q).findSome? (guardingRange s) := by
  unfold State.guardHit
  congr 1
  funext a
  unfold guardingRange
  cases s.coveringRanges a <;> rfl

theorem guardHit_none (h : ∀ i < q.len, s.coveringRanges (q.wordAddr.toNat * 4 + 4 * i) = []) : s.guardHit q = none := by
  rw [guardHit_eq, findSome?_eq_find?_bind, requestWords_find_none]
  · rfl
  · intro i hi
    rw [guardingRange, h i hi]
    rfl

theorem guardHit_some {i r : Nat} {fault : Bool} {rest : List (Nat × Bool)} (hi : i < q.len)
    (first : ∀ j < i, s.coveringRanges (q.wordAddr.toNat * 4 + 4 * j) = [])
    (hit : s.coveringRanges (q.wordAddr.toNat * 4 + 4 * i) = (r, fault) :: rest) :
    s.guardHit q = some (q.wordAddr.toNat * 4 + 4 * i, r, fault) := by
  have found : guardingRange s (q.wordAddr.toNat * 4 + 4 * i) = some (q.wordAddr.toNat * 4 + 4 * i, r, fault) := by
    rw [guardingRange, hit]
    rfl
  rw [guardHit_eq, findSome?_eq_find?_bind, requestWords_find hi (by rw [found]; rfl) fun j hj => by
    rw [guardingRange, first j hj]; rfl]
  exact found

/-- A request presented at a port that takes it. -/
def presented (q : Request) (s : State) : State := { s with ppw := { s.ppw with port := .pending, tx := some q, waiting := none } }

theorem takeNow_outside (h : s.outOfRange q = true) : takeNow q s =
    countCompletion (respond false (if q.write then [] else List.replicate q.len 0)
      (raise .procRange (BitVec.ofNat 32 (requestAddr q)) (BitVec.ofNat 32 (q.len + if q.write then 16 else 0)) (presented q s))) := by
  rw [takeNow]
  exact if_pos h

theorem takeNow_requests (inside : ¬s.outOfRange q = true) (free : q.write = false ∨ s.guardHit q = none) :
    takeNow q s = tagTake (presented q s) := by
  rw [takeNow]
  refine (if_neg inside).trans ?_
  show (if q.write = true then _ else _) = _
  rcases free with read | missed
  · exact if_neg (by rw [read]; decide)
  · have hit : (presented q s).guardHit q = none := missed
    unfold presented at hit
    rw [hit]
    exact ite_self _

theorem takeNow_guarded (inside : ¬s.outOfRange q = true) (write : q.write = true) {a r : Nat} {fault : Bool}
    (hit : s.guardHit q = some (a, r, fault)) : takeNow q s =
      countCompletion (respond (!fault) [] (raise .guardHit (BitVec.ofNat 32 a) (BitVec.ofNat 32 r) (presented q s))) := by
  rw [takeNow]
  refine (if_neg inside).trans ((if_pos write).trans ?_)
  have hit' : (presented q s).guardHit q = some (a, r, fault) := hit
  unfold presented at hit'
  rw [hit']
  rfl

end

/-! ### The ranges that cover an address -/

section
variable {s : State} {a r : Nat} {fault : Bool}

/-- Entry `i` of the guard table, where it is active and covers the address (R126). -/
def tableRange (s : State) (a i : Nat) : Option (Nat × Bool) :=
  let g := s.ppw.guard.getD i Reset.guardRange
  if s.rangeActive g && g.covers a then some (i, decide (g.response = 1)) else none

theorem rangeActive_iff (s : State) (g : GuardRange) :
    s.rangeActive g = true ↔ g.cond = .always ∨ (g.cond = .reverse ∧ s.rvc.st ≠ .normal) := by
  unfold State.rangeActive
  cases g.cond with
  | off => simp
  | always => simp
  | reverse => simp [reversing_iff]

theorem tableRange_eq_some_iff {i : Nat} : tableRange s a i = some (r, fault) ↔ i = r ∧
    (let g := s.ppw.guard.getD r Reset.guardRange;
      (g.cond = .always ∨ (g.cond = .reverse ∧ s.rvc.st ≠ .normal)) ∧ g.base.toNat ≤ a ∧
        a < g.base.toNat + g.length.toNat * 65536 ∧ fault = decide (g.response = 1)) := by
  have covers (g : GuardRange) : g.covers a = true ↔ g.base.toNat ≤ a ∧ a < g.base.toNat + g.length.toNat * 65536 := by
    show (decide (g.base.toNat ≤ a) && decide (a < g.base.toNat + g.length.toNat * 65536)) = true ↔ _
    rw [Bool.and_eq_true, decide_eq_true_eq, decide_eq_true_eq]
  unfold tableRange
  dsimp only
  split_ifs with h
  · rw [Bool.and_eq_true, rangeActive_iff, covers] at h
    obtain ⟨active, low, high⟩ := h
    rw [Option.some.injEq, Prod.mk.injEq]
    constructor
    · rintro ⟨rfl, rfl⟩
      exact ⟨rfl, active, low, high, rfl⟩
    · rintro ⟨rfl, _, _, _, rfl⟩
      exact ⟨rfl, rfl⟩
  · rw [Bool.and_eq_true, rangeActive_iff, covers] at h
    constructor
    · exact nofun
    · rintro ⟨rfl, active, low, high, _⟩
      exact absurd ⟨active, low, high⟩ h

/-- Ranges 8 and 9 (R58, R129). -/
def fixedRanges (s : State) (a : Nat) : List (Nat × Bool) :=
  (if s.inRange8 a then [(8, false)] else []) ++
    (if s.capturing && s.inCaptureArea a then [(9, (s.ccu.setup.map CamSetup.fault).getD false)] else [])

theorem coveringRanges_eq (s : State) (a : Nat) :
    s.coveringRanges a = (List.range 8).filterMap (tableRange s a) ++ fixedRanges s a := List.append_assoc ..

theorem inRange8_iff : s.inRange8 a = true ↔ s.caBase + 256 ≤ a ∧ a < s.caBase + 2048 := by
  rw [State.inRange8, Bool.and_eq_true, decide_eq_true_eq, decide_eq_true_eq]

theorem mem_fixedRanges_iff : (r, fault) ∈ fixedRanges s a ↔
    (r = 8 ∧ s.caBase + 256 ≤ a ∧ a < s.caBase + 2048 ∧ fault = false) ∨
    (r = 9 ∧ s.capturing = true ∧ ∃ c, s.ccu.setup = some c ∧ c.base ≤ a ∧ a < c.base + c.slots * 1048576 ∧ fault = c.fault) := by
  rw [fixedRanges, List.mem_append]
  refine or_congr ?_ ?_
  · split_ifs with h
    · obtain ⟨low, high⟩ := inRange8_iff.1 h
      simp [low, high]
    · have outside : ¬(s.caBase + 256 ≤ a ∧ a < s.caBase + 2048) := fun k => h (inRange8_iff.2 k)
      simp only [List.not_mem_nil, false_iff]
      rintro ⟨_, low, high, _⟩
      exact outside ⟨low, high⟩
  · cases setup : s.ccu.setup with
    | none =>
      have still : s.capturing = false := by simp [State.capturing, setup]
      simp [still]
    | some c =>
      have area := inCaptureArea_iff setup a
      split_ifs with h
      · rw [Bool.and_eq_true, area] at h
        obtain ⟨run, low, high⟩ := h
        simp [run, low, high]
      · rw [Bool.and_eq_true, area] at h
        simp only [List.not_mem_nil, false_iff]
        rintro ⟨_, run, c', e, low, high, _⟩
        cases e
        exact h ⟨run, low, high⟩

theorem mem_coveringRanges_iff : (r, fault) ∈ s.coveringRanges a ↔
    (r < 8 ∧ (let g := s.ppw.guard.getD r Reset.guardRange;
      (g.cond = .always ∨ (g.cond = .reverse ∧ s.rvc.st ≠ .normal)) ∧ g.base.toNat ≤ a ∧
        a < g.base.toNat + g.length.toNat * 65536 ∧ fault = decide (g.response = 1))) ∨
    (r = 8 ∧ s.caBase + 256 ≤ a ∧ a < s.caBase + 2048 ∧ fault = false) ∨
    (r = 9 ∧ s.capturing = true ∧ ∃ c, s.ccu.setup = some c ∧ c.base ≤ a ∧ a < c.base + c.slots * 1048576 ∧ fault = c.fault) := by
  rw [coveringRanges_eq, List.mem_append, mem_fixedRanges_iff]
  refine or_congr ?_ Iff.rfl
  rw [List.mem_filterMap]
  constructor
  · rintro ⟨i, hi, h⟩
    obtain ⟨rfl, active⟩ := tableRange_eq_some_iff.1 h
    exact ⟨List.mem_range.1 hi, active⟩
  · rintro ⟨small, active⟩
    exact ⟨r, List.mem_range.2 small, tableRange_eq_some_iff.2 ⟨rfl, active⟩⟩

theorem coveringRanges_ordered (s : State) (a : Nat) : (s.coveringRanges a).Pairwise fun x y => x.1 < y.1 := by
  have index {i : Nat} {x : Nat × Bool} (h : x ∈ tableRange s a i) : i = x.1 := (tableRange_eq_some_iff.1 h).1
  rw [coveringRanges_eq, List.pairwise_append]
  refine ⟨List.pairwise_filterMap.2 (List.pairwise_lt_range.imp fun h x hx y hy => ?_), ?_, fun x hx y hy => ?_⟩
  · rw [← index hx, ← index hy]
    exact h
  · unfold fixedRanges
    split_ifs <;> simp
  · obtain ⟨i, hi, h⟩ := List.mem_filterMap.1 hx
    have low : x.1 < 8 := index h ▸ List.mem_range.1 hi
    have high : 8 ≤ y.1 := by
      rcases mem_fixedRanges_iff.1 hy with ⟨e, _⟩ | ⟨e, _⟩ <;> omega
    omega

end

/-- Settles O43. -/
theorem takeChecks : Obligations.TakeChecks := by
  refine ⟨fun q s => ?_, fun s a r fault => ⟨mem_coveringRanges_iff, coveringRanges_ordered s a⟩⟩
  intro a outside counted tagged done requests
  refine ⟨fun wf port waiting => answers_of_next ?_, fun wf port => answers_of_next ?_, fun some out => ?_, fun some inside free => ?_,
    fun inside write i r fault rest hi first hit => ?_⟩
  · have waits : doTake q s = { s with ppw := { s.ppw with waiting := some q } } := by
      simp [doTake, wf, port, waiting]
    exact congrArg (fun u => Host.Outcome.next (settle u)) waits
  · have takes : doTake q s = takeNow q s := by
      simp [doTake, wf, port]
    exact congrArg (fun u => Host.Outcome.next (settle u)) takes
  · have count : (q.len + if q.write then 16 else 0) = if q.write then q.len + 16 else q.len := by split_ifs <;> rfl
    rw [takeNow_outside ((outOfRange_iff some).2 out), count]
    rfl
  · rw [takeNow_requests (fun k => inside ((outOfRange_iff some).1 k)) (free.imp_right guardHit_none)]
    rfl
  · rw [takeNow_guarded (fun k => inside ((outOfRange_iff (by omega)).1 k)) write (guardHit_some hi first hit)]
    rfl

end Sys2Proof.Proofs
end

section
/-! PROOFS. Completions of the processor port and the watched words (R121, R124, R125, R131, R132, R148, R151, R152). -/

namespace Sys2Proof.Proofs

open Sys2Proof.Machine Sys2Proof.Safety

/-! ### The bytes that a write stores (R125) -/

theorem writeCells_append (m : List Host.Cell) (xs ys : List Host.Cell) :
    writeCells m (xs ++ ys) = writeCells (writeCells m xs) ys := by
  induction xs generalizing m with
  | nil => rfl
  | cons x xs ih => exact ih (writeByte m x.1 x.2)

theorem enabledCells_mem {a : Nat} {w : WriteWord} {c : Host.Cell} (h : c ∈ enabledCells a w) :
    ∃ j < 4, c = (a + j, byteOf w.data j) := by
  obtain ⟨j, hj, rfl⟩ := List.mem_map.1 h
  exact ⟨j, List.mem_range.1 (List.mem_of_mem_filter hj), rfl⟩

section
variable {m : List Host.Cell} (wf : Memory.wf m = true)
include wf

/-- Cells at listed offsets, whose values depend on the offset alone. -/
theorem readByte_writeCells_map (a : Nat) (f : Nat → Byte) (js : List Nat) (j : Nat) :
    readByte (writeCells m (js.map fun i => (a + i, f i))) (a + j) = if j ∈ js then f j else readByte m (a + j) := by
  induction js generalizing m with
  | nil => rfl
  | cons i is ih =>
    rw [List.map_cons, writeCells, ih (wf_writeByte _ _ wf), readByte_writeByte wf]
    by_cases h : j ∈ is
    · rw [if_pos h, if_pos (List.mem_cons_of_mem i h)]
    · rw [if_neg h]
      by_cases e : i = j
      · rw [if_pos (by rw [e]), if_pos (by rw [e]; exact List.mem_cons_self), e]
      · rw [if_neg (by omega), if_neg]
        rintro (_ | ⟨_, k⟩)
        · exact e rfl
        · exact h k

/-- Of one word the enabled bytes are stored. -/
theorem readByte_enabledCells (a : Nat) (w : WriteWord) {j : Nat} (hj : j < 4) :
    readByte (writeCells m (enabledCells a w)) (a + j) = if w.enables.getLsbD j then byteOf w.data j else readByte m (a + j) := by
  rw [enabledCells, readByte_writeCells_map wf]
  refine if_congr ?_ rfl rfl
  rw [List.mem_filter, List.mem_range]
  exact and_iff_right hj

theorem readByte_enabledCells_frame (a b : Nat) (w : WriteWord) (h : b < a ∨ a + 4 ≤ b) :
    readByte (writeCells m (enabledCells a w)) b = readByte m b := by
  refine readByte_writeCells_frame wf _ b fun c hc => ?_
  obtain ⟨j, hj, rfl⟩ := enabledCells_mem hc
  show a + j ≠ b
  omega

theorem readByte_requestCells_frame (base : Nat) (data : List WriteWord) (a : Nat) (h : a < base ∨ base + 4 * data.length ≤ a) :
    readByte (writeCells m (requestCells base data)) a = readByte m a := by
  induction data generalizing m base with
  | nil => rfl
  | cons w ws ih =>
    rw [List.length_cons] at h
    rw [requestCells, writeCells_append, ih (wf_writeCells _ wf) (base + 4) (by omega), readByte_enabledCells_frame wf base a w (by omega)]

theorem readByte_requestCells (base : Nat) (data : List WriteWord) {i j : Nat} {w : WriteWord} (hj : j < 4) (hw : data[i]? = some w) :
    readByte (writeCells m (requestCells base data)) (base + 4 * i + j) =
      if w.enables.getLsbD j then byteOf w.data j else readByte m (base + 4 * i + j) := by
  induction data generalizing m base i with
  | nil => cases hw
  | cons x xs ih =>
    rw [requestCells, writeCells_append]
    cases i with
    | zero =>
      rw [List.getElem?_cons_zero, Option.some.injEq] at hw
      rw [readByte_requestCells_frame (wf_writeCells _ wf) (base + 4) xs _ (by omega), ← hw]
      exact readByte_enabledCells wf base x hj
    | succ i =>
      have place : base + 4 * (i + 1) + j = base + 4 + 4 * i + j := by omega
      rw [place, ih (wf_writeCells _ wf) (base + 4) hw, readByte_enabledCells_frame wf base _ x (by omega)]

end

/-! ### Completions -/

theorem carriesSampleClr_iff (ca a : Nat) (data : List WriteWord) : carriesSampleClr ca a data = true ↔
    ∃ i w, data[i]? = some w ∧ a + 4 * i = ca + 36 ∧ w.enables = 15 := by
  induction data generalizing a with
  | nil => simp [carriesSampleClr]
  | cons x xs ih =>
    rw [carriesSampleClr, Bool.or_eq_true, Bool.and_eq_true, decide_eq_true_eq, decide_eq_true_eq, ih]
    constructor
    · rintro (⟨here, full⟩ | ⟨i, w, hw, at', full⟩)
      · exact ⟨0, x, rfl, here, full⟩
      · exact ⟨i + 1, w, hw, by omega, full⟩
    · rintro ⟨i, w, hw, at', full⟩
      cases i with
      | zero =>
        rw [List.getElem?_cons_zero, Option.some.injEq] at hw
        subst hw
        exact .inl ⟨at', full⟩
      | succ i => exact .inr ⟨i, w, hw, by omega, full⟩

/-- What the completion of a transaction that reached memory does, by the monitor's state (R121, R148, R151, R152). -/
theorem completeTx_eq (q : Request) (data : List Word) (counts : Bool) (s : State) : completeTx q data counts s =
    respond true data (if s.fma.mon.st = .tagged then takeSample q s else if counts = true ∧ s.fma.mon.st = .counting
      then s.setMon { s.fma.mon with
        count := s.fma.mon.count + 1, st := if s.fma.mon.period ≤ s.fma.mon.count + 1 then .armed else .counting }
      else s) := by
  unfold completeTx
  by_cases tagged : s.fma.mon.st = .tagged
  · rw [if_pos tagged, decide_eq_true tagged]
    dsimp only
    rw [Bool.not_true, Bool.and_false]
    rfl
  · have untagged : takeSample q s = s := if_neg tagged
    rw [if_neg tagged, untagged, decide_eq_false tagged]
    dsimp only
    rw [Bool.not_false, Bool.and_true]
    cases counts with
    | false =>
      rw [if_neg (by decide), if_neg fun k => Bool.false_ne_true k.1]
    | true =>
      rw [if_pos rfl]
      by_cases counting : s.fma.mon.st = .counting
      · rw [if_pos ⟨rfl, counting⟩, countCompletion]
        exact if_pos counting
      · rw [if_neg fun k => counting k.2, countCompletion]
        exact if_neg counting

/-- A write beside the watched words is delivered nowhere. -/
theorem deliverWords_outside {a : Nat} {data : List WriteWord} {s : State}
    (h : ∀ i < data.length, ¬(s.caBase ≤ a + 4 * i ∧ a + 4 * i < s.caBase + 40)) : deliverWords a data s = s := by
  induction data generalizing a with
  | nil =>
    delta deliverWords
    rfl
  | cons w ws ih =>
    have here : deliverWord a w s = s := if_neg (h 0 (by simp))
    rw [deliverWords_cons, here]
    refine ih fun i hi => ?_
    have := h (i + 1) (by rw [List.length_cons]; omega)
    rwa [show a + 4 + 4 * i = a + 4 * (i + 1) by omega]

section
variable {s : State} {q : Request}

theorem readOver_eq {ws : List Word} (h : s.burst = some (.procRead ws)) (tx : s.ppw.tx = some q) :
    readOver s = completeTx q ws true (markEnded s) := by
  rw [readOver, h, tx]

/-- The state in which a granted write is in memory. -/
def written (q : Request) (s : State) : State :=
  markEnded { s with mem := writeCells s.mem (requestCells (requestAddr q) q.data), ppw := { s.ppw with tx := none } }

theorem writeOver_eq (h : s.burst = some .procWrite) (tx : s.ppw.tx = some q) : writeOver s =
    completeTx q [] (!carriesSampleClr s.caBase (requestAddr q) q.data) (deliverWords (requestAddr q) q.data (written q s)) := by
  have base : (written q s).caBase = s.caBase := by
    rw [written, markEnded_eq]
    rfl
  unfold writeOver
  rw [h, tx, ← base]
  rfl

end

/-- Settles O44. -/
theorem transactionCompletes : Obligations.TransactionCompletes := by
  refine ⟨fun s q running inside tx => ?_, fun m base data a wf => ⟨fun i j w hj hw ha => ?_, readByte_requestCells_frame wf base data a⟩⟩
  · intro ends
    have completes (data : List Word) (counts : Bool) (u : State) : completeTx q data counts u = ends data counts u := by
      rw [completeTx_eq]
      show respond true data _ = respond true data _
      refine congrArg _ ?_
      by_cases tagged : u.fma.mon.st = .tagged
      · rw [if_pos tagged, takeSample]
        exact (if_pos tagged).trans (if_pos tagged).symm
      · rw [if_neg tagged]
        exact (if_neg tagged).symm
    refine ⟨fun ws burst => answers_of_liveBurst rfl running inside ((readOver_eq burst tx).trans (completes ..)), ?_⟩
    rintro burst u rfl
    refine ⟨fun counts clears => answers_of_liveBurst rfl running inside ((writeOver_eq burst tx).trans ?_), fun beside => ?_⟩
    · have counted : (!carriesSampleClr s.caBase (requestAddr q) q.data) = counts := by
        rw [← carriesSampleClr_iff] at clears
        cases counts <;> simpa using clears
      rw [counted]
      exact completes ..
    · have base : (written q s).caBase = s.caBase := by
        rw [written, markEnded_eq]
        rfl
      exact deliverWords_outside (s := written q s) (by rw [base]; exact beside)
  · subst ha
    exact readByte_requestCells wf base data hj hw

/-! ### The watched words -/

theorem enableCount_eq (w : WriteWord) : enableCount w = (if w.enables.getLsbD 0 then 1 else 0) +
    (if w.enables.getLsbD 1 then 1 else 0) + (if w.enables.getLsbD 2 then 1 else 0) + (if w.enables.getLsbD 3 then 1 else 0) := by
  have four : List.range 4 = [0, 1, 2, 3] := rfl
  rw [enableCount, four]
  simp only [List.countP_cons, List.countP_nil]
  omega

section
variable {off : Nat} {w : WriteWord} {s : State} (low : off < 40)
include low

theorem deliverWord_eq : deliverWord (s.caBase + off) w s = match enableCount w with
    | 0 => s
    | 4 => takeWatched off w.data s
    | n => raise .watchPartial (BitVec.ofNat 32 off) (BitVec.ofNat 32 n) s := by
  have place : s.caBase + off - s.caBase = off := Nat.add_sub_cancel_left ..
  unfold deliverWord
  rewrite [if_pos ⟨Nat.le_add_right .., Nat.add_lt_add_left low _⟩, place]
  rfl

theorem deliverWord_none (h : enableCount w = 0) : deliverWord (s.caBase + off) w s = s := by
  rewrite [deliverWord_eq low, h]
  rfl

theorem deliverWord_partial (some : 1 ≤ enableCount w) (few : enableCount w ≤ 3) : deliverWord (s.caBase + off) w s =
    raise .watchPartial (BitVec.ofNat 32 off) (BitVec.ofNat 32 (enableCount w)) s := by
  rw [deliverWord_eq low]
  split
  · omega
  · omega
  · rfl

theorem deliverWord_full (h : enableCount w = 4) : deliverWord (s.caBase + off) w s = takeWatched off w.data s := by
  rewrite [deliverWord_eq low, h]
  rfl

end

/-- Settles O45. -/
theorem watchedWords : Obligations.WatchedWords := by
  refine ⟨⟨fun a w ws s => ⟨deliverWords_cons a w ws s, by delta deliverWords; rfl⟩, fun off w s low aligned => ?_⟩, fun v s running => ?_⟩
  · intro n at'
    have count : enableCount w = n := enableCount_eq w
    refine ⟨fun h => deliverWord_none low (count.trans h), fun some few => ?_, fun h => (deliverWord_full low (count.trans h)).trans ?_⟩
    · rw [← count]
      exact deliverWord_partial low (count ▸ some) (count ▸ few)
    · obtain rfl | rfl | rfl | rfl | rfl | rfl | rfl | rfl | rfl | rfl : off = 0 ∨ off = 4 ∨ off = 8 ∨ off = 12 ∨ off = 16 ∨
          off = 20 ∨ off = 24 ∨ off = 28 ∨ off = 32 ∨ off = 36 := by omega
      all_goals simp [takeWatched]
  · refine answers_of_live rfl running ?_
    unfold takeVehicle
    dsimp only
    rw [dirtyIf_eq]
    rfl

end Sys2Proof.Proofs
end

section
/-! PROOFS. The sampling monitor, and a request granted at its take (R121, R138, R139, R141, R148 to R152). -/

namespace Sys2Proof.Proofs

open Sys2Proof.Machine Sys2Proof.Safety

/-! ### The monitor's own moves -/

section
variable {r : Rec} {s : State}

theorem doSampleSetup_bad (h : 1 < r.op1.toNat ∨ (r.op1.toNat = 1 ∧ (r.op2.toNat < 1 ∨ 65535 < r.op2.toNat))) :
    doSampleSetup r s = finish resBadParam 0 s := if_pos h

theorem doSampleSetup_off (h : r.op1.toNat = 0) : doSampleSetup r s =
    finish resDone 0 (s.setMon { s.fma.mon with tag := Reset.tag, count := 0, st := .off }) := by
  rw [doSampleSetup]
  refine (if_neg (by omega)).trans ?_
  have notOn : ¬r.op1.toNat = 1 := by omega
  rw [if_neg notOn, if_neg notOn]
  rfl

theorem doSampleSetup_on (h : r.op1.toNat = 1) (low : 1 ≤ r.op2.toNat) (high : r.op2.toNat ≤ 65535) : doSampleSetup r s =
    finish resDone 0 (s.setMon { s.fma.mon with
      tag := Reset.tag, count := 0, period := r.op2.toNat, st := if s.fma.mon.valid then .held else .counting }) := by
  rw [doSampleSetup]
  refine (if_neg (by omega)).trans ?_
  rw [if_pos h, if_pos h]
  rfl

theorem arriveAs_setMon (k : Byte) (m : Monitor) (s : State) : arriveAs k r (s.setMon m) = (arriveAs k r s).setMon m := by
  rw [arriveAs_eq, arriveAs_eq]
  rfl

end

/-! ### A grant at the take -/

section
variable {s : State} {c : Client}

theorem withdrawWaits_requests (c : Client) (s : State) : (withdrawWaits s).requests c = s.requests c := by
  cases c <;> rfl

/-- An IDLE memory that one client alone asks for decides for it. -/
theorem settle_one (idle : s.fma.memory = .idle) (h : s.requests c = true) (others : ∀ d, d ≠ c → s.requests d = false) :
    settle s = decideFor c (withdrawWaits s) := by
  have alone : (withdrawWaits s).requesters = [c] := by
    unfold State.requesters
    simp only [funext (withdrawWaits_requests · s)]
    cases c <;> simp [h, others]
  unfold settle
  dsimp only
  rw [alone, show (withdrawWaits s).fma.memory = .idle from idle]

/-- With no refresh due, a client that alone asks is granted (R142). -/
theorem decideFor_client (owed : s.fma.owed ≠ 8) (listed : c = .proc ∨ c ∈ s.profile.order) :
    decideFor c s = giveGrant (fun d => decide (d = c)) (.client c) false s := by
  have target : decisionTarget (fun d => decide (d = c)) s = some (.client c) := by
    unfold decisionTarget
    rw [if_neg owed]
    cases urgent : s.profile.order.find? fun d => decide (d = c) && s.urgent d with
    | some d =>
      have found := List.find?_some urgent
      rw [Bool.and_eq_true, decide_eq_true_eq] at found
      exact congrArg (fun x => some (Target.client x)) found.1
    | none =>
      dsimp only
      by_cases proc : c = .proc
      · rw [if_pos (by rw [proc]; rfl), proc]
      · rw [if_neg (by simpa using Ne.symm proc)]
        cases first : s.profile.order.find? fun d => decide (d = c) with
        | some d =>
          have found := List.find?_some first
          exact congrArg (fun x => some (Target.client x)) (of_decide_eq_true found)
        | none =>
          have inside := listed.resolve_left proc
          exact absurd (List.find?_eq_none.1 first c inside) (by simp)
  unfold decideFor
  dsimp only
  rw [target]

/-- The monitor's part of a grant to PROC at the take (R150, R151). -/
theorem noteGrant_proc (waited : Bool) (s : State) : ∃ f, noteGrant (.client .proc) waited s = { s with
    fma := { s.fma with mon := if s.fma.mon.st = .tagged ∧ s.requests .proc = true
      then { s.fma.mon with tag := { s.fma.mon.tag with
        urgent := s.fma.mon.tag.urgent || s.urgentByCount .proc
        reverse := s.reversing
        wait := if waited then Config.sampleWait s.free else 0 } }
      else s.fma.mon }
    free := f } := by
  unfold noteGrant
  dsimp only
  by_cases h : s.fma.mon.st = .tagged ∧ s.requests .proc = true
  · rw [if_pos h, if_pos h, if_pos rfl]
    exact ⟨_, rfl⟩
  · rw [if_neg h, if_neg h]
    exact ⟨s.free, rfl⟩

end

/-- A request alone at an IDLE memory is granted as it comes to request. -/
theorem settle_proc {q : Request} {u : State} (idle : u.fma.memory = .idle) (owed : u.fma.owed = 0) (port : u.ppw.port = .pending)
    (tx : u.ppw.tx = some q) (others : ∀ c, c ≠ .proc → u.requests c = false) (fresh : u.fma.waits.get .proc = 0) :
    let t := settle u
    t.ppw = u.ppw ∧ t.fma.memory = .data ⟨.proc, q.wordAddr.toNat * 4, 4 * q.len,
      if q.write then .procWrite else .procRead (readWords u.mem (q.wordAddr.toNat * 4) q.len), false⟩ ∧
    t.fma.mon = if u.fma.mon.st = .tagged
      then { u.fma.mon with tag := { u.fma.mon.tag with reverse := u.reversing, wait := 0 } } else u.fma.mon := by
  have ungranted : u.procGranted = false := by simp [State.procGranted, State.burst, idle]
  have asks : u.requests .proc = true := by simp [State.requests, port, ungranted]
  have asks' : (withdrawWaits u).requests .proc = true := (withdrawWaits_requests ..).trans asks
  have counted : (withdrawWaits u).urgentByCount .proc = false := by
    have none : (withdrawWaits u).fma.waits.get .proc = 0 := by
      show (PerClient.build fun c => if u.requests c then u.fma.waits.get c else 0).get .proc = 0
      rw [PerClient.get_build, asks, fresh]
      rfl
    rw [State.urgentByCount, none]
    by_cases one : 1 ≤ (withdrawWaits u).profile.ceil.get .proc
    · rw [decide_eq_false (p := _ ≤ 0) (by omega), Bool.and_false]
    · rw [decide_eq_false one, Bool.false_and]
  obtain ⟨f, note⟩ := noteGrant_proc false (withdrawWaits u)
  have whole : settle u = giveGrant (fun d => decide (d = .proc)) (.client .proc) false (withdrawWaits u) := by
    rw [settle_one idle asks others, decideFor_client _ (.inl rfl)]
    show u.fma.owed ≠ 8
    omega
  intro t
  have given : t = giveGrant (fun d => decide (d = .proc)) (.client .proc) false (withdrawWaits u) := whole
  rw [given, giveGrant, note, asks', counted]
  unfold carryBurst
  dsimp only
  have tx' : (withdrawWaits u).ppw.tx = some q := tx
  rw [tx']
  refine ⟨rfl, rfl, ?_⟩
  have same : (withdrawWaits u).fma.mon = u.fma.mon := rfl
  rw [same]
  by_cases tagged : u.fma.mon.st = .tagged
  · rw [if_pos ⟨tagged, rfl⟩, if_pos tagged, Bool.or_false]
    rfl
  · rw [if_neg fun k => tagged k.1, if_neg tagged]
    rfl

/-- Settles O50. -/
theorem sampleMonitor : Obligations.SampleMonitor := by
  refine ⟨⟨fun v s running => ?_, fun r s ha => ?_, fun s => ?_⟩, fun q s => ?_⟩
  · obtain ⟨t, ht, k⟩ := answers_of_live (i := .sampleClr v) rfl running rfl
    have pending : t.seu.pending = s.seu.pending := by rw [k.seu]; rfl
    exact ⟨t, ht, by rw [k.mon]; rfl, by rw [k.mon]; rfl, by rw [k.mon]; rfl, by rw [k.mon]; rfl, by rw [k.mon]; rfl, by rw [k.ppw]; rfl,
      k.cmu, k.rvc, k.mem, pending⟩
  · intro on p
    have mon : (arriveAs 25 r s).fma.mon = s.fma.mon := by rw [arriveAs_eq]
    refine ⟨fun bad => answers_refused rfl ha (doSampleSetup_bad bad), fun off => ?_, fun one low high => ?_⟩
    · exact answers_completed (g := State.setMon _) rfl ha (arriveAs_setMon ..) (by rw [doSampleSetup_off off, mon])
    · exact answers_completed (g := State.setMon _) rfl ha (arriveAs_setMon ..) (by rw [doSampleSetup_on one low high, mon])
  · intro m
    exact ⟨fun h => if_pos h, fun h => if_neg h, fun h => if_pos h, fun h => if_neg h, fun q => ⟨fun h => if_neg h, fun h => if_pos h⟩⟩
  · intro a running port idle owed quiet fresh wf size block free m
    have some : 1 ≤ q.len := by
      simp only [Request.wf, Bool.and_eq_true, decide_eq_true_eq] at wf
      exact wf.1.1
    have inside : ¬s.outOfRange q = true := fun k => by
      have := (outOfRange_iff some).1 k
      omega
    have takes : doTake q s = tagTake (presented q s) := by
      rw [← takeNow_requests inside (free.imp_right guardHit_none)]
      simp [doTake, wf, port]
    have shape : tagTake (presented q s) = { presented q s with fma := { s.fma with mon := (tagTake (presented q s)).fma.mon } } := by
      unfold tagTake
      dsimp only
      split_ifs <;> rfl
    have monitor : (tagTake (presented q s)).fma.mon =
        if m.st = .armed then { m with st := .tagged, tag := { Reset.tag with holder := 7 } } else m := by
      have code : (presented q s).holderCode = 7 := by
        show s.holderCode = 7
        rw [State.holderCode, idle]
      unfold tagTake
      dsimp only
      rw [code]
      show (if s.fma.mon.st = .armed then _ else _ : State).fma.mon = _
      by_cases armed : s.fma.mon.st = .armed
      · rw [if_pos armed, if_pos armed]
        rfl
      · rw [if_neg armed, if_neg armed]
        rfl
    have others : ∀ c, c ≠ .proc → (tagTake (presented q s)).requests c = false := fun c hc => by
      rw [shape, ← quiet c]
      cases c with
      | proc => exact absurd rfl hc
      | scanC | scanL | scanR | capt | serv => rfl
    obtain ⟨ppw, memory, mon⟩ := settle_proc (q := q) (u := tagTake (presented q s)) (by rw [shape]; exact idle) (by rw [shape]; exact owed)
      (by rw [shape]; rfl) (by rw [shape]; rfl) others (by rw [shape]; exact fresh)
    have port' : (settle (tagTake (presented q s))).ppw = (presented q s).ppw := by rw [ppw, shape]
    have sdram : (tagTake (presented q s)).mem = s.mem := by rw [shape]; rfl
    have reversing : (tagTake (presented q s)).reversing = decide (s.rvc.st ≠ .normal) := by rw [shape]; rfl
    rw [sdram] at memory
    rw [monitor, reversing] at mon
    refine ⟨_, congrArg (fun u => Host.Outcome.next (settle u)) takes, by rw [port']; rfl, by rw [port']; rfl, ?_, memory, fun armed => ?_,
      fun armed tagged => ?_⟩
    · have granted : (settle (tagTake (presented q s))).procGranted = true := by
        unfold State.procGranted State.burst
        rw [memory]
        cases q.write <;> rfl
      simp [State.requests, granted]
    · rw [mon, if_pos armed]
      rfl
    · rw [mon, if_neg armed]
      exact if_neg tagged

end Sys2Proof.Proofs
end

section
/-! PROOFS. A millisecond, and the refresh timer (R27, R146, R177). -/

namespace Sys2Proof.Proofs

open Sys2Proof.Machine Sys2Proof.Safety

section
variable {s : State}

/-- Where no timer is due none is served. -/
theorem expireDue_eq (h : TimersNotDue s) : expireDue s = s := by
  obtain ⟨link, presence, rev, engage, stale, linger, steering, obstacle⟩ := h
  have none : dueExpiries s = [] := by
    have rl : s.links.rl.timer ≠ some 0 := link .rl
    have rr : s.links.rr.timer ≠ some 0 := link .rr
    simp [dueExpiries, rl, rr, presence, rev, engage, stale, linger, steering, obstacle]
  rw [expireDue, none]
  rfl

theorem doTick_eq (h : TimersNotDue s) : doTick s = advanceMs s := congrArg advanceMs (expireDue_eq h)

/-- The media clock of a source after a millisecond (R27). -/
theorem filmTick_eq (s : State) (f : Film) : f.tick s.filmHeld = { f with clock :=
    if f.playing = true ∧ ¬(s.rvc.setup.filmHold = true ∧ s.rvc.st ≠ .normal) then f.clock + 1 else f.clock } := by
  have held : s.filmHeld = true ↔ s.rvc.setup.filmHold = true ∧ s.rvc.st ≠ .normal := by
    rw [State.filmHeld, Bool.and_eq_true, reversing_iff]
  have goes : (f.playing && !s.filmHeld) = true ↔ f.playing = true ∧ ¬(s.rvc.setup.filmHold = true ∧ s.rvc.st ≠ .normal) := by
    rw [← held, Bool.and_eq_true, Bool.not_eq_true', Bool.not_eq_true]
  rw [Film.tick]
  by_cases go : (f.playing && !s.filmHeld) = true
  · rw [if_pos go, if_pos (goes.1 go)]
  · rw [if_neg go, if_neg fun k => go (goes.2 k)]

theorem refreshTick_counts (on : s.fma.refreshOn = true) (h : s.fma.owed < 8) :
    refreshTick s = { s with fma := { s.fma with owed := s.fma.owed + 1 } } := by
  rw [refreshTick, on]
  exact if_pos h

theorem refreshTick_late (on : s.fma.refreshOn = true) (h : s.fma.owed = 8) : refreshTick s =
    raise .refreshLate (BitVec.ofNat 32 (min 65535 (s.fma.lateRun + 1))) (BitVec.ofNat 32 s.holderCode)
      { s with fma := { s.fma with lateRun := min 65535 (s.fma.lateRun + 1) } } := by
  rw [refreshTick, on]
  exact if_neg (show ¬s.fma.owed < 8 by omega)

theorem noteGrant_fma (t : Target) (w : Bool) (s : State) :
    (noteGrant t w s).fma.owed = s.fma.owed ∧ (noteGrant t w s).fma.lateRun = s.fma.lateRun := by
  obtain ⟨tag, f, e⟩ := noteGrant_recount t w s
  rw [e]
  exact ⟨rfl, rfl⟩

/-- An IDLE memory that no client asks for takes a refresh that is owed. -/
theorem settle_refresh (idle : s.fma.memory = .idle) (quiet : ∀ c, s.requests c = false) (owed : 1 ≤ s.fma.owed) :
    (settle s).fma.memory = .refresh ∧ (settle s).fma.owed = s.fma.owed - 1 := by
  have none : (withdrawWaits s).requesters = [] := by
    unfold State.requesters
    simp [withdrawWaits_requests, quiet]
  have given : settle s = giveGrant (withdrawWaits s).requests .refresh false (withdrawWaits s) := by
    unfold settle
    dsimp only
    rw [none, show (withdrawWaits s).fma.memory = .idle from idle]
    exact if_pos owed
  rw [given]
  refine ⟨rfl, ?_⟩
  show (noteGrant .refresh false (withdrawWaits s)).fma.owed - 1 = _
  rw [(noteGrant_fma ..).1]
  rfl

end

/-- Settles O47. -/
theorem timePasses : Obligations.TimePasses := by
  refine ⟨fun s running due => ?_, fun s running on => ⟨fun few => ?_, fun none idle quiet => ?_, fun full busy => ?_⟩⟩
  · obtain ⟨t, ht, k⟩ := answers_of_live (i := .partTimeTick) rfl running (doTick_eq due)
    have pending : t.seu.pending = s.seu.pending := by rw [k.seu]; rfl
    refine ⟨t, ht, k.time, fun src => ?_, ?_, fun o => ?_, by rw [k.ccu]; rfl, k.rvc, k.gde, pending, k.chu, k.scn, k.menu, k.mem, k.ppw,
      k.cmu, by rw [k.ccu]; rfl, by rw [k.ccu]; rfl, k.layout, k.pending⟩
    · rw [k.fqu, ← filmTick_eq]
      cases src <;> rfl
    · rw [k.fqu]
      rfl
    · rw [k.links]
      cases o <;> rfl
  · exact answers_of_live rfl running (refreshTick_counts on few)
  · refine ⟨_, live_eq (f := refreshTick) running, ?_⟩
    rw [refreshTick_counts on (by omega)]
    obtain ⟨memory, owed⟩ := settle_refresh (s := { s with fma := { s.fma with owed := s.fma.owed + 1 } }) idle
      (fun c => (quiet c ▸ by cases c <;> rfl)) (Nat.le_add_left ..)
    exact ⟨memory, owed.trans none⟩
  · intro n
    have holder : BitVec.ofNat 32 s.holderCode = match s.fma.memory with
        | .refresh => 6
        | .data g => BitVec.ofNat 32 g.client.code
        | _ => 7 := by
      unfold State.holderCode
      cases hm : s.fma.memory with
      | idle => exact absurd hm busy
      | notReady | refresh | data g => rfl
    refine answers_of_live rfl running ((refreshTick_late on full).trans ?_)
    rewrite [holder]
    rfl

end Sys2Proof.Proofs
end

section
/-! PROOFS. The end of a command: its record consumed (R160); and SOFT_RESTART (R162). -/

namespace Sys2Proof.Proofs

open Sys2Proof.Machine Sys2Proof.Safety

/-! ### A record is consumed (R160) -/

/-- The events at the end of a record: CMD_ERROR for a result that is neither DONE nor MERGED, then CMD_DONE where it asks. -/
def recordEvents (m : Cmu) (s : State) : State :=
  raiseIf m.cmd.fields.notify .cmdDone (m.c.setWidth 32) m.code
    (raiseIf (decide (m.code ≠ resDone ∧ m.code ≠ resMerged)) .cmdError (m.c.setWidth 32) m.code s)

theorem raiseIf_setCmu (b : Bool) (k : EvKind) (d a : Word) (m : Cmu) (s : State) :
    raiseIf b k d a { s with cmu := m } = { raiseIf b k d a s with cmu := m } := by
  cases b <;> rfl

theorem recordEvents_setCmu (m n : Cmu) (s : State) : recordEvents m { s with cmu := n } = { recordEvents m s with cmu := n } := by
  unfold recordEvents
  exact (congrArg (raiseIf _ _ _ _) (raiseIf_setCmu ..)).trans (raiseIf_setCmu ..)

theorem recordEvents_eq (m : Cmu) (s : State) : recordEvents m s =
    (let e := if m.code = resDone ∨ m.code = resMerged then s else raise .cmdError (m.c.setWidth 32) m.code s
     if m.cmd.fields.notify then raise .cmdDone (m.c.setWidth 32) m.code e else e) := by
  have error : raiseIf (decide (m.code ≠ resDone ∧ m.code ≠ resMerged)) .cmdError (m.c.setWidth 32) m.code s =
      if m.code = resDone ∨ m.code = resMerged then s else raise .cmdError (m.c.setWidth 32) m.code s := by
    by_cases good : m.code = resDone ∨ m.code = resMerged
    · rw [if_pos good, decide_eq_false (fun k => good.elim k.1 k.2)]
      rfl
    · rw [if_neg good, decide_eq_true (not_or.1 good)]
      rfl
  rw [recordEvents, error]
  rfl

/-- The next record is taken exactly where P is beyond C. -/
theorem takeRecord_eq (s : State) : takeRecord s = { s with
    cmu := { s.cmu with st := if s.cmu.p = s.cmu.c then .idle else .reading }, seu := { s.seu with dirty := true } } := by
  have nothing : s.cmu.pendingCount = 0 ↔ s.cmu.p = s.cmu.c := by
    unfold Cmu.pendingCount
    exact sub_eq_zero
  unfold takeRecord
  by_cases h : s.cmu.p = s.cmu.c
  · rw [if_neg (not_not.2 (nothing.2 h)), if_pos h]
    rfl
  · rw [if_pos (mt nothing.1 h), if_neg h]
    rfl

theorem consume_eq {s : State} {ws : List Word} (h : s.burst = some (.result ws)) : consume s =
    takeRecord (recordEvents s.cmu
      (markEnded { s with mem := writeWords s.mem s.burstAddr ws, cmu := { s.cmu with c := s.cmu.c + 1 } })) := by
  unfold consume
  rw [h]
  rfl

/-- Settles O54: the advance of C does not touch the raises, so the events are those of the state with the words written. -/
theorem recordConsumed : Obligations.RecordConsumed := by
  intro s ws running inside burst
  refine answers_of_liveBurst rfl running inside ((consume_eq burst).trans ?_)
  have before : markEnded { s with mem := writeWords s.mem s.burstAddr ws, cmu := { s.cmu with c := s.cmu.c + 1 } } =
      { markEnded { s with mem := writeWords s.mem s.burstAddr ws } with cmu := { s.cmu with c := s.cmu.c + 1 } } := by
    rw [markEnded_state, markEnded_state]
  rewrite [before, recordEvents_setCmu, takeRecord_eq, recordEvents_eq]
  rfl

/-! ### SOFT_RESTART (R162) -/

/-- A scanout unit stopped at once, where it is not STOPPED. -/
def haltScan (x : Scan) : Scan := if x.st = .stopped then x else stopScan x

/-- The menu plane as set is switched off. -/
def menuOff (x : Scan) : Scan := { x with asSet := { x.asSet with menu := { x.asSet.menu with enabled := false } } }

/-- The UI plane as set is switched off. -/
def uiOff (x : Scan) : Scan := { x with asSet := { x.asSet with ui := { x.asSet.ui with enabled := false } } }

theorem disablePlanes_eq (s : State) :
    disablePlanes s = { s with scn := ⟨uiOff s.scn.ctr, menuOff s.scn.rl, menuOff s.scn.rr⟩ } := rfl

/-- The report of a frame that is cut off. -/
def haltReport (o : Rear) (x : Scan) : List Raise :=
  if x.st ≠ .stopped ∧ x.frameOpen = true ∧ x.underruns ≠ 0 then
    [⟨underrunKind (rearOutput o), BitVec.ofNat 32 x.underruns, x.frames &&& 0xFFFF⟩]
  else []

theorem haltReport_length (o : Rear) (x : Scan) : (haltReport o x).length ≤ 1 := by
  unfold haltReport
  split_ifs <;> simp

theorem stopAtOnce_eq (o : Rear) (s : State) : ∃ m d, (m = .idle → s.fma.memory = .idle) ∧ stopAtOnce o s = ({ s with
    scn := s.scn.set (rearOutput o) (haltScan (s.scan (rearOutput o))), fma := { s.fma with memory := m },
    seu := { s.seu with dirty := d } }, haltReport o (s.scan (rearOutput o))) := by
  unfold stopAtOnce haltScan haltReport
  dsimp only
  by_cases stopped : (s.scan (rearOutput o)).st = .stopped
  · rw [if_pos stopped, if_pos stopped, if_neg (fun k => k.1 stopped)]
    exact ⟨s.fma.memory, s.seu.dirty, id, by rw [State.scan, PerOutput.set_get]⟩
  · rw [if_neg stopped, if_neg stopped, scanStop_eq]
    refine ⟨_, _, (lineDropped_eq_idle_iff ..).1, Prod.ext rfl ?_⟩
    unfold underrunReport
    by_cases opened : (s.scan (rearOutput o)).frameOpen = true <;> by_cases missed : (s.scan (rearOutput o)).underruns = 0 <;>
      simp [stopped, opened, missed]

/-- A film with its queue emptied and its current buffer dropped. -/
def clearFilm (f : Film) : Film := { f with queue := [], current := none }

/-- What SOFT_RESTART empties and switches off besides its stops of the rear outputs. -/
def emptied (s : State) : State := { s with
  scn := ⟨uiOff s.scn.ctr, menuOff s.scn.rl, menuOff s.scn.rr⟩
  fqu := { a := clearFilm s.fqu.a, b := clearFilm s.fqu.b, rear := ⟨⟨none, none, none⟩, ⟨none, none, none⟩⟩ }
  chu := { s.chu with queue := [], q := s.chu.q.cleared }
  seu := { s.seu with dirty := true } }

/-- Both rear outputs stopped at once; `m` holds the memory then. -/
def halted (m : MemState) (d : Bool) (s : State) : State := { s with
  scn := ⟨s.scn.ctr, haltScan s.scn.rl, haltScan s.scn.rr⟩
  fma := { s.fma with memory := m }
  seu := { s.seu with dirty := d } }

theorem emptied_eq (s : State) : (stopChimes (disablePlanes (filmRestart s))).markDirty = emptied s := by
  rewrite [disablePlanes_eq]
  rfl

theorem stopsAtOnce_eq (s : State) : ∃ m d, (m = .idle → s.fma.memory = .idle) ∧ (stopAtOnce .rr (stopAtOnce .rl s).1).1 = halted m d s ∧
    (stopAtOnce .rl s).2 = haltReport .rl s.scn.rl ∧ (stopAtOnce .rr (stopAtOnce .rl s).1).2 = haltReport .rr s.scn.rr := by
  obtain ⟨m, d, busy, left⟩ := stopAtOnce_eq .rl s
  obtain ⟨m', d', busy', right⟩ := stopAtOnce_eq .rr (stopAtOnce .rl s).1
  rw [left] at busy'
  rw [right, left]
  exact ⟨m', d', busy ∘ busy', rfl, rfl, rfl⟩

/-- The rear outputs that were not STOPPED, one bit each. -/
def runningMask (s : State) : Word :=
  BitVec.ofNat 32 ((if s.scn.rl.st = .stopped then 0 else 1) + (if s.scn.rr.st = .stopped then 0 else 2))

theorem doSoftRestart_eq (r : Rec) (s : State) : ∃ m d, (m = .idle → s.fma.memory = .idle) ∧ doSoftRestart r s = finish resDone (runningMask s)
    (raiseTogether [haltReport .rl s.scn.rl, haltReport .rr s.scn.rr] (emptied (halted m d s))) := by
  obtain ⟨m, d, busy, stopped, left, right⟩ := stopsAtOnce_eq s
  have mask : pack [(ofBool (decide (s.scn.rl.st ≠ .stopped)), 0), (ofBool (decide (s.scn.rr.st ≠ .stopped)), 1)] =
      runningMask s := by
    rw [pack_two]
    unfold runningMask ofBool
    by_cases l : s.scn.rl.st = .stopped <;> by_cases r : s.scn.rr.st = .stopped <;> simp [l, r]
  refine ⟨m, d, busy, ?_⟩
  unfold doSoftRestart
  dsimp only
  rw [mask, left, right, stopped, emptied_eq]

/-- No raise touches the masks or the tag of events. -/
theorem raiseAll_setup (rs : List Raise) (s : State) : (raiseAll rs s).seu.recMask = s.seu.recMask ∧
    (raiseAll rs s).seu.attnMask = s.seu.attnMask ∧ (raiseAll rs s).seu.tag = s.seu.tag := by
  induction rs generalizing s with
  | nil => exact ⟨rfl, rfl, rfl⟩
  | cons x rs ih =>
    have one : (raise x.kind x.detail x.aux s).seu.recMask = s.seu.recMask ∧
        (raise x.kind x.detail x.aux s).seu.attnMask = s.seu.attnMask ∧ (raise x.kind x.detail x.aux s).seu.tag = s.seu.tag := by
      unfold raise
      dsimp only
      rcases placeRecord_cases x.kind (eventWords x.kind x.detail x.aux s.time s.seu.tag) (s.seu.setKind x.kind) with e | e | ⟨_, e⟩ <;>
        rw [e] <;> exact ⟨rfl, rfl, rfl⟩
    obtain ⟨rec, attn, tag⟩ := ih (raise x.kind x.detail x.aux s)
    exact ⟨rec.trans one.1, attn.trans one.2.1, tag.trans one.2.2⟩

section
variable {xs ys : List Raise} {code detail : Word} {s u t : State}

/-- Of two single raises that come together with a completion either may come first. -/
theorem finish_raises (h : t.seu = (finish code detail (raiseTogether [xs, ys] u)).seu)
    (dirty : ∃ d, u.seu = { s.seu with dirty := d }) (time : u.time = s.time) (one : xs.length ≤ 1) (one' : ys.length ≤ 1) :
    Raises (xs ++ ys) s t ∨ Raises (ys ++ xs) s t := by
  obtain ⟨d, seu⟩ := dirty
  obtain ⟨k, order⟩ := interleave_atMostOne u.free one ys
  obtain ⟨d', raised⟩ := raisesTo_raiseAll (u := { u with free := u.free + [xs, ys].flatten.length }) seu time (interleave u.free xs ys)
  have finished : t.seu = { (raiseAll (interleave u.free xs ys) s).seu with dirty := true } := by
    rw [h, raiseTogether_two]
    show { (raiseAll (interleave u.free xs ys) _).seu with dirty := true } = _
    rw [raised]
  have raises : Raises (interleave u.free xs ys) s t := by
    rw [Raises, finished]
  rw [order] at raises
  rcases take_append_drop_one (xs := xs) one' k with e | e <;> rw [e] at raises
  · exact .inl raises
  · exact .inr raises

end

theorem halted_eq (x : Scan) : let h := menuOff (haltScan x)
    h.st = .stopped ∧ (x.st ≠ .stopped → h.fetch = [] ∧ h.frameOpen = false) ∧ h.timing = x.timing ∧ h.frames = x.frames ∧
      h.pacing = x.pacing ∧ h.asSet = { x.asSet with menu := { x.asSet.menu with enabled := false } } ∧ h.inUse = x.inUse := by
  intro h
  unfold h haltScan
  by_cases stopped : x.st = .stopped
  · rw [if_pos stopped]
    exact ⟨stopped, fun running => absurd stopped running, rfl, rfl, rfl, rfl, rfl⟩
  · rw [if_neg stopped]
    exact ⟨rfl, fun _ => ⟨rfl, rfl⟩, rfl, rfl, rfl, rfl, rfl⟩

/-- Settles O55: each block's part is independent of the arrival; the two reports are single raises. -/
theorem softRestart : Obligations.SoftRestart := by
  intro r s arrives
  obtain ⟨m, d, busy, effect⟩ := doSoftRestart_eq r (arriveAs 26 r s)
  obtain ⟨t, answers, kept⟩ := answers_of_arrival (i := .softRestart r) rfl arrives effect
  rw [arriveAs_eq] at kept busy
  have held : m ≠ .idle := fun idle => arrives_busy arrives ((endedMemory_eq_idle_iff _).1 (busy idle))
  obtain ⟨scn, menu, layout, fqu, ccu, rvc, gde, chu, seu, cmu, mem, time, ppw, links, _⟩ := decided_busy kept (by
    rw [raiseTogether_eq]
    exact held)
  have raises : Raises (haltReport .rl s.scn.rl ++ haltReport .rr s.scn.rr) s t ∨
      Raises (haltReport .rr s.scn.rr ++ haltReport .rl s.scn.rl) s t :=
    finish_raises seu ⟨true, rfl⟩ rfl (haltReport_length ..) (haltReport_length ..)
  obtain ⟨order, made⟩ : ∃ rs, Raises rs s t := raises.elim (fun h => ⟨_, h⟩) fun h => ⟨_, h⟩
  obtain ⟨recMask, attnMask, tag⟩ := raiseAll_setup order s
  have quiet := kept.quiet
  rw [raiseTogether_eq] at scn menu layout fqu ccu rvc gde chu cmu mem time ppw links quiet
  have mon : t.fma.mon = s.fma.mon := by rw [quiet held]; rfl
  have scan (o : Rear) : t.scan (rearOutput o) = menuOff (haltScan (s.scan (rearOutput o))) := by
    unfold State.scan
    rw [scn]
    cases o <;> rfl
  refine ⟨t, answers, by rw [cmu]; rfl, by rw [cmu]; rfl, by rw [cmu]; rfl, fun o => ?_, raises, by rw [scn]; rfl, fun src => ?_,
    chu, by rw [seu]; rfl, menu, links, rvc, gde, ccu, ppw, by rw [quiet held]; rfl, by rw [quiet held]; rfl, mon, mem, time,
    by rw [cmu]; rfl, by rw [cmu]; rfl, layout, by rw [made]; exact recMask, by rw [made]; exact attnMask, by rw [made]; exact tag⟩
  · rw [scan, fqu]
    obtain ⟨st, fetch, timing, frames, pacing, asSet, inUse⟩ := halted_eq (s.scan (rearOutput o))
    exact ⟨st, fetch, timing, frames, pacing, asSet, inUse, by cases o <;> rfl⟩
  · rw [fqu]
    cases src <;> exact ⟨rfl, rfl⟩

end Sys2Proof.Proofs
end

section
/-! PROOFS. The commands that read memory: their checks at take and the read begun (R157, R161), and the ends of their reads (R18, R19,
R43, R44, R51, R101 to R103, R116, R127, R128). -/

namespace Sys2Proof.Proofs

open Sys2Proof.Machine Sys2Proof.Safety

/-! ### The checks at take (R157, R161) -/

section
variable {i : Instr} {k : Byte} {r : Rec} {f : Rec → State → State} {s : State} {code : Word} {plan : List (Nat × Nat)}
  (he : exec i s = live (onArrival k r f) s) (ha : Arrives s)
include he ha

theorem answers_reads (hf : f r (arriveAs k r s) = beginRead plan (arriveAs k r s)) : Answers i s (reads k r plan s) :=
  answers_of_arrival he ha hf

/-- A command whose last check is that its source fits. -/
theorem answers_source {a : Word} {n : Nat} (hf : f r (arriveAs k r s) = if !sourceOk (arriveAs k r s).memSize a.toNat n
      then finish resSourceErr 0 (arriveAs k r s) else beginRead plan (arriveAs k r s)) :
    (SourceFits s a n → Answers i s (reads k r plan s)) ∧
    (¬SourceFits s a n → Answers i s (completed k r resSourceErr 0 s)) := by
  rw [arriveAs_memSize] at hf
  refine ⟨fun fits => answers_reads he ha ?_, fun wrong => answers_refused he ha ?_⟩
  · rw [hf, (sourceOk_iff s a n).2 fits]
    rfl
  · rw [hf, Bool.eq_false_iff.2 (mt (sourceOk_iff s a n).1 wrong)]
    rfl

end

theorem captureQuiet_iff (s : State) :
    captureQuiet s = true ↔ s.capturing = false ∧ (∀ x ∈ s.ccu.slots, x.st ≠ .shown) ∧ s.ccu.buffer = [] := by
  simp [captureQuiet, shownSlot, and_assoc]

theorem chimesQuiet_iff (s : State) : chimesQuiet s = true ↔ s.chu.q.st = .idle ∧ s.chu.queue = [] := by
  simp [chimesQuiet]

theorem arriveAs_captureQuiet (k : Byte) (r : Rec) (s : State) : captureQuiet (arriveAs k r s) = captureQuiet s := by
  rw [arriveAs_eq]
  rfl

theorem arriveAs_chimesQuiet (k : Byte) (r : Rec) (s : State) : chimesQuiet (arriveAs k r s) = chimesQuiet s := by
  rw [arriveAs_eq]
  rfl

section
variable {r : Rec} {s : State} {o : Rear}

theorem doPaletteLoad_rear (h : rearOf r.target = some o) : doPaletteLoad r s =
    if !sourceOk s.memSize r.op1.toNat 1024 then finish resSourceErr 0 s else beginRead (burstsOf r.op1.toNat 256) s := by
  rw [doPaletteLoad, h]

theorem doPaletteLoad_other (h : rearOf r.target = none) : doPaletteLoad r s = finish resBadParam 0 s := by
  rw [doPaletteLoad, h]

theorem doRampLoad_other (h : rearOf r.target = none) : doRampLoad r s = finish resBadParam 0 s := by
  rw [doRampLoad, h]

theorem doRampLoad_count (h : rearOf r.target = some o) (count : r.op1.toNat < 2 ∨ 64 < r.op1.toNat) :
    doRampLoad r s = finish resBadParam 0 s := by
  rw [doRampLoad, h]
  exact if_pos count

theorem doRampLoad_counted (h : rearOf r.target = some o) (least : 2 ≤ r.op1.toNat) (most : r.op1.toNat ≤ 64) : doRampLoad r s =
    if !sourceOk s.memSize r.op2.toNat r.op1.toNat then finish resSourceErr 0 s
    else if !(s.menu.get o).atRest then finish resBusy 0 s
    else beginRead (burstsOf r.op2.toNat ((r.op1.toNat + 3) / 4)) s := by
  rw [doRampLoad, h]
  exact if_neg (show ¬(r.op1.toNat < 2 ∨ 64 < r.op1.toNat) by omega)

theorem doCameraSetup_eq : doCameraSetup r s = if !captureQuiet s then finish resWrongState 0 s
    else if !sourceOk s.memSize r.op1.toNat 64 then finish resSourceErr 0 s else beginRead (burstsOf r.op1.toNat 16) s := rfl

theorem doChimeTable_eq : doChimeTable r s = if !chimesQuiet s then finish resBusy 0 s
    else if !sourceOk s.memSize r.op1.toNat 3136 then finish resSourceErr 0 s else beginRead (burstsOf r.op1.toNat 784) s := rfl

theorem menu_atRest_iff (m : Menu) : m.atRest = true ↔ m.motion = .inRest ∨ m.motion = .outRest := by
  unfold Menu.atRest
  cases m.motion <;> simp

end

/-- The ramp's checks at take (R19). -/
theorem rampLoad_takes {r : Rec} {s : State} {o : Rear} (ha : Arrives s) (rear : rearOf r.target = some o) (least : 2 ≤ r.op1.toNat)
    (most : r.op1.toNat ≤ 64) :
    (¬SourceFits s r.op2 r.op1.toNat → Answers (.rampLoad r) s (completed 6 r resSourceErr 0 s)) ∧
    (SourceFits s r.op2 r.op1.toNat →
      ((s.menu.get o).motion = .fadingIn ∨ (s.menu.get o).motion = .fadingOut →
        Answers (.rampLoad r) s (completed 6 r resBusy 0 s)) ∧
      ((s.menu.get o).motion = .inRest ∨ (s.menu.get o).motion = .outRest →
        Answers (.rampLoad r) s (reads 6 r (burstsOf r.op2.toNat ((r.op1.toNat + 3) / 4)) s))) := by
  have checks := doRampLoad_counted (s := arriveAs 6 r s) rear least most
  rw [arriveAs_memSize, arriveAs_menu] at checks
  have fitsIff := sourceOk_iff s r.op2 r.op1.toNat
  refine ⟨fun wrong => answers_refused rfl ha ?_, fun fits => ⟨fun moving => answers_refused rfl ha ?_, fun rests => answers_reads rfl ha ?_⟩⟩
  · rw [checks, Bool.eq_false_iff.2 (mt fitsIff.1 wrong)]
    rfl
  · have busy : (s.menu.get o).atRest = false := Bool.eq_false_iff.2 fun k => by
      rcases (menu_atRest_iff _).1 k with h | h <;> rw [h] at moving <;> simp at moving
    rw [checks, fitsIff.2 fits, busy]
    rfl
  · rw [checks, fitsIff.2 fits, (menu_atRest_iff _).2 rests]
    rfl

/-- The three sources of GUIDE_SETUP (R82). -/
theorem guideSetup_takes {r : Rec} {s : State} (ha : Arrives s) :
    (SourceFits s r.op1 64 ∧ SourceFits s r.op2 64 ∧ SourceFits s r.op3 64 → Answers (.guideSetup r) s
      (reads 18 r (burstsOf r.op1.toNat 16 ++ burstsOf r.op2.toNat 16 ++ burstsOf r.op3.toNat 16) s)) ∧
    (¬(SourceFits s r.op1 64 ∧ SourceFits s r.op2 64 ∧ SourceFits s r.op3 64) →
      Answers (.guideSetup r) s (completed 18 r resSourceErr 0 s)) := by
  have all : (sourceOk s.memSize r.op1.toNat 64 && sourceOk s.memSize r.op2.toNat 64 && sourceOk s.memSize r.op3.toNat 64) = true ↔
      SourceFits s r.op1 64 ∧ SourceFits s r.op2 64 ∧ SourceFits s r.op3 64 := by
    rw [Bool.and_eq_true, Bool.and_eq_true, sourceOk_iff, sourceOk_iff, sourceOk_iff, and_assoc]
  refine ⟨fun fit => answers_reads rfl ha ?_, fun wrong => answers_refused rfl ha ?_⟩
  · unfold doGuideSetup
    dsimp only
    rw [arriveAs_memSize, all.2 fit]
    rfl
  · unfold doGuideSetup
    dsimp only
    rw [arriveAs_memSize, Bool.eq_false_iff.2 (mt all.1 wrong)]
    rfl

/-- Settles O52: the checks of each command in their order; the last is that the source fits. -/
theorem loadsBegin : Obligations.LoadsBegin := by
  intro r s ha a n
  refine ⟨fun o rear => ?_, fun other => ⟨answers_refused rfl ha (doPaletteLoad_other other), answers_refused rfl ha (doRampLoad_other other)⟩,
    ?_, (answers_source rfl ha rfl).1, (answers_source rfl ha rfl).2, guideSetup_takes ha, ?_, ?_, ?_⟩
  · obtain ⟨fits, wrong⟩ := answers_source (i := .paletteLoad r) (k := 5) rfl ha (doPaletteLoad_rear rear)
    exact ⟨fits, wrong, fun count => answers_refused rfl ha (doRampLoad_count rear count),
      fun least most => (rampLoad_takes ha rear least most).1, fun least most => (rampLoad_takes ha rear least most).2⟩
  · intro quiet
    have iff : captureQuiet (arriveAs 14 r s) = true ↔ quiet := (arriveAs_captureQuiet 14 r s).symm ▸ captureQuiet_iff s
    have source (h : quiet) := answers_source (i := .cameraSetup r) rfl ha (doCameraSetup_eq.trans (if_neg (by rw [iff.2 h]; simp)))
    refine ⟨fun noise => answers_refused rfl ha (doCameraSetup_eq.trans (if_pos ?_)), fun h => (source h).2, fun h => (source h).1⟩
    rw [Bool.eq_false_iff.2 (mt iff.1 noise)]
    rfl
  · intro quiet
    have iff : chimesQuiet (arriveAs 19 r s) = true ↔ quiet := (arriveAs_chimesQuiet 19 r s).symm ▸ chimesQuiet_iff s
    have source (h : quiet) := answers_source (i := .chimeTable r) rfl ha (doChimeTable_eq.trans (if_neg (by rw [iff.2 h]; simp)))
    refine ⟨fun noise => answers_refused rfl ha (doChimeTable_eq.trans (if_pos ?_)), fun h => (source h).2, fun h => (source h).1⟩
    rw [Bool.eq_false_iff.2 (mt iff.1 noise)]
    rfl
  · exact fun fits => ⟨(answers_source (i := .proximitySetup r) rfl ha rfl).1 fits, (answers_source (i := .guardSetup r) rfl ha rfl).1 fits⟩
  · exact fun wrong => ⟨(answers_source (i := .proximitySetup r) rfl ha rfl).2 wrong, (answers_source (i := .guardSetup r) rfl ha rfl).2 wrong⟩

/-! ### The ends of the reads (R18, R19, R43, R44, R51, R101 to R103, R116, R127, R128) -/

/-- The first entry of a table that fails its checks. -/
theorem findIdx?_bad {α : Type} {n i : Nat} {f : Nat → Option α} (h : i < n) (bad : f i = none) (before : ∀ j < i, f j ≠ none) :
    ((List.range n).map f).findIdx? Option.isNone = some i := by
  rw [List.findIdx?_eq_some_iff_getElem]
  refine ⟨by simpa using h, by simp [bad], fun j hj => ?_⟩
  simpa using before j hj

theorem findIdx?_good {α : Type} {l : List (Option α)} {xs : List α} (h : l = xs.map some) : l.findIdx? Option.isNone = none := by
  rw [h, List.findIdx?_eq_none_iff]
  simp

section
variable {s : State} {ws : List Word}

theorem markEnded_captureQuiet (s : State) : captureQuiet (markEnded s) = captureQuiet s := by
  rw [markEnded_state]
  rfl

theorem markEnded_chimesQuiet (s : State) : chimesQuiet (markEnded s) = chimesQuiet s := by
  rw [markEnded_state]
  rfl

/-- A palette that has been read is kept pending (R18). -/
theorem paletteRead_rear {o : Rear} (h : rearOf s.cmu.cmd.fields.target = some o) : paletteRead ws (markEnded s) =
    finish resDone 0 (markEnded { s with menu := s.menu.set o { s.menu.get o with pendingPalette := some ws } }) := by
  rw [markEnded_state, markEnded_state]
  unfold paletteRead
  dsimp only
  rw [h]
  rfl

/-- A ramp that has been read replaces the old one, with the position at its side (R19). -/
theorem rampRead_rear {o : Rear} {p : Nat} (h : rearOf s.cmu.cmd.fields.target = some o)
    (side : (if (s.menu.get o).motion = .outRest then 0 else s.cmu.cmd.fields.op1.toNat - 1) = p) : rampRead ws (markEnded s) =
    finish resDone 0 (markEnded { s with
      menu := s.menu.set o { s.menu.get o with ramp := (bytesOf ws).take s.cmu.cmd.fields.op1.toNat, pos := p } }) := by
  subst side
  rw [markEnded_state, markEnded_state]
  unfold rampRead
  dsimp only
  rw [h]
  rfl

theorem gammaRead_eq : gammaRead ws (markEnded s) =
    finish resDone 0 (markEnded { s with ccu := { s.ccu with pendingGamma := some (bytesOf ws) } }) := by
  rw [markEnded_state, markEnded_state]
  rfl

/-- The capture side with a setup installed (R44). -/
def withCamera (c : CamSetup) (x : Ccu) : Ccu :=
  { x with setup := some c, slots := List.replicate c.slots ⟨.free, 0⟩, lastOpened := c.slots - 1, vpd := 256, seen := 0, accepted := 0 }

theorem cameraRead_noise (h : captureQuiet s = false) : cameraRead ws (markEnded s) = finish resWrongState 0 (markEnded s) := by
  rw [cameraRead, markEnded_captureQuiet, h]
  rfl

theorem markEnded_caBase (s : State) : (markEnded s).caBase = s.caBase := by
  rw [markEnded_state]
  rfl

theorem cameraRead_bad (quiet : captureQuiet s = true) (h : camSetupOf s.memSize s.caBase ws = none) :
    cameraRead ws (markEnded s) = finish resBadParam 0 (markEnded s) := by
  rw [cameraRead, markEnded_captureQuiet, markEnded_memSize, markEnded_caBase, quiet, h]
  rfl

theorem cameraRead_good {c : CamSetup} (quiet : captureQuiet s = true) (h : camSetupOf s.memSize s.caBase ws = some c) :
    cameraRead ws (markEnded s) = finish resDone (BitVec.ofNat 32 c.pitch)
      (raised (syncCapture s.capturing (markEnded { s with ccu := withCamera c s.ccu }).markDirty)) := by
  rw [cameraRead, markEnded_captureQuiet, markEnded_memSize, markEnded_caBase, quiet, h]
  rw [markEnded_state, markEnded_state]
  rfl

end

section
variable {s : State} {ws : List Word}

/-- Capture that an installed setup starts (R44, R46). -/
theorem camera_starts {c : CamSetup} (quiet : s.capturing = false) : finish resDone (BitVec.ofNat 32 c.pitch)
      (raised (syncCapture s.capturing (markEnded { s with ccu := withCamera c s.ccu }).markDirty)) =
    finish resDone (BitVec.ofNat 32 c.pitch) (if s.ccu.enable = true ∨ s.rvc.st ≠ .normal
      then raised (startCapture (markEnded { s with ccu := withCamera c s.ccu })) else markEnded { s with ccu := withCamera c s.ccu }) := by
  have runs : (markEnded { s with ccu := withCamera c s.ccu }).markDirty.capturing = true ↔ s.ccu.enable = true ∨ s.rvc.st ≠ .normal := by
    rw [capturing_iff, State.markDirty_ccu, State.markDirty_rvc, markEnded_ccu, markEnded_rvc]
    exact and_iff_right (Option.some_ne_none c)
  rw [quiet]
  by_cases h : s.ccu.enable = true ∨ s.rvc.st ≠ .normal
  · rw [syncCapture_starts (runs.2 h), if_pos h]
    rfl
  · rw [syncCapture_same (Bool.eq_false_iff.2 (mt runs.1 h)), if_neg h]
    rfl

theorem waveOf_eq (ws : List Word) : waveOf ws =
    (List.range 256).map fun i => BitVec.ofNat 16 (field (wordAt ws (16 + i / 2)) (16 * (i % 2)) 16) := by
  refine List.map_congr_left fun i _ => congrArg (BitVec.ofNat 16) ?_
  rw [halfAt_even (ws := ws) (k := 0x40 + 2 * i) (by omega), show (0x40 + 2 * i) / 4 = 16 + i / 2 by omega, show 8 * ((0x40 + 2 * i) % 4) = 16 * (i % 2) by omega]

theorem chimeTableRead_busy (h : chimesQuiet s = false) : chimeTableRead ws (markEnded s) = finish resBusy 0 (markEnded s) := by
  rw [chimeTableRead, markEnded_chimesQuiet, h]
  rfl

theorem chimeTableRead_bad {i : Nat} (quiet : chimesQuiet s = true) (h : (chimeSlotsOf ws).findIdx? Option.isNone = some i) :
    chimeTableRead ws (markEnded s) = finish resBadParam (BitVec.ofNat 32 i) (markEnded s) := by
  unfold chimeTableRead
  dsimp only
  rw [markEnded_chimesQuiet, quiet, h]
  rfl

theorem chimeTableRead_good {defs : List (Option ChimeDef)} (quiet : chimesQuiet s = true) (h : chimeSlotsOf ws = defs.map some) :
    chimeTableRead ws (markEnded s) = finish resDone (BitVec.ofNat 32 (defs.countP Option.isSome))
      (markEnded { s with chu := { s.chu with master := byteAt ws 0, defs := defs, wave := waveOf ws } }) := by
  have given : (defs.map some).map (fun x => x.getD none) = defs := by simp [Function.comp_def]
  unfold chimeTableRead
  dsimp only
  rw [markEnded_chimesQuiet, quiet, findIdx?_good h, h, given, markEnded_state, markEnded_state]
  rfl

theorem proximityRead_bad (h : proximityOf ws = none) : proximityRead ws (markEnded s) = finish resBadParam 0 (markEnded s) := by
  rw [proximityRead, h]

theorem proximityRead_good {x : Proximity} (h : proximityOf ws = some x) : proximityRead ws (markEnded s) =
    finish resDone 0 (syncVoiceP s.zone
      (markEnded { s with chu := { s.chu with prox := x }, seu := { s.seu with dirty := true } })) := by
  rw [proximityRead, h, markEnded_state, markEnded_state]
  rfl

theorem guardRead_bad {i : Nat} (h : (guardEntriesOf s.memSize s.caBase ws).findIdx? Option.isNone = some i) :
    guardRead ws (markEnded s) = finish resBadParam (BitVec.ofNat 32 i) (markEnded s) := by
  unfold guardRead
  dsimp only
  rw [markEnded_memSize, markEnded_caBase, h]

theorem guardRead_good {table : List GuardRange} (h : guardEntriesOf s.memSize s.caBase ws = table.map some) :
    guardRead ws (markEnded s) = finish resDone (BitVec.ofNat 32 (table.countP fun g => decide (g.cond ≠ .off)))
      (markEnded { s with ppw := { s.ppw with guard := table } }) := by
  have given : (table.map some).filterMap id = table := by simp [List.filterMap_map]
  unfold guardRead
  dsimp only
  rw [markEnded_memSize, markEnded_caBase, findIdx?_good h, h, given, markEnded_state, markEnded_state]
  rfl

end

/-- Settles O53: the checks of each read's end in their order, and what is installed. -/
theorem readsEnd : Obligations.ReadsEnd := by
  refine ⟨fun s ws o rear => ⟨fun h => answers_of_readEnd rfl h (paletteRead_rear rear), fun h n hn m hm => ?_⟩, fun ws s => ?_, fun ws s => ?_⟩
  · subst hn hm
    exact ⟨fun rest => answers_of_readEnd rfl h (rampRead_rear rear (if_neg (by rw [rest]; nofun))),
      fun rest => answers_of_readEnd rfl h (rampRead_rear rear (if_pos rest))⟩
  · refine ⟨fun h => answers_of_readEnd rfl h gammaRead_eq, fun h => ?_⟩
    intro quiet
    refine ⟨fun noise => ?_, fun q bad => ?_, fun c q good => ?_⟩
    · exact answers_of_readEnd rfl h (cameraRead_noise (Bool.eq_false_iff.2 (mt (captureQuiet_iff s).1 noise)))
    · exact answers_of_readEnd rfl h (cameraRead_bad ((captureQuiet_iff s).2 q) bad)
    · exact answers_of_readEnd rfl h ((cameraRead_good ((captureQuiet_iff s).2 q) good).trans (camera_starts q.1))
  · refine ⟨fun h => ?_, fun h => ⟨fun bad => ?_, fun x good => ?_⟩, fun h => ⟨fun i hi bad before => ?_, fun table good => ?_⟩⟩
    · intro quiet
      refine ⟨fun noise => ?_, fun q i hi bad before => ?_, fun q defs good => ?_⟩
      · exact answers_of_readEnd rfl h (chimeTableRead_busy (Bool.eq_false_iff.2 (mt (chimesQuiet_iff s).1 noise)))
      · exact answers_of_readEnd rfl h (chimeTableRead_bad ((chimesQuiet_iff s).2 q) (findIdx?_bad hi bad before))
      · rw [← waveOf_eq, ← byteAt_eq_field ws 0]
        exact answers_of_readEnd rfl h (chimeTableRead_good ((chimesQuiet_iff s).2 q) good)
    · exact answers_of_readEnd rfl h (proximityRead_bad bad)
    · exact answers_of_readEnd rfl h (proximityRead_good good)
    · exact answers_of_readEnd rfl h (guardRead_bad (findIdx?_bad hi bad before))
    · exact answers_of_readEnd rfl h (guardRead_good good)

end Sys2Proof.Proofs
end

section
/-! PROOFS. The resets, the straps, and the start of the memory (R121, R134 to R136, R146, R165). -/

namespace Sys2Proof.Proofs

open Sys2Proof.Machine Sys2Proof.Safety

/-! ### Resets (R134 to R136) -/

theorem withdrawWaits_zero {s : State} (h : s.fma.waits = PerClient.build fun _ => 0) : withdrawWaits s = s := by
  have same : (PerClient.build fun c => if s.requests c then s.fma.waits.get c else 0) = s.fma.waits := by
    rw [h]
    simp only [PerClient.get_build, ite_self]
  unfold withdrawWaits
  rw [same]

/-- After a power-on reset the arbiter does nothing: the memory is not ready. -/
theorem settle_por (memsz : Bool) (ca : BitVec 4) (s : State) : settle (doPor memsz ca s) = doPor memsz ca s :=
  (settle_quiet (s := doPor memsz ca s) nofun).trans (withdrawWaits_zero rfl)

theorem memAfterBurst_none {s : State} (h : s.burst = none) : s.memAfterBurst = s.mem := by
  rw [State.memAfterBurst, h]

theorem memAfterBurst_procWrite {s : State} {q : Request} (h : s.burst = some .procWrite) (tx : s.ppw.tx = some q) :
    s.memAfterBurst = writeCells s.mem (requestCells (requestAddr q) q.data) := by
  rw [State.memAfterBurst, h]
  dsimp only
  rw [tx]

/-- The straps give the memory's size and a control area inside it. -/
theorem straps_place {memsz : Bool} {ca : BitVec 4} {t : State} (h : t.straps = ⟨memsz, ca⟩) :
    t.memSize = (if memsz then 134217728 else 67108864) ∧
      t.caBase = (if memsz then ca.toNat else ca.toNat % 8) * 8388608 ∧ t.caBase + 65536 ≤ t.memSize := by
  have size : t.memSize = if memsz then 134217728 else 67108864 := by rw [State.memSize, h]; rfl
  have base : t.caBase = (if memsz then ca.toNat else ca.toNat % 8) * 8388608 := by rw [State.caBase, h]; rfl
  have bound := ca.isLt
  refine ⟨size, base, ?_⟩
  rw [size, base]
  cases memsz
  · rw [if_neg Bool.false_ne_true, if_neg Bool.false_ne_true]
    omega
  · rw [if_pos rfl, if_pos rfl]
    omega

/-! ### The memory is ready (R121, R135, R136, R146) -/

/-- The memory ready, the port FREE and the refresh timer running. -/
def readied (s : State) : State := { s with
  phase := .run
  initDue := false
  ppw := { s.ppw with port := .free }
  fma := { s.fma with memory := .idle, refreshOn := true } }

theorem memoryReady_eq (s : State) : memoryReady s = match s.ppw.waiting with
    | none => readied s
    | some q => takeNow q (readied s) := rfl

section
variable {s : State} {straps : Straps} {mem : List Host.Cell} {rev l r : Bool} {free : Nat} {pending : List Instr} {phase : Phase}
  (fresh : s = State.blocksReset phase straps mem rev l r none free pending)
include fresh

/-- After a reset SERV alone requests: the status block is to be written. -/
theorem fresh_requests (c : Client) : (readied s).requests c = decide (c = .serv) := by
  subst fresh
  cases c <;> rfl

/-- The first grant after a reset writes the first block of the first status snapshot. -/
theorem fresh_writes : (settle (readied s)).seu.generation = 1 ∧ (settle (readied s)).seu.dirty = false ∧
    (settle (readied s)).burst = some (.status 0 ((statusWords (readied s) 1).take 8)) := by
  have waits : (readied s).fma.waits = PerClient.build fun _ => 0 := by rw [fresh]; rfl
  have asks : (readied s).requests .serv = true := fresh_requests fresh .serv
  have others (d : Client) (h : d ≠ .serv) : (readied s).requests d = false := (fresh_requests fresh d).trans (decide_eq_false h)
  have owed : (readied s).fma.owed ≠ 8 := by rw [fresh]; nofun
  have listed : Client.serv ∈ (readied s).profile.order := by
    rw [fresh]
    exact List.contains_iff_mem.1 (by rfl)
  have note : noteGrant (.client .serv) false (readied s) = readied s := by rw [fresh]; rfl
  have counts : { readied s with fma := { (readied s).fma with
      waits := waitsAfter (fun d => decide (d = .serv)) (.client .serv) (readied s).fma.waits } } = readied s := by
    have same : waitsAfter (fun d => decide (d = .serv)) (.client .serv) (readied s).fma.waits = (readied s).fma.waits := by
      rw [waits]
      rfl
    rw [same]
  have given : settle (readied s) = grantServ (readied s) := by
    rw [settle_one rfl asks others, withdrawWaits_zero waits, decideFor_client owed (.inr listed)]
    unfold giveGrant
    dsimp only
    rw [note, counts]
    rfl
  rw [given]
  subst fresh
  exact ⟨rfl, rfl, rfl⟩

end

/-- Settles O46: the resets by their definitions; a memory that becomes ready takes the request that waits, or writes the status. -/
theorem resets : Obligations.Resets := by
  refine ⟨fun s memsz ca => ?_, fun s => ?_⟩
  · intro blocks
    refine ⟨congrArg Host.Outcome.next (settle_por memsz ca s), fun running inside => ⟨?_, memAfterBurst_none, fun q => memAfterBurst_procWrite⟩,
      fun held => ?_, fun t => straps_place⟩
    · show (if _ then _ else _) = _
      rw [if_neg (by simp [inside]), doResetAssert, if_neg running]
    · show Host.Outcome.next (doResetRelease memsz ca s) = _
      rw [doResetRelease, if_pos held]
  · intro ready taken
    have made : memoryReady s = taken := memoryReady_eq s
    refine ⟨fun init => ?_, fun left => ?_, fun mem rev l r => ⟨fun fresh => ?_, fun fresh => ?_⟩⟩
    · exact answers_of_live rfl (by rw [init]; nofun) ((if_pos init).trans made)
    · exact answers_of_live rfl (by rw [left]; nofun) ((if_pos left).trans made)
    · have init : s.phase = .init := by rw [fresh]; rfl
      have none : s.ppw.waiting = none := by rw [fresh]; rfl
      refine ⟨_, live_eq (f := initOver) (by rw [init]; nofun), ?_⟩
      rw [initOver, if_pos init, memoryReady_eq, none]
      exact fresh_writes fresh
    · have left : s.phase = .exit := by rw [fresh]; rfl
      have none : s.ppw.waiting = none := by rw [fresh]; rfl
      refine ⟨_, live_eq (f := exitOver) (by rw [left]; nofun), ?_⟩
      rw [exitOver, if_pos left, memoryReady_eq, none]
      exact fresh_writes fresh

end Sys2Proof.Proofs
end

section
/-! PROOFS. The status block (R163, R165): where a snapshot holds its generation. -/

namespace Sys2Proof.Proofs

open Sys2Proof.Machine Sys2Proof.Safety

/-- The word at an offset of the block. -/
theorem statusWord_eq {s : State} {g : Word} {off : Nat} (aligned : off % 4 = 0) (inside : off < 0x300) :
    wordAt (statusWords s g) (off / 4) = lookupField (statusFields s g) off := by
  have bound : off / 4 < 192 := by omega
  rw [wordAt, statusWords, List.getD_eq_getElem?_getD, List.getElem?_map, List.getElem?_range bound, Option.map_some,
    Option.getD_some, Nat.mul_div_cancel' (Nat.dvd_of_mod_eq_zero aligned)]

/-- A state with more slots than any camera setup has: the words of slot 67 would be at 0x2F8 and 0x2FC, the place of the second
generation word. No run reaches it, as a setup has at most 8 slots (R43). -/
def crowded : State := { State.reset with ccu := { Reset.ccu with slots := List.replicate 68 ⟨.free, 0⟩ } }

theorem crowded_last : wordAt (statusWords crowded 1) 191 = 0 :=
  (statusWord_eq (off := 0x2FC) rfl (by decide)).trans (by decide)

/-- Refutes O56: that the last word of a snapshot is its generation is stated of every state, without the bound of 8 slots that the
statement of the words below it has; with 68 slots that word is the frame number of the last slot. -/
theorem not_statusAndRecordWrites : ¬ Obligations.StatusAndRecordWrites := by
  intro h
  obtain ⟨⟨_, _, generations, _⟩, _⟩ := h
  have last : wordAt (statusWords crowded 1) 191 = 1 := (generations crowded 1).2.2
  rw [crowded_last] at last
  exact absurd last (by decide)

end Sys2Proof.Proofs
end

section
/-! PROOFS. The guide-line computation, from the angle to the rows of spans (R90 to R98). -/

namespace Sys2Proof.Proofs

open Sys2Proof.Machine Sys2Proof.Safety

/-! ### Angles, radii and roots (R90 to R92) -/

theorem tangentOf_between {i f : Nat} (h : f < 50) : tangentOf (50 * i + f) =
    tangents.getD i 0 + ((tangents.getD (i + 1) 0 - tangents.getD i 0) * f + 25) / 50 := by
  have entry : (50 * i + f) / 50 = i := by omega
  have share : (50 * i + f) % 50 = f := by omega
  unfold tangentOf
  dsimp only
  rw [entry, share]
  by_cases inside : i + 1 < tangents.length
  · rw [List.getD_eq_getElem _ _ inside, List.getD_eq_getElem _ _ inside]
  · rw [List.getD_eq_default _ _ (Nat.not_lt.1 inside), List.getD_eq_default _ _ (Nat.not_lt.1 inside), Nat.sub_self, Nat.zero_sub]

section
variable {w : Nat} {a r : Int} {ok : Bool}

/-- The size of the radius at an angle. -/
def radiusSize (w : Nat) (a : Int) : Nat := (2 * w * 65536 + tangentOf a.natAbs) / (2 * tangentOf a.natAbs)

theorem radiusOf_none_iff : radiusOf w a ok = none ↔ a.natAbs < 10 ∨ ok = false := by
  unfold radiusOf
  by_cases h : a.natAbs < 10 ∨ ok = false
  · simp [h]
  · simp only [h, if_false, iff_false]
    exact Option.some_ne_none _

theorem radiusOf_some (h : ¬(a.natAbs < 10 ∨ ok = false)) :
    radiusOf w a ok = some (if a < 0 then -(radiusSize w a : Int) else radiusSize w a) := if_neg h

/-- The radius is odd in the angle, and to the right it is the rounded quotient. -/
theorem radiusOf_odd (h : radiusOf w a ok = some r) : radiusOf w (-a) ok = some (-r) ∧ (0 < a → r = radiusSize w a) := by
  have turns : ¬(a.natAbs < 10 ∨ ok = false) := fun k => by rw [radiusOf_none_iff.2 k] at h; cases h
  have size : radiusSize w (-a) = radiusSize w a := by rw [radiusSize, radiusSize, Int.natAbs_neg]
  rw [radiusOf_some turns, Option.some.injEq] at h
  rw [radiusOf_some (by rwa [Int.natAbs_neg]), size, Option.some.injEq, ← h]
  have side : a ≠ 0 := fun k => turns (.inl (by rw [k]; decide))
  refine ⟨?_, fun right => if_neg (by omega)⟩
  rcases lt_or_gt_of_ne side with left | right
  · rw [if_neg (by omega), if_pos left, neg_neg]
  · rw [if_pos (by omega), if_neg (by omega)]

end

theorem isqrtFrom_bounds (n : Nat) : ∀ k r : Nat, r * r ≤ n → n < (r + 2 ^ k) * (r + 2 ^ k) →
    isqrtFrom n k r * isqrtFrom n k r ≤ n ∧ n < (isqrtFrom n k r + 1) * (isqrtFrom n k r + 1)
  | 0, _, low, high => ⟨low, high⟩
  | k + 1, r, low, high => by
    rw [isqrtFrom]
    by_cases more : (r + 2 ^ k) * (r + 2 ^ k) ≤ n
    · rw [if_pos more]
      refine isqrtFrom_bounds n k _ more ?_
      rwa [Nat.add_assoc, ← Nat.two_mul, ← Nat.pow_succ']
    · rw [if_neg more]
      exact isqrtFrom_bounds n k r low (Nat.not_le.1 more)

theorem isqrt_bounds {n : Nat} (h : n < 2 ^ 64) : isqrt n * isqrt n ≤ n ∧ n < (isqrt n + 1) * (isqrt n + 1) :=
  isqrtFrom_bounds n 32 0 (Nat.zero_le n) (h.trans_eq (by norm_num))

/-- The root is rounded to nearest. -/
theorem roundSqrt_nearest {q : Nat} (h : q < 2 ^ 64) :
    4 * q < (2 * roundSqrt q + 1) ^ 2 ∧ (q ≠ 0 → (2 * roundSqrt q - 1) ^ 2 < 4 * q) := by
  obtain ⟨low, high⟩ := isqrt_bounds h
  unfold roundSqrt
  dsimp only
  generalize isqrt q = r at low high ⊢
  by_cases up : q - r * r > r
  · rw [if_pos up, show 2 * (r + 1) - 1 = 2 * r + 1 by omega]
    have above : r * r + r < q := by omega
    exact ⟨by nlinarith, fun _ => by nlinarith⟩
  · rw [if_neg up]
    have below : q ≤ r * r + r := by omega
    refine ⟨by nlinarith, fun some => ?_⟩
    have pos : 1 ≤ r := Nat.one_le_iff_ne_zero.2 fun zero => some (by subst zero; omega)
    obtain ⟨m, rfl⟩ : ∃ m, r = m + 1 := ⟨r - 1, by omega⟩
    rw [show 2 * (m + 1) - 1 = 2 * m + 1 by omega]
    nlinarith

theorem lineX_turn (r e y : Int) : (lineX (some r) e y = none ↔ (r - e) * (r - e) < y * y) ∧
    ∀ x, lineX (some r) e y = some x →
      x = if r < 0 then r + roundSqrt ((r - e) * (r - e) - y * y).toNat else r - roundSqrt ((r - e) * (r - e) - y * y).toNat := by
  unfold lineX
  dsimp only
  by_cases beyond : (r - e) * (r - e) - y * y < 0
  · rw [if_pos beyond]
    exact ⟨iff_of_true rfl (sub_neg.1 beyond), nofun⟩
  · rw [if_neg beyond]
    exact ⟨iff_of_false nofun (mt sub_neg.2 beyond), fun x hx => (Option.some.inj hx).symm⟩

end Sys2Proof.Proofs
end

section
/-! PROOFS. The spans of a segment, and their filing row by row (R96 to R98). -/

namespace Sys2Proof.Proofs

open Sys2Proof.Machine Sys2Proof.Safety

/-! ### Spans on consecutive rows -/

/-- Spans on `n` consecutive rows from `start`. -/
def rowsFrom (start : Int) (n : Nat) (f : Int → Span) : List Span := (List.range n).map fun i : Nat => f (start + i)

theorem rowsFrom_add (start : Int) (n m : Nat) (f : Int → Span) :
    rowsFrom start n f ++ rowsFrom (start + n) m f = rowsFrom start (n + m) f := by
  unfold rowsFrom
  rw [List.range_add, List.map_append, List.map_map]
  refine congrArg _ (List.map_congr_left fun i _ => ?_)
  rw [Function.comp_apply, Nat.cast_add, add_assoc]

theorem rowsFrom_congr {start : Int} {n : Nat} {f g : Int → Span} (h : ∀ v, start ≤ v → v < start + n → f v = g v) :
    rowsFrom start n f = rowsFrom start n g :=
  List.map_congr_left fun i hi => h _ (by omega) (by have := List.mem_range.1 hi; omega)

/-- A list of natural numbers read as integers, mapped. -/
theorem map_lifted {α : Type} (l : List Nat) (f : Int → α) :
    (do let i ← l; pure (i : Int) : List Int).map f = l.map fun i : Nat => f i := by
  simp [← List.map_eq_flatMap]

theorem rowsFrom_lifted (start : Int) (n : Nat) (f : Int → Span) : rowsFrom start n f =
    (do let i ← List.range n; pure (i : Int) : List Int).map fun i => f (start + i) :=
  (map_lifted _ fun i => f (start + i)).symm

theorem rowsFrom_one (v : Int) (f : Int → Span) : rowsFrom v 1 f = [f v] := by
  simp [rowsFrom]

section
variable {start : Int} {n : Nat} {f : Int → Span} (row : ∀ v, (f v).row = v)
include row

theorem rowsFrom_rising : (rowsFrom start n f).Pairwise fun a b => a.row < b.row := by
  refine List.pairwise_map.2 (List.pairwise_lt_range.imp fun {i j} h => ?_)
  rw [row, row]
  omega

theorem mem_rowsFrom {sp : Span} : sp ∈ rowsFrom start n f ↔ start ≤ sp.row ∧ sp.row < start + n ∧ sp = f sp.row := by
  constructor
  · intro h
    obtain ⟨i, hi, rfl⟩ := List.mem_map.1 h
    have bound := List.mem_range.1 hi
    rw [row]
    exact ⟨by omega, by omega, rfl⟩
  · intro h
    obtain ⟨low, high, same⟩ := h
    refine List.mem_map.2 ⟨(sp.row - start).toNat, List.mem_range.2 (by omega), ?_⟩
    rw [Int.toNat_of_nonneg (by omega), add_sub_cancel]
    exact same.symm

end

/-! ### The spans of a segment (R96) -/

/-- A segment from its upper to its lower end. -/
structure Slope where
  u0 : Int
  v0 : Int
  u1 : Int
  v1 : Int
  colour : Word
  width : Nat

namespace Slope
variable (x : Slope)

def segment : Segment := ⟨(x.u0, x.v0), (x.u1, x.v1), x.colour, x.width⟩

def rise : Int := x.v1 - x.v0

def half : Int := (x.width / 2 : Nat)

/-- The column of the segment at a row. -/
def u (v : Int) : Int := x.u0 + ((x.u1 - x.u0) * (v - x.v0) * 2 + x.rise) / (2 * x.rise)

def first (v : Int) : Int :=
  if x.rise = 0 then min x.u0 x.u1 - x.half else if v < x.v1 then min (x.u v) (x.u (v + 1)) - x.half else x.u1 - x.half

def last (v : Int) : Int :=
  if x.rise = 0 then max x.u0 x.u1 + x.half else if v < x.v1 then max (x.u v) (x.u (v + 1)) + x.half else x.u1 + x.half

/-- The span on a row: that of the nearest row of the segment. -/
def span (v : Int) : Span := ⟨v, x.first (max x.v0 (min x.v1 v)), x.last (max x.v0 (min x.v1 v)), x.colour⟩

/-- The rows by which a shallow segment is thickened at either end. -/
def more : Nat := if x.rise < |x.u1 - x.u0| then x.width / 2 else 0

variable {x} (order : x.v0 ≤ x.v1)
include order

theorem span_above {v : Int} (h : v ≤ x.v0) : x.span v = { x.span x.v0 with row := v } := by
  unfold span
  rw [max_eq_left ((min_le_right _ _).trans h), min_eq_right order, max_self]

omit order in
theorem span_below {v : Int} (h : x.v1 ≤ v) : x.span v = { x.span x.v1 with row := v } := by
  unfold span
  rw [min_eq_left h, min_self]

omit order in
theorem span_inside {v : Int} (low : x.v0 ≤ v) (high : v ≤ x.v1) : x.span v = ⟨v, x.first v, x.last v, x.colour⟩ := by
  unfold span
  rw [min_eq_right high, max_eq_right low]

theorem rise_toNat : (x.rise.toNat : Int) = x.v1 - x.v0 := Int.toNat_of_nonneg (Int.sub_nonneg_of_le order)

/-- The rows of a thickened segment: those above it, its own but the last, the last, those below. -/
theorem rows_split (n : Nat) : rowsFrom (x.v0 - n) (n + (x.rise.toNat + 1) + n) x.span =
    rowsFrom (x.v0 - n) n x.span ++ (rowsFrom x.v0 x.rise.toNat x.span ++ [x.span x.v1]) ++ rowsFrom (x.v1 + 1) n x.span := by
  have rise := rise_toNat order
  rw [← rowsFrom_add, ← rowsFrom_add, ← rowsFrom_add, sub_add_cancel, show x.v0 + (x.rise.toNat : Int) = x.v1 by omega, rowsFrom_one,
    show x.v0 - (n : Int) + ((n + (x.rise.toNat + 1) : Nat) : Int) = x.v1 + 1 by push_cast; omega]

theorem rowsFrom_above (n : Nat) : rowsFrom (x.v0 - n) n x.span =
    (List.range n).map fun i : Nat => { x.span x.v0 with row := x.v0 - n + i } :=
  List.map_congr_left fun i hi => span_above order (by have := List.mem_range.1 hi; omega)

omit order in
theorem rowsFrom_below (n : Nat) : rowsFrom (x.v1 + 1) n x.span =
    (List.range n).map fun i : Nat => { x.span x.v1 with row := x.v1 + 1 + i } :=
  List.map_congr_left fun i _ => span_below (by omega)

omit order in
/-- A level segment is one span, thickened where it is longer than one point. -/
theorem spansOf_level (level : x.v0 = x.v1) : spansOf x.segment =
    if x.rise < |x.u1 - x.u0| then
      ((List.range (x.width / 2)).map fun i : Nat => { x.span x.v0 with row := x.v0 - x.half + i }) ++ [x.span x.v0] ++
        (List.range (x.width / 2)).map fun i : Nat => { x.span x.v0 with row := x.v0 + 1 + i }
    else [x.span x.v0] := by
  have upright : ¬x.v1 < x.v0 := by omega
  have level' : x.rise = 0 := by unfold rise; omega
  have shallow : decide (x.v1 - x.v0 < ((x.u1 - x.u0).natAbs : Int)) = decide (x.rise < |x.u1 - x.u0|) := by rw [Int.abs_eq_natAbs]; rfl
  have own : x.span x.v0 = ⟨x.v0, min x.u0 x.u1 - x.half, max x.u0 x.u1 + x.half, x.colour⟩ := by
    rw [span_inside le_rfl level.le, first, last, if_pos level', if_pos level']
  unfold spansOf segment
  dsimp only
  rw [if_neg upright, if_neg upright]
  dsimp only
  rw [if_pos (show x.v1 - x.v0 = 0 from level'), shallow, own]
  by_cases long : x.rise < |x.u1 - x.u0|
  · rw [decide_eq_true long, if_pos long]
    rfl
  · rw [decide_eq_false long, if_neg long]
    rfl

omit order in
/-- A falling segment has a span between each two rows, and one on its last. -/
theorem spansOf_falling (falls : x.v0 < x.v1) : spansOf x.segment =
    if x.rise < |x.u1 - x.u0| then
      ((List.range (x.width / 2)).map fun i : Nat => { x.span x.v0 with row := x.v0 - x.half + i }) ++
        rowsFrom x.v0 x.rise.toNat x.span ++ [x.span x.v1] ++
        (List.range (x.width / 2)).map fun i : Nat => { x.span x.v1 with row := x.v1 + 1 + i }
    else rowsFrom x.v0 x.rise.toNat x.span ++ [x.span x.v1] := by
  have upright : ¬x.v1 < x.v0 := by omega
  have falls' : x.rise ≠ 0 := by unfold rise; omega
  have shallow : decide (x.v1 - x.v0 < ((x.u1 - x.u0).natAbs : Int)) = decide (x.rise < |x.u1 - x.u0|) := by rw [Int.abs_eq_natAbs]; rfl
  have inner (v : Int) (low : x.v0 ≤ v) (high : v < x.v1) : x.span v =
      ⟨v, min (x.u v) (x.u (v + 1)) - x.half, max (x.u v) (x.u (v + 1)) + x.half, x.colour⟩ := by
    rw [span_inside low high.le, first, last, if_neg falls', if_neg falls', if_pos high, if_pos high]
  have own : x.span x.v1 = ⟨x.v1, x.u1 - x.half, x.u1 + x.half, x.colour⟩ := by
    rw [span_inside falls.le le_rfl, first, last, if_neg falls', if_neg falls', if_neg (lt_irrefl _), if_neg (lt_irrefl _)]
  have body : rowsFrom x.v0 x.rise.toNat x.span = rowsFrom x.v0 x.rise.toNat fun v =>
      ⟨v, min (x.u v) (x.u (v + 1)) - x.half, max (x.u v) (x.u (v + 1)) + x.half, x.colour⟩ :=
    rowsFrom_congr fun v low high => inner v low (by rw [rise_toNat falls.le] at high; omega)
  rw [body, rowsFrom_lifted, own, inner x.v0 le_rfl falls]
  unfold spansOf segment
  dsimp only
  rw [if_neg upright, if_neg upright]
  dsimp only
  rw [if_neg (show ¬x.v1 - x.v0 = 0 from falls'), shallow]
  by_cases long : x.rise < |x.u1 - x.u0|
  · rw [decide_eq_true long, if_pos long]
    rfl
  · rw [decide_eq_false long, if_neg long]
    rfl

/-- The rows of a segment, thickened or not, are consecutive. -/
theorem spans_eq : spansOf x.segment = rowsFrom (x.v0 - x.more) (x.more + (x.rise.toNat + 1) + x.more) x.span := by
  rw [rows_split order, rowsFrom_above order, rowsFrom_below]
  unfold more
  rcases eq_or_lt_of_le order with level | falls
  · have flat : x.rise.toNat = 0 := by unfold rise; omega
    rw [spansOf_level level, flat]
    split_ifs
    · rw [← level]
      rfl
    · rw [← level]
      rfl
  · rw [spansOf_falling falls]
    split_ifs
    · rw [List.append_assoc _ _ [_]]
      rfl
    · exact (List.append_nil _).symm

/-- The spans do not depend on which end is given first. -/
theorem spansOf_reversed : spansOf ⟨(x.u1, x.v1), (x.u0, x.v0), x.colour, x.width⟩ = spansOf x.segment := by
  rcases eq_or_lt_of_le order with level | falls
  · unfold spansOf segment
    dsimp only
    rw [level, if_neg (lt_irrefl _), if_neg (lt_irrefl _), min_comm x.u1 x.u0, max_comm x.u1 x.u0, ← Int.natAbs_neg (x.u0 - x.u1), neg_sub]
    dsimp only
    rw [if_pos (sub_self _), if_pos (sub_self _)]
  · unfold spansOf segment
    dsimp only
    rw [if_pos falls, if_pos falls, if_neg falls.not_gt, if_neg falls.not_gt]

theorem mem_spans {sp : Span} : sp ∈ spansOf x.segment ↔ x.v0 - x.more ≤ sp.row ∧ sp.row ≤ x.v1 + x.more ∧
    sp.first = x.first (max x.v0 (min x.v1 sp.row)) ∧ sp.last = x.last (max x.v0 (min x.v1 sp.row)) ∧ sp.colour = x.colour := by
  have rise := rise_toNat order
  have same : sp = x.span sp.row ↔ sp.first = x.first (max x.v0 (min x.v1 sp.row)) ∧
      sp.last = x.last (max x.v0 (min x.v1 sp.row)) ∧ sp.colour = x.colour := by
    obtain ⟨row, first, last, colour⟩ := sp
    simp [span]
  rw [spans_eq order, mem_rowsFrom fun _ => rfl, same]
  refine and_congr_right fun _ => and_congr ?_ Iff.rfl
  push_cast
  omega

end Slope

/-! ### The rows of a drawing (R97, R98) -/

theorem rowSpans_append (l : List Span) (sp : Span) (r : Int) :
    rowSpans (l ++ [sp]) r = rowSpans l r ++ if sp.row = r then [sp] else [] := by
  rw [rowSpans, List.filter_append]
  by_cases h : sp.row = r <;> simp [rowSpans, h]

/-- What has been filed of the spans `l`: the first 8 of each row; the others are counted, with the lowest row of one. -/
structure Filed (height : Nat) (l : List Span) (d : Drawing) : Prop where
  rows : ∀ r, rowSpans d.bank r = (rowSpans l r).take 8
  dropped : d.dropped = ((List.range height).map fun r : Nat => (rowSpans l r).length - 8).sum
  room : d.dropped = 0 → ∀ r, (rowSpans l r).length ≤ 8
  full : d.dropped ≠ 0 → 8 < (rowSpans l d.lowest).length
  lowest : d.dropped ≠ 0 → ∀ r < d.lowest, (rowSpans l r).length ≤ 8

/-- A sum over rows where one row has one more. -/
theorem sum_range_one_more {f g : Nat → Nat} {k : Nat} (more : f k = g k + 1) (same : ∀ r, r ≠ k → f r = g r) :
    ∀ n, k < n → ((List.range n).map f).sum = ((List.range n).map g).sum + 1
  | 0, h => absurd h (Nat.not_lt_zero k)
  | n + 1, h => by
    rw [List.range_succ, List.map_append, List.map_append, List.sum_append, List.sum_append]
    simp only [List.map_cons, List.map_nil, List.sum_cons, List.sum_nil, Nat.add_zero]
    rcases Nat.lt_succ_iff_lt_or_eq.1 h with below | rfl
    · rw [sum_range_one_more more same n below, same n (by omega)]
      omega
    · have before : (List.range k).map f = (List.range k).map g :=
        List.map_congr_left fun r hr => same r (by have := List.mem_range.1 hr; omega)
      rw [before, more]
      omega

section
variable {height : Nat} {l : List Span} {d : Drawing} {sp : Span} (h : Filed height l d)
include h

theorem Filed.file (low : 0 ≤ sp.row) (high : sp.row < height) : Filed height (l ++ [sp]) (fileSpan d sp) := by
  have counts (r : Int) : (rowSpans (l ++ [sp]) r).length = (rowSpans l r).length + if sp.row = r then 1 else 0 := by
    rw [rowSpans_append]
    split_ifs <;> simp
  have filed : (rowSpans d.bank sp.row).length = min 8 (rowSpans l sp.row).length := by rw [h.rows, List.length_take]
  have other (r : Int) (ne : sp.row ≠ r) : (rowSpans (l ++ [sp]) r).length = (rowSpans l r).length := by
    rw [counts, if_neg ne, Nat.add_zero]
  have own : (rowSpans (l ++ [sp]) sp.row).length = (rowSpans l sp.row).length + 1 := by rw [counts, if_pos rfl]
  have grows (r : Int) : (rowSpans l r).length ≤ (rowSpans (l ++ [sp]) r).length := by rw [counts]; omega
  unfold fileSpan
  by_cases room : (rowSpans d.bank sp.row).length < 8
  · have fits : (rowSpans l sp.row).length < 8 := by omega
    have few (r : Int) (few : (rowSpans l r).length ≤ 8) : (rowSpans (l ++ [sp]) r).length ≤ 8 := by
      by_cases this : sp.row = r
      · subst this
        omega
      · rwa [other r this]
    rw [if_pos room]
    refine ⟨fun r => ?_, ?_, fun none r => few r (h.room none r), fun lost => (h.full lost).trans_le (grows _),
      fun lost r below => few r (h.lowest lost r below)⟩
    · rw [rowSpans_append, rowSpans_append, h.rows]
      split_ifs with this
      · subst this
        rw [List.take_of_length_le fits.le, List.take_of_length_le (by rw [List.length_append, List.length_singleton]; omega)]
      · rw [List.append_nil, List.append_nil]
    · refine h.dropped.trans (congrArg List.sum (List.map_congr_left fun r _ => ?_))
      by_cases this : sp.row = r
      · rw [← this, own]
        omega
      · rw [other _ this]
  · have full : 8 ≤ (rowSpans l sp.row).length := by omega
    rw [if_neg room]
    refine ⟨fun r => ?_, ?_, fun k => absurd k (Nat.succ_ne_zero _), fun _ => ?_, fun _ r below => ?_⟩
    · rw [rowSpans_append, h.rows]
      split_ifs with this
      · subst this
        rw [List.take_append_of_le_length full]
      · rw [List.append_nil]
    · have place : ((sp.row.toNat : Nat) : Int) = sp.row := Int.toNat_of_nonneg low
      refine (congrArg (· + 1) h.dropped).trans (sum_range_one_more (k := sp.row.toNat) ?_ (fun r hr => ?_) height (by omega)).symm
      · rw [place, own]
        omega
      · rw [other _ (by omega)]
    · by_cases first : d.dropped = 0
      · rw [if_pos first, own]
        omega
      · rw [if_neg first]
        rcases min_choice d.lowest sp.row with this | this <;> rw [this]
        · exact (h.full first).trans_le (grows _)
        · rw [own]
          omega
    · have below : r < if d.dropped = 0 then sp.row else min d.lowest sp.row := below
      by_cases first : d.dropped = 0
      · rw [if_pos first] at below
        rw [other r (by omega)]
        exact h.room first r
      · rw [if_neg first] at below
        rw [other r (by omega)]
        exact h.lowest first r (by omega)

end

theorem filed_nil (height : Nat) : Filed height [] ⟨[], 0, 0⟩ :=
  ⟨fun _ => rfl, by simp [rowSpans], fun _ _ => Nat.zero_le _, fun k => absurd rfl k, fun k => absurd rfl k⟩

/-- Every span of a list is filed, if its row is one of the area's. -/
theorem filed_foldl {height : Nat} : ∀ (rest l : List Span) (d : Drawing), Filed height l d →
    (∀ sp ∈ rest, 0 ≤ sp.row ∧ sp.row < height) → Filed height (l ++ rest) (rest.foldl fileSpan d)
  | [], l, d, h, _ => by rwa [List.append_nil]
  | sp :: rest, l, d, h, inside => by
    obtain ⟨low, high⟩ := inside sp (.head _)
    rw [List.append_cons]
    exact filed_foldl rest _ _ (h.file low high) fun x hx => inside x (.tail _ hx)

end Sys2Proof.Proofs
end

section
/-! PROOFS. The segments of a drawing, and its rows (R92 to R98). -/

namespace Sys2Proof.Proofs

open Sys2Proof.Machine Sys2Proof.Safety

/-! ### Clipping (R97) -/

section
variable {wa ha strip : Nat}

/-- A span that reaches the captured area below the strip. -/
def Reaches (wa ha strip : Nat) (sp : Span) : Prop :=
  (strip : Int) ≤ sp.row ∧ sp.row < ha ∧ 0 ≤ sp.last ∧ sp.first < (wa : Int)

def clipped (wa : Nat) (sp : Span) : Span := { sp with first := max 0 sp.first, last := min ((wa : Int) - 1) sp.last }

theorem clipSpan_reaches {sp : Span} (h : Reaches wa ha strip sp) : clipSpan wa ha strip sp = some (clipped wa sp) := by
  obtain ⟨low, high, right, left⟩ := h
  exact if_neg (by omega)

theorem clipSpan_outside {sp : Span} (h : ¬Reaches wa ha strip sp) : clipSpan wa ha strip sp = none := by
  unfold Reaches at h
  exact if_pos (by omega)

/-- The clipped spans on a row are the spans on that row that reach the area, clipped. -/
theorem rowSpans_clipped (made : List Span) (r : Int) : rowSpans (made.filterMap (clipSpan wa ha strip)) r =
    (made.filter fun sp => decide (sp.row = r ∧ (strip : Int) ≤ r ∧ r < ha ∧ 0 ≤ sp.last ∧ sp.first < (wa : Int))).map (clipped wa) := by
  induction made with
  | nil => rfl
  | cons sp made ih =>
    have iff : (sp.row = r ∧ (strip : Int) ≤ r ∧ r < ha ∧ 0 ≤ sp.last ∧ sp.first < (wa : Int)) ↔ sp.row = r ∧ Reaches wa ha strip sp :=
      and_congr_right fun e => by rw [Reaches, e]
    rw [List.filter_cons]
    by_cases reaches : Reaches wa ha strip sp
    · rw [List.filterMap_cons_some (clipSpan_reaches reaches)]
      by_cases row : sp.row = r
      · rw [if_pos (decide_eq_true (iff.2 ⟨row, reaches⟩)), List.map_cons, ← ih]
        exact List.filter_cons_of_pos (decide_eq_true row)
      · rw [if_neg (by rw [decide_eq_true_eq, iff]; exact fun k => row k.1), ← ih]
        exact List.filter_cons_of_neg (by rwa [decide_eq_true_eq])
    · rw [List.filterMap_cons_none (clipSpan_outside reaches), if_neg (by rw [decide_eq_true_eq, iff]; exact fun k => reaches k.2), ih]

theorem clipSpan_some {sp x : Span} (h : clipSpan wa ha strip sp = some x) :
    (strip : Int) ≤ x.row ∧ x.row < ha ∧ 0 ≤ x.first ∧ x.last < wa := by
  by_cases reaches : Reaches wa ha strip sp
  · rw [clipSpan_reaches reaches, Option.some.injEq] at h
    obtain ⟨low, high, _, _⟩ := reaches
    subst h
    exact ⟨low, high, le_max_left .., (min_le_left _ _).trans_lt (by omega)⟩
  · rw [clipSpan_outside reaches] at h
    cases h

end

/-! ### Drawings (R89, R98) -/

section
variable {c : Captured} {g : GuideSetup} {wa ha : Nat}

theorem drawCaptured_none (h : c.setup = none ∨ c.area = none) : drawCaptured c = ⟨[], 0, 0⟩ := by
  unfold drawCaptured
  rcases h with h | h <;> rw [h]
  cases c.setup <;> rfl

theorem drawCaptured_some (setup : c.setup = some g) (area : c.area = some (wa, ha)) :
    drawCaptured c = (clippedSpans c g wa ha).foldl fileSpan ⟨[], 0, 0⟩ := by
  rw [drawCaptured, setup, area]

theorem clippedSpans_inside {x : Span} (h : x ∈ clippedSpans c g wa ha) :
    (c.strip : Int) ≤ x.row ∧ x.row < ha ∧ 0 ≤ x.first ∧ x.last < wa := by
  obtain ⟨sp, _, clip⟩ := List.mem_filterMap.1 h
  exact clipSpan_some clip

theorem drawCaptured_filed (setup : c.setup = some g) (area : c.area = some (wa, ha)) :
    Filed ha (clippedSpans c g wa ha) (drawCaptured c) := by
  rw [drawCaptured_some setup area]
  refine filed_foldl _ [] _ (filed_nil ha) fun x hx => ?_
  obtain ⟨low, high, _⟩ := clippedSpans_inside hx
  exact ⟨(Int.natCast_nonneg _).trans low, high⟩

/-- Every span of a drawing is one of the clipped ones. -/
theorem mem_drawCaptured {x : Span} (setup : c.setup = some g) (area : c.area = some (wa, ha)) (h : x ∈ (drawCaptured c).bank) :
    x ∈ clippedSpans c g wa ha := by
  have onRow : x ∈ rowSpans (drawCaptured c).bank x.row := List.mem_filter.2 ⟨h, decide_eq_true rfl⟩
  rw [(drawCaptured_filed setup area).rows] at onRow
  exact (List.mem_filter.1 (List.mem_of_mem_take onRow)).1

end

/-! ### Segments (R94, R95) -/

theorem pathPoint_eq (g : GuideSetup) (path : Option Int) (e : Int) (yb : Nat) : pathPoint g path e yb =
    match lineX path e (g.vehicle.overhang + yb) with
    | none => none
    | some x => projectPoint g.calib x yb := by
  unfold pathPoint
  cases lineX path e (g.vehicle.overhang + yb) <;> rfl

theorem marks_eq (f : Nat → List Segment) (d1 d2 d3 : Nat) : ([d1, d2, d3].filter fun d => decide (d ≠ 0)).flatMap f =
    (if d1 = 0 then [] else f d1) ++ (if d2 = 0 then [] else f d2) ++ (if d3 = 0 then [] else f d3) := by
  by_cases h1 : d1 = 0 <;> by_cases h2 : d2 = 0 <;> by_cases h3 : d3 = 0 <;> simp [h1, h2, h3]

/-- Settles O35: each part of the computation by its lemma. -/
theorem guideGeometry : Obligations.GuideGeometry := by
  refine ⟨⟨⟨rfl, rfl⟩, fun i f h _ => tangentOf_between h, fun w a ok => ⟨radiusOf_none_iff, fun r => radiusOf_odd⟩,
    fun q => roundSqrt_nearest, fun e y => rfl, lineX_turn⟩, fun c x y => rfl, fun c g => ?_, fun u0 v0 u1 v1 colour width order => ?_,
    fun c => ⟨drawCaptured_none, fun g wa ha setup area => ?_⟩, fun c wa ha area => ?_⟩
  · intro v st path onLine
    have point : onLine = fun (e : Int) (yb : Nat) => pathPoint g path e yb := by
      funext e yb
      exact (pathPoint_eq g path e yb).symm
    clear_value onLine
    subst point
    intro beside joined static colour dynamic across mark
    unfold segmentsOf
    dsimp only
    rewrite [marks_eq]
    simp only [← List.append_assoc]
    rfl
  · intro spans h dv u first last more
    have level : (more : Int) = ((⟨u0, v0, u1, v1, colour, width⟩ : Slope).more : Int) := by
      unfold Slope.more
      split_ifs with long
      · exact if_pos long
      · exact if_neg long
    refine ⟨Slope.spansOf_reversed (x := ⟨u0, v0, u1, v1, colour, width⟩) order, ?_, fun sp => ?_⟩
    · show (spansOf (Slope.segment ⟨u0, v0, u1, v1, colour, width⟩)).Pairwise _
      rw [Slope.spans_eq (x := ⟨u0, v0, u1, v1, colour, width⟩) order]
      exact rowsFrom_rising fun _ => rfl
    · rw [level]
      exact Slope.mem_spans (x := ⟨u0, v0, u1, v1, colour, width⟩) order
  · intro made reach clip d
    have filed := drawCaptured_filed setup area
    have row (r : Int) : rowSpans (clippedSpans c g wa ha) r = (reach r).map clip := by
      have spans : clippedSpans c g wa ha = made.filterMap (clipSpan wa ha c.strip) := rfl
      rw [spans]
      exact rowSpans_clipped made r
    have count (r : Int) : (rowSpans (clippedSpans c g wa ha) r).length = (reach r).length := by rw [row, List.length_map]
    refine ⟨fun r => ?_, ?_, fun lost => ⟨?_, fun r below => ?_⟩⟩
    · rw [filed.rows, row, List.map_take]
    · rw [filed.dropped]
      simp only [count]
      exact congrArg List.sum (map_lifted _ fun r => (reach r).length - 8).symm
    · exact (filed.full lost).trans_eq (count _)
    · exact (count r).ge.trans (filed.lowest lost r below)
  · refine ⟨(bankOk_drawCaptured c).1, fun sp hsp => ?_⟩
    cases setup : c.setup with
    | none =>
      rw [drawCaptured_none (.inl setup)] at hsp
      cases hsp
    | some g => exact clippedSpans_inside (mem_drawCaptured setup area hsp)

end Sys2Proof.Proofs
end

section
/-! PROOFS. GRANT_END where a row has named what the end of the burst brings about (R138, R141). -/

namespace Sys2Proof.Proofs

open Sys2Proof.Machine Sys2Proof.Safety

/-- A port that is PENDING without a transaction, with the burst of a read in progress, 8 refreshes owed and PROC waiting long. No run
reaches it: a PENDING port has its transaction. -/
def portless : State := { State.reset with
  phase := .run
  ppw := { Reset.ppw none with port := .pending }
  fma := { Reset.fma with
    memory := .data ⟨.proc, 0, 4, .procRead [0], false⟩
    owed := 8
    waits := ⟨31, 0, 0, 0, 0, 0⟩ } }

/-- The wait count of PROC after a step. -/
def procWait : Host.Outcome State Fault Refusal → Option Nat
  | .next t => some (t.fma.waits.get .proc)
  | _ => none

/-- Without a transaction PROC_READ_COMPLETION completes nothing; but the end of the step takes away the wait count of PROC, whose burst
is in progress. -/
theorem portless_row : exec .procReadCompletion portless = .next (withdrawWaits portless) := rfl

/-- GRANT_END grants the refresh, PROC requests again and is passed over: at once, from its old count. -/
theorem portless_grantEnd : procWait (exec .grantEnd portless) = some 31 := by decide

theorem portless_rowThenGrantEnd : procWait (exec .grantEnd (withdrawWaits portless)) = some 1 := by decide

/-- Refutes O48: that a row and then GRANT_END are GRANT_END is stated of every state, without the hypothesis of the statement before it
that a PENDING port has its transaction; without one the row PROC_READ_COMPLETION alone resets the wait count of PROC. -/
theorem not_decisionOrder : ¬ Obligations.DecisionOrder := by
  intro h
  obtain ⟨_, _, rows, _⟩ := h
  have same : exec .grantEnd portless = exec .grantEnd (withdrawWaits portless) :=
    rows portless (withdrawWaits portless) .procReadCompletion (by decide) (by decide) portless_row (.inl ⟨[0], rfl, rfl⟩)
  have waits := congrArg procWait same
  rw [portless_grantEnd, portless_rowThenGrantEnd] at waits
  exact absurd waits (by decide)

end Sys2Proof.Proofs
end

section
/-! PROOFS. The contents of the SDRAM: what writes them at the end of a burst and at a capture start (R124, R130, R136, log entry 8),
and what leaves them, and the burst in progress, alone. -/

namespace Sys2Proof.Proofs

open Sys2Proof.Machine Sys2Proof.Safety

/-! ### The burst in progress -/

section
variable {s t u : State}

/-- The SDRAM is as it was, or as the burst in progress leaves it. -/
def Lands (s t : State) : Prop := t.mem = s.mem ∨ t.mem = s.memAfterBurst

theorem Lands.then (h : Lands s t) (k : u.mem = t.mem) : Lands s u := by
  rw [Lands, k]
  exact h

/-- The SDRAM, the burst in progress, the transaction of the port and the timer of the pin are as they were. -/
structure Still (s t : State) : Prop where
  mem : t.mem = s.mem
  memory : t.fma.memory = s.fma.memory
  tx : t.ppw.tx = s.ppw.tx
  revTimer : t.rvc.revTimer = s.rvc.revTimer

theorem Still.refl (s : State) : Still s s := ⟨rfl, rfl, rfl, rfl⟩

theorem Still.trans (h : Still s t) (k : Still t u) : Still s u :=
  ⟨k.mem.trans h.mem, k.memory.trans h.memory, k.tx.trans h.tx, k.revTimer.trans h.revTimer⟩

theorem Still.burst (h : Still s t) : t.burst = s.burst := by
  unfold State.burst
  rw [h.memory]

theorem Still.afterBurst (h : Still s t) : t.memAfterBurst = s.memAfterBurst := by
  unfold State.memAfterBurst State.burst State.burstAddr
  rw [h.mem, h.memory, h.tx]

theorem Still.lands (h : Still s t) (k : Lands t u) : Lands s u := by
  rw [Lands, ← h.mem, ← h.afterBurst]
  exact k

theorem Still.raise {k : EvKind} {d a : Word} (h : Still s t) : Still s (raise k d a t) := h.trans ⟨rfl, rfl, rfl, rfl⟩

theorem Still.raiseIf {k : EvKind} {d a : Word} {b : Bool} (h : Still s t) : Still s (raiseIf b k d a t) := by
  cases b
  · exact h
  · exact h.raise

theorem GuideOnly.still (h : GuideOnly s t) : Still s t := by
  obtain ⟨_, _, rfl⟩ := h
  exact ⟨rfl, rfl, rfl, rfl⟩

theorem VoicePOnly.still (h : VoicePOnly s t) : Still s t := by
  obtain ⟨_, _, _, rfl⟩ := h
  exact ⟨rfl, rfl, rfl, rfl⟩

theorem Still.triggerIf {b : Bool} (h : Still s t) : Still s (triggerIf b t) := by
  cases b
  · exact h
  · exact h.trans (trigger_guideOnly t).still

theorem Still.syncVoiceP {z : Nat} (h : Still s t) : Still s (syncVoiceP z t) := h.trans (syncVoiceP_only z t).still

theorem still_enterNormal (h : s.rvc.st ≠ .normal) : Still s (enterNormal s) := by
  obtain ⟨_, e⟩ := enterNormal_eq h
  rw [e]
  exact ⟨rfl, rfl, rfl, rfl⟩

/-! ### The timers of the millisecond -/

theorem still_linkExpiry (o : Rear) (s : State) : Still s (linkExpiry o s) := by
  unfold linkExpiry
  dsimp only
  split
  · refine Still.raiseIf ?_
    exact ⟨rfl, rfl, rfl, rfl⟩
  · exact .refl s

theorem still_presenceExpiry (s : State) : Still s (presenceExpiry s) := by
  unfold presenceExpiry
  split
  · refine Still.raise ?_
    exact ⟨rfl, rfl, rfl, rfl⟩
  · exact .refl s

theorem still_degraded {r : Rvc} (h : r.revTimer = s.rvc.revTimer) (reason : Word) (f : Nat) : Still s (degraded reason r f s) := by
  refine Still.raise ?_
  exact ⟨rfl, rfl, rfl, h⟩

theorem still_engageExpiry (s : State) : Still s (engageExpiry s) := by
  by_cases due : s.rvc.engageTimer = some 0 ∧ s.rvc.st = .engaging
  · obtain ⟨f, e⟩ := engageExpiry_due due.1 due.2
    rw [e]
    exact still_degraded (by rfl) 1 f
  · rw [engageExpiry, if_neg due]
    exact .refl s

theorem still_staleExpiry (s : State) : Still s (staleExpiry s) := by
  by_cases due : s.rvc.staleTimer = some 0
  · by_cases live : s.rvc.st = .live
    · obtain ⟨f, e⟩ := staleExpiry_live due live
      rw [e]
      exact still_degraded (by rfl) 2 f
    · have e : staleExpiry s = (s.setRvc { s.rvc with staleTimer := none }).markDirty := (if_pos due).trans (if_neg live)
      rw [e]
      exact ⟨rfl, rfl, rfl, rfl⟩
  · rw [staleExpiry, if_neg due]
    exact .refl s

theorem still_lingerExpiry (s : State) : Still s (lingerExpiry s) := by
  by_cases due : s.rvc.lingerTimer = some 0 ∧ s.rvc.st = .linger
  · rw [lingerExpiry_due due.1 due.2]
    exact still_enterNormal (by rw [due.2]; decide)
  · rw [lingerExpiry, if_neg due]
    exact .refl s

theorem still_steeringExpiry (s : State) : Still s (steeringExpiry s) := by
  by_cases due : s.gde.steering.timer = some 0
  · rw [steeringExpiry_due due]
    refine .triggerIf (.raiseIf ?_)
    exact ⟨rfl, rfl, rfl, rfl⟩
  · rw [steeringExpiry, if_neg due]
    exact .refl s

theorem still_obstacleExpiry (s : State) : Still s (obstacleExpiry s) := by
  by_cases due : s.gde.obstacle.timer = some 0
  · rw [obstacleExpiry_due due]
    refine .syncVoiceP (.triggerIf ?_)
    exact ⟨rfl, rfl, rfl, rfl⟩
  · rw [obstacleExpiry, if_neg due]
    exact .refl s

end

/-! ### A capture start -/

section
variable {s : State}

/-- A granted write of the port is in memory at a capture start (log entry 8). -/
theorem landGrantedWrite_lands (s : State) : Lands s (landGrantedWrite s) := by
  unfold landGrantedWrite
  split
  · rename_i q burst tx
    refine .inr ?_
    unfold State.memAfterBurst
    rw [burst, tx]
  · exact .inl rfl

theorem lands_startCapture (s : State) : Lands s (startCapture s).1 := by
  by_cases granted : s.burst = some .procWrite
  · rw [startCapture_eq, dropAtCaptureStart_none (s := cleared s) (captureHit_granted ((procGranted_iff (cleared s)).2 (.inl granted)))]
    exact Still.lands (t := cleared s) ⟨rfl, rfl, rfl, rfl⟩ (landGrantedWrite_lands _)
  · exact .inl (startCapture_mem granted)

theorem lands_evaluateR (s : State) : Lands s (evaluateR s) := by
  by_cases engages : Engages s
  · obtain ⟨f, rs, seu, g, e, _⟩ := evaluateR_engaged engages
    rw [e, engaged, entering_asked]
    show Lands s (entering s).1
    unfold entering
    split
    · exact lands_startCapture s
    · exact .inl rfl
  · exact .inl (evaluateR_unspoken engages).1

theorem evaluateR_revTimer (s : State) : (evaluateR s).rvc.revTimer = s.rvc.revTimer := by
  by_cases changes : s.requestLevel = s.rvc.request
  · rw [evaluateR_same changes]
  · obtain ⟨_, _, _, _, _, timer, _⟩ := evaluateR_frame changes
    exact timer

theorem syncCapture_mem (h : s.burst ≠ some .procWrite) (was : Bool) : (syncCapture was s).1.mem = s.mem := by
  unfold syncCapture
  split_ifs
  · exact startCapture_mem h
  · obtain ⟨ccu, e⟩ := stopCapture_only s
    rw [e]
  · rfl

/-! ### Commands that start capture -/

theorem doCameraEnable_mem (r : Rec) (h : s.burst ≠ some .procWrite) : (doCameraEnable r s).mem = s.mem := by
  unfold doCameraEnable
  dsimp only
  split_ifs
  · rfl
  · rfl
  · exact (keeps_raiseAll _ _).mem.trans (syncCapture_mem (s := (s.setCcu { s.ccu with enable := flag r.op1 0 }).markDirty) h _)

theorem cameraRead_mem (ws : List Word) (h : s.burst ≠ some .procWrite) : (cameraRead ws s).mem = s.mem := by
  unfold cameraRead
  split_ifs
  · rfl
  · split
    · rfl
    · rename_i c _
      let ccu : Ccu := { s.ccu with
        setup := some c, slots := List.replicate c.slots ⟨.free, 0⟩, lastOpened := c.slots - 1, vpd := 256, seen := 0, accepted := 0 }
      exact (keeps_raiseAll _ _).mem.trans (syncCapture_mem (s := (s.setCcu ccu).markDirty) h _)

theorem doReverseSetup_mem (r : Rec) (h : s.burst ≠ some .procWrite) : (doReverseSetup r s).mem = s.mem := by
  unfold doReverseSetup
  split
  · rfl
  · rename_i new _
    refine (Still.refl _).triggerIf.mem.trans ?_
    split_ifs
    · rfl
    · exact evaluateR_mem (s := (s.setRvc { s.rvc with setup := new }).markDirty) h

/-- The commands carried out at the arrival of their record leave the SDRAM alone: the burst that brought it has ended. -/
theorem runCommand_mem (k : Byte) (r : Rec) (h : s.burst ≠ some .procWrite) : (runCommand k r s).mem = s.mem := by
  by_cases enable : k.toNat = 16
  · rw [runCommand, enable]
    exact doCameraEnable_mem r h
  · by_cases setup : k.toNat = 17
    · rw [runCommand, setup]
      exact doReverseSetup_mem r h
    · exact (keeps_otherCommand r s enable setup).mem

end

end Sys2Proof.Proofs
end

section
/-! PROOFS. MemoryAndPendingPersist: the commands that may write the SDRAM write the burst in progress (R124, R130, R136), and only a
clear or a reset lets a pending flag fall (R167, R172, R175). -/

namespace Sys2Proof.Proofs

open Sys2Proof.Machine Sys2Proof.Safety

/-! ### The ends of bursts that write -/

section
variable {s : State}

theorem markEnded_mem (s : State) : (markEnded s).mem = s.mem := (keeps_markEnded s).mem

theorem lands_pixelsOver (s : State) : Lands s (pixelsOver s) := by
  unfold pixelsOver
  split
  · rename_i cells burst
    refine .inr ((markEnded_mem _).trans ?_)
    rw [State.memAfterBurst, burst]
  · exact .inl rfl

theorem lands_trailerOver (s : State) : Lands s (trailerOver s) := by
  unfold trailerOver
  split
  · rename_i ws _ _ _ _ burst _
    refine .inr ((markEnded_mem _).trans ?_)
    rw [State.memAfterBurst, burst]
  · exact .inl rfl

theorem lands_trailerHalfOver (s : State) : Lands s (trailerHalfOver s) := by
  unfold trailerHalfOver
  split
  · rename_i ws _ _ _ _ burst _
    refine .inr ((markEnded_mem _).trans ?_)
    rw [State.memAfterBurst, burst]
  · exact .inl rfl

theorem lands_recordOver (s : State) : Lands s (recordOver s) := by
  unfold recordOver
  split
  · rename_i ws burst
    refine .inr ((markEnded_mem _).trans ?_)
    rw [State.memAfterBurst, burst]
  · exact .inl rfl

theorem lands_statusBlockOver (s : State) : Lands s (statusBlockOver s) := by
  unfold statusBlockOver
  split
  · rename_i k ws burst
    split
    · refine .inr ((markEnded_mem _).trans ?_)
      rw [State.memAfterBurst, burst]
    · exact .inl rfl
  · exact .inl rfl

theorem lands_statusOver (s : State) : Lands s (statusOver s) := by
  unfold statusOver
  split
  · rename_i k ws burst
    split
    · exact .inl rfl
    · refine .inr ((markEnded_mem _).trans ?_)
      rw [State.memAfterBurst, burst]
  · exact .inl rfl

theorem recordEvents_mem (m : Cmu) (s : State) : (recordEvents m s).mem = s.mem :=
  ((keeps_raiseIf ..).trans (keeps_raiseIf ..) : Keeps [] s (recordEvents m s)).mem

theorem lands_consume (s : State) : Lands s (consume s) := by
  by_cases result : ∃ ws, s.burst = some (.result ws)
  · obtain ⟨ws, burst⟩ := result
    rw [consume_eq burst]
    refine .inr ((keeps_takeRecord _).mem.trans ((recordEvents_mem _ _).trans ((markEnded_mem _).trans ?_)))
    rw [State.memAfterBurst, burst]
  · have other : consume s = s := by
      unfold consume
      split
      · rename_i ws burst
        exact absurd ⟨ws, burst⟩ result
      · rfl
    rw [other]
    exact .inl rfl

/-! ### The end of a write of the port -/

/-- A word taken leaves the burst in progress alone. -/
theorem takeWatched_memory (off : Nat) (v : Word) (s : State) : (takeWatched off v s).fma.memory = s.fma.memory := by
  unfold takeWatched
  split
  · unfold takeCmdPost takeRecord
    dsimp only
    split_ifs <;> rfl
  · unfold takeEvtAck
    dsimp only
    split_ifs <;> rfl
  · unfold takePendClr
    dsimp only
    rw [dirtyIf_eq]
    rfl
  · unfold takePendClr
    dsimp only
    rw [dirtyIf_eq]
    rfl
  · unfold takeOccClr
    dsimp only
    rw [dirtyIf_eq]
    rfl
  · unfold takeOccClr
    dsimp only
    rw [dirtyIf_eq]
    rfl
  · rw [takeSteerWord_eq, storeSteering_eq rfl]
    exact (Still.refl _).triggerIf.memory
  · rw [takeObstacleWord_eq, storeObstacle_eq rfl]
    exact (Still.refl _).triggerIf.syncVoiceP.memory
  · unfold takeVehicle
    dsimp only
    rw [(evaluateR_leaves _).2.2, dirtyIf_eq]
    rfl
  · rfl
  · rfl

theorem takeWatched_mem (off : Nat) (v : Word) (h : s.burst ≠ some .procWrite) : (takeWatched off v s).mem = s.mem := by
  unfold takeWatched
  split
  · exact (keeps_takeCmdPost v s).mem
  · exact (keeps_takeEvtAck v s).mem
  · exact (keeps_takePendClr false v s).mem
  · exact (keeps_takePendClr true v s).mem
  · exact (keeps_takeOccClr false v s).mem
  · exact (keeps_takeOccClr true v s).mem
  · exact (keeps_takeSteerWord v s).mem
  · exact (keeps_takeObstacleWord v s).mem
  · unfold takeVehicle
    dsimp only
    rw [dirtyIf_eq]
    exact evaluateR_mem (s := { s.setTaken (fun t => { t with vehicle := v }) with seu := { s.seu with dirty := _ } }) h
  · exact (keeps_takeSampleClrWord v s).mem
  · rfl

/-- No burst of the port is in progress, and the contents are those of `s`. -/
structure Delivered (s t : State) : Prop where
  burst : t.burst ≠ some .procWrite
  mem : t.mem = s.mem

theorem Delivered.still {t u : State} (h : Delivered s t) (k : Still t u) : Delivered s u :=
  ⟨k.burst ▸ h.burst, k.mem.trans h.mem⟩

theorem Delivered.taken {t : State} (h : Delivered s t) (off : Nat) (v : Word) : Delivered s (takeWatched off v t) := by
  have same : (takeWatched off v t).burst = t.burst := by
    unfold State.burst
    rw [takeWatched_memory]
  exact ⟨same ▸ h.burst, (takeWatched_mem off v h.burst).trans h.mem⟩

theorem Delivered.word {t : State} (h : Delivered s t) (a : Nat) (w : WriteWord) : Delivered s (deliverWord a w t) := by
  unfold deliverWord
  refine iteInduction (fun _ => ?_) (fun _ => h)
  dsimp only
  split
  · exact h
  · exact h.taken ..
  · exact h.still (Still.refl t).raise

theorem Delivered.words {t : State} (h : Delivered s t) (a : Nat) (ws : List WriteWord) : Delivered s (deliverWords a ws t) := by
  induction ws generalizing a t with
  | nil => exact h
  | cons w ws ih =>
    rw [deliverWords_cons]
    exact ih (h.word a w) _

theorem lands_writeOver (s : State) : Lands s (writeOver s) := by
  unfold writeOver
  split
  · rename_i q burst tx
    dsimp only
    let u : State := { s with
      mem := writeCells s.mem (requestCells (requestAddr q) q.data), ppw := { s.ppw with tx := none } }
    have ended : Delivered u (markEnded u) := ⟨by rw [burst_markEnded]; nofun, markEnded_mem u⟩
    refine .inr ((keeps_completeTx ..).mem.trans ((ended.words _ _).mem.trans ?_))
    rw [State.memAfterBurst, burst, tx]
  · exact .inl rfl

/-! ### The end of a grant -/

theorem noWrite_markEnded (s : State) : (markEnded s).burst ≠ some .procWrite := by
  rw [burst_markEnded]
  nofun

theorem noWrite_arriveAs (k : Byte) (r : Rec) (s : State) : (arriveAs k r s).burst ≠ some .procWrite := noWrite_markEnded _

theorem onReadEnd_camera_mem (s : State) : (onReadEnd 14 cameraRead s).mem = s.mem := by
  unfold onReadEnd
  split
  · split
    · exact (cameraRead_mem _ (noWrite_markEnded s)).trans (markEnded_mem s)
    · rfl
  · rfl

theorem readEnds_mem (s : State) : (readEnds s).mem = s.mem := by
  by_cases camera : s.cmu.cmd.kind.toNat = 14
  · rw [readEnds, camera]
    exact onReadEnd_camera_mem s
  · exact (keeps_otherRead s camera).mem

theorem lands_burstOver (s : State) : Lands s (burstOver s) := by
  unfold burstOver
  split
  · exact .inl rfl
  · exact .inl (keeps_readOver s).mem
  · exact lands_writeOver s
  · exact .inl (keeps_lineOver s).mem
  · exact lands_pixelsOver s
  · split
    · exact lands_trailerOver s
    · exact lands_trailerHalfOver s
  · exact lands_recordOver s
  · exact .inl ((runCommand_mem _ _ (noWrite_arriveAs _ _ s)).trans (keeps_arriveAs ..).mem)
  · split
    · exact .inl (readEnds_mem s)
    · exact .inl (markEnded_mem _)
  · exact lands_consume s
  · split
    · exact lands_statusBlockOver s
    · exact lands_statusOver s

theorem lands_doGrantEnd (s : State) : Lands s (doGrantEnd s) := by
  unfold doGrantEnd
  split
  · exact (lands_burstOver s).then (keeps_decideAtEnd _).mem
  · exact .inl (keeps_decideAtEnd s).mem
  · exact .inl rfl
  · exact .inl rfl

/-! ### The millisecond -/

/-- R is evaluated at most once in a millisecond, since the timer of the pin has stopped then. -/
def Ticked (s t : State) : Prop := Still s t ∨ t.rvc.revTimer = none ∧ Lands s t

theorem Ticked.still {t u : State} (h : Ticked s t) (k : Still t u) : Ticked s u := by
  rcases h with h | ⟨stopped, h⟩
  · exact .inl (h.trans k)
  · exact .inr ⟨k.revTimer.trans stopped, h.then k.mem⟩

theorem revExpiry_due (h : s.rvc.revTimer = some 0) : (revExpiry s).rvc.revTimer = none ∧ Lands s (revExpiry s) := by
  unfold revExpiry
  rw [if_pos h]
  dsimp only
  split
  · exact ⟨rfl, .inl rfl⟩
  · refine ⟨evaluateR_revTimer _, ?_⟩
    exact lands_evaluateR (((s.setRvc { s.rvc with revTimer := none }).setRvc
      { s.rvc with revTimer := none, debounced := s.rvc.rev }).markDirty)

theorem lands_revExpiry (s : State) : Lands s (revExpiry s) := by
  by_cases due : s.rvc.revTimer = some 0
  · exact (revExpiry_due due).2
  · rw [revExpiry, if_neg due]
    exact .inl rfl

theorem Ticked.revExpiry {t : State} (h : Ticked s t) : Ticked s (revExpiry t) := by
  by_cases due : t.rvc.revTimer = some 0
  · rcases h with h | ⟨stopped, _⟩
    · obtain ⟨stopped, lands⟩ := revExpiry_due due
      exact .inr ⟨stopped, h.lands lands⟩
    · rw [stopped] at due
      cases due
  · rw [Machine.revExpiry, if_neg due]
    exact h

theorem Ticked.expiry {f : State → State} {t : State} (hf : IsExpiry f) (h : Ticked s t) : Ticked s (f t) := by
  cases hf with
  | link o => exact h.still (still_linkExpiry o t)
  | presence => exact h.still (still_presenceExpiry t)
  | rev => exact h.revExpiry
  | engage => exact h.still (still_engageExpiry t)
  | stale => exact h.still (still_staleExpiry t)
  | linger => exact h.still (still_lingerExpiry t)
  | steering => exact h.still (still_steeringExpiry t)
  | obstacle => exact h.still (still_obstacleExpiry t)

theorem lands_doTick (s : State) : Lands s (doTick s) := by
  have served : Ticked s (expireDue s) := expireDue_keeps (P := Ticked s) (fun _ hf _ hu => hu.expiry hf)
    (fun _ hu => hu.still ⟨rfl, rfl, rfl, rfl⟩) s (.inl (.refl s))
  have advanced : (doTick s).mem = (expireDue s).mem := (keeps_advanceMs _).mem
  rcases served with still | ⟨_, lands⟩
  · exact .inl (advanced.trans still.mem)
  · exact lands.then advanced

/-! ### Every command -/

theorem takeVehicle_lands (v : Word) (s : State) : Lands s (takeVehicle v s) := by
  unfold takeVehicle
  dsimp only
  rw [dirtyIf_eq]
  exact Still.lands ⟨rfl, rfl, rfl, rfl⟩ (lands_evaluateR _)

theorem onArrival_mem {f : Rec → State → State} (h : ∀ r u, u.burst ≠ some .procWrite → (f r u).mem = u.mem) (k : Byte) (r : Rec)
    (s : State) : (onArrival k r f s).mem = s.mem := by
  unfold onArrival
  split
  · exact (h r _ (noWrite_arriveAs k r s)).trans (keeps_arriveAs k r s).mem
  · rfl

/-- POR apart, no command makes anything else of the SDRAM than the burst in progress does. -/
theorem effect_lands (i : Instr) (s : State) : Lands s (effect i s) ∨ ∃ m c, i = .por m c := by
  by_cases stores : MayStore i
  · cases i
    case por m c => exact .inr ⟨m, c, rfl⟩
    case resetNAssert =>
      refine .inl ?_
      show Lands s (doResetAssert s)
      unfold doResetAssert
      split
      · exact .inl rfl
      · exact .inr rfl
    case resetNRelease m c =>
      refine .inl (.inl ?_)
      show (doResetRelease m c s).mem = s.mem
      unfold doResetRelease
      split <;> rfl
    case procWriteCompletion => exact .inl (lands_writeOver s)
    case grantEnd => exact .inl (lands_doGrantEnd s)
    case statusWriteEnd => exact .inl (lands_statusOver s)
    case eventRecordWritten => exact .inl (lands_recordOver s)
    case consumption => exact .inl (lands_consume s)
    case trailerWriteComplete => exact .inl (lands_trailerOver s)
    case cameraSetupReadEnd => exact .inl (.inl (onReadEnd_camera_mem s))
    case cameraEnable r => exact .inl (.inl (onArrival_mem (fun r _ h => doCameraEnable_mem r h) 16 r s))
    case reverseSetup r => exact .inl (.inl (onArrival_mem (fun r _ h => doReverseSetup_mem r h) 17 r s))
    case vehicle v => exact .inl (takeVehicle_lands v s)
    case revTimerExpiry => exact .inl (lands_revExpiry s)
    case partTimeTick => exact .inl (lands_doTick s)
    all_goals exact absurd stores id
  · exact .inl (.inl ((effect_keeps i s).2.2 stores).mem)

theorem exec_lands {i : Instr} {t : State} (h : exec i s = .next t) : Lands s t ∨ ∃ m c, i = .por m c := by
  rcases exec_next h with rfl | rfl | rfl
  · exact .inl (.inl rfl)
  · exact effect_lands i s
  · exact (effect_lands i s).imp_left fun k => k.then (keeps_settle _).mem

end

/-- Settles O4: the contents by what each command may write, the pending flags by the commands that may clear them. -/
theorem memoryAndPendingPersist : Obligations.MemoryAndPendingPersist := by
  intro i s t h
  refine ⟨or_assoc.1 (exec_lands h), fun por assert release clr write grant => ?_⟩
  have clears : ¬MayClear i := by
    rintro (⟨m, c, k⟩ | k | ⟨m, c, k⟩ | ⟨b, v, k⟩ | k | k)
    · exact por m c k
    · exact assert k
    · exact release m c k
    · exact clr b v k
    · exact write k
    · exact grant k
  exact ((exec_keeps h).2.1 clears).rule .pendingStays (by decide)

end Sys2Proof.Proofs
end
